-- ==== Sys2Proof/Word.lean ====
section
/-! DEFINITION. The word types of the part: only what the manual reads, wraps or sends as bits. -/

namespace Sys2Proof

/-- A byte of a frame or of a stored record. -/
abbrev Byte := BitVec 8

/-- A station address on the Joint Bus, 0..15 (R58, R141). -/
abbrev Address := BitVec 4

/-- An axis index, 0..7 (R58). -/
abbrev Axis := BitVec 3

/-- A motor angle θ, 0..16383 (R35). -/
abbrev Theta := BitVec 14

/-- A coarse angle G, 0..4095 (R35). -/
abbrev CoarseAngle := BitVec 12

/-- An angle or a residue in sixteenths of a coarse count, 0..65535 (R15). -/
abbrev Sixteenths := BitVec 16

/-- An epoch count or epoch tag, 0..255, wrapping (R23). -/
abbrev Tag := BitVec 8

/-- A quarter of a motor revolution (R43). -/
abbrev Quadrant := BitVec 2

/-- One flag per bin of the correction table; bit b stands for bin b (R100, R116). -/
abbrev BinMask := BitVec 32

/-- One flag per fault kind, by kind code (R161, R174). -/
abbrev KindSet := BitVec 16

end Sys2Proof
end

