-- ==== Sys2Proof/Config.lean ====
section
/-! DEFINITION. The free values: what the manual leaves open and the machine goes on through. -/

namespace Sys2Proof

/-- The order of two effects of one event where the manual allows both orders and the order shows
(R81, R83): `true` takes the Fault Supervisor first. The argument is a counter of State, so each
choice is a fresh one. Log 8. -/
opaque Config.supervisorFirst : Nat → Bool

/-- What a 32-bit home of a signed quantity holds when the exact value lies outside 32 bits, which
the manual does not state (the joint zero of R98, the home count of R93). Log 24. -/
opaque Config.outside32 : Int → Int

/-- The effective count E of a coarse evaluation whose coupling match was made while the calibration was
invalid, so that K was not formed (R12, R13, R103): the manual states none. The argument is a counter of
State, so each is a fresh one. Log 19. -/
opaque Config.unformedCount : Nat → Int

end Sys2Proof
end

