-- ==== Sys2Proof/Syntax.lean ====
section
/-! DEFINITION. The commands of the part, one constructor per row of spec/opcode_table.json, and the
types of their operands. -/

namespace Sys2Proof

/-- The direction of approach to the home flag (R100, field 0Bh). -/
inductive Approach where
  | pos
  | neg
deriving DecidableEq, Repr

/-- The reduction ratio N_num / N_den (R100, field 01h). -/
structure Ratio where
  num : Nat
  den : Nat
deriving DecidableEq, Repr

/-- The travel window J_min, J_max (R100, field 07h). -/
structure Window where
  lo : Int
  hi : Int
deriving DecidableEq, Repr

/-- The fields of the calibration, 01h to 12h (R100). `none` is UNSET (R99). -/
structure CalRecord where
  ratio : Option Ratio
  z : Int
  zg : Sixteenths
  c : Int
  corr : Vector Int 32
  lm : Nat
  window : Option Window
  m : Nat
  v : Nat
  driftLimit : Nat
  thetaH : Theta
  approach : Approach
  h : Int
  gh : Sixteenths
  homeCoarseTol : Nat
  guardMin : Nat
  homeResidualTol : Nat
  learned : Bool
  coverage : BinMask
deriving DecidableEq, Repr

/-- The action of a fault kind while it is active (R175). -/
inductive Action where
  | report
  | hold
  | halt
deriving DecidableEq, Repr

/-- The fault kinds, in the order of their codes (R175). -/
inductive FaultKind where
  | motorEncoder
  | coarseEncoder
  | trackJump
  | vernierDrift
  | restoreConflict
  | couplingLost
  | travelLimit
  | sampleStuck
  | linkDetached
  | addressClash
  | memberAbsent
  | calInvalid
  | setupInvalid
  | backupLow
  | storeFailed
deriving DecidableEq, Repr

/-- The recovery of MOTOR_ENCODER (R105, field 0Ah). -/
inductive Recovery where
  | latched
  | retry
deriving DecidableEq, Repr

/-- The fields of the setup, 01h to 12h (R105). `actions` is indexed by kind code. -/
structure Setup where
  members : List Address
  source : Option Address
  waitSet : List Address
  period : Nat
  hold : Nat
  peerTimeout : Nat
  missLimit : Nat
  beacon : Nat
  actions : Vector Action 15
  recovery : Recovery
  retryDelay : Nat
  retainedAlone : Bool
  vernierAlone : Bool
  settle : Nat
  bite : Nat
  sweepMin : Nat
  sweepSpeed : Nat
  jumpLimit : Nat
deriving DecidableEq, Repr

/-- One area of the nonvolatile store (R108, R110): without a CRC of its contents, or a record and
the CRC-16 word written after it. -/
inductive Area (α : Type) where
  | unwritten
  | written (record : α) (crc : BitVec 16)
deriving DecidableEq, Repr

/-- What the read-back of a store write found (R111): the area as it was written, or other contents. -/
inductive ReadBack where
  | asWritten
  | cal (found : Area CalRecord)
  | setup (found : Area Setup)
deriving DecidableEq, Repr

/-- The levels of the strap pins (R58): `fast` is BRS high, 5 Mbit/s. -/
structure Straps where
  address : Address
  axis : Axis
  fast : Bool
deriving DecidableEq, Repr

/-- The two encoder ports (R35). -/
inductive Port where
  | motor
  | coarse
deriving DecidableEq, Repr

/-- A complete word of an encoder (R35): the angle, the error bit and the check bits C1, C0. -/
inductive EncoderWord where
  | motor (angle : Theta) (error c1 c0 : Bool)
  | coarse (angle : CoarseAngle) (error c1 c0 : Bool)
deriving DecidableEq, Repr

/-- What the pins give at a sample instant: whether HOME is active (R39), and for each port whether
a read still in progress had found its acknowledge (R35). Log 10. -/
structure SampleInputs where
  home : Bool
  motorAck : Bool
  coarseAck : Bool
deriving DecidableEq, Repr

/-- The causes of a RETAIN entry that come from outside (R45). RESTART comes with a reply (R198). -/
inductive EntryCause where
  | powerLoss
  | reset
deriving DecidableEq, Repr

/-- A complete word of the motor encoder as the tracker reads it (R35, R48). -/
structure TrackerWord where
  angle : Theta
  error : Bool
  c1 : Bool
  c0 : Bool
deriving DecidableEq, Repr

/-- The endings of a failed tracker read (R48): a complete word that fails its checks, or no complete
word in time. -/
inductive TrackerFailure where
  | word (w : TrackerWord)
  | timeout
deriving DecidableEq, Repr

/-- The returns from OFF (R55): VMAIN good with RESETn high, VBAK at 2.3 V with VMAIN absent, or
VMAIN good with RESETn low, then with VBAK below 2.3 V or not. -/
inductive OffReturn where
  | startup (straps : Straps)
  | backup
  | heldReset (vbakLow : Bool)
deriving DecidableEq, Repr

/-- The commands, one per row of spec/opcode_table.json. A command that may enter RETAIN brings whether
VBAK is below 2.3 V at that moment (R46, log 10); a term that leaves it out says that it is not. `sent` is
how many bits of its frame the transmitter had sent before the one it misread (R146, R147, log 10): left
out, the third header bit, which every frame of a node sends recessive, and the first control bit. -/
inductive Instr where
  | smpRisingEdge (pins : SampleInputs)
  | smpFallingEdge
  | periodTimerExpiry
  | holdExpiry
  | sampleLineStuck (pins : SampleInputs)
  | freePeriodExpiry (pins : SampleInputs)
  | rejoinArmed
  | syncedRun16
  | alignmentTimeout
  | realignment
  | encoderReadComplete (word : EncoderWord)
  | encoderReadTimeout (port : Port) (ack : Bool)
  | motorFailureRun3
  | motorGoodRun8
  | coarseFailureRun3
  | coarseGoodRun8
  | portPresenceTimeout (port : Port)
  | driftRun3
  | couplingLost
  | peerAbsent (address : Address)
  | quietRun64
  | retainEntry (cause : EntryCause) (vbakLow : Bool)
  | trackerReadStart
  | trackerReadGood (word : TrackerWord)
  | trackerReadFailed (ending : TrackerFailure)
  | trackerUnchanged64
  | trackerFailedRun3
  | backupCollapse (vmainGood : Bool)
  | restartDwellExpiry
  | retainExit (straps : Straps)
  | offReturn (how : OffReturn)
  | storeLoadComplete
  | selfCheckReadback (setupMatch calMatch : Bool)
  | backupLowRaise
  | backupLowClear
  | linkJoin
  | frameTxStart
  | arbitrationLost (sent : Nat := 3)
  | bitError (vbakLow : Bool := false) (sent : Nat := 9)
  | frameTxComplete (vbakLow : Bool := false)
  | frameReceived (bits : List Bool)
  | frameDiscard (bits : List Bool) (vbakLow : Bool := false)
  | intactCount32
  | linkRejoin
  | lineStuck
  | beacon
  | retryTimerExpiry
  | rdyLevelLow
  | rdyLevelHigh
  | settleExpiry
  | biteExpiry
  | storeVerify (found : ReadBack)
  | identify
  | readStatus
  | readFaults
  | readRestore
  | readHoming
  | readSweep
  | readPeer
  | calRead
  | setupRead
  | clearFaults
  | releaseGrant
  | releaseWithdraw
  | homeArm
  | homeLearn
  | homeAbort
  | zeroHere
  | acceptRestore
  | sweepStart
  | sweepEnd
  | sweepAbort
  | calWrite
  | setupWrite
  | store
  | restart
  | unknownRequest
  | lineIdle
  | lossOfVmainInRetain (vbakLow : Bool)
  | retentionStateLoss
  | storeCrcWritten
deriving DecidableEq, Repr

end Sys2Proof
end

