-- ==== Sys2Proof/Machine/Wire.lean ====
section
/-! DEFINITION. Frames of the Joint Bus and their bits on the line (R141, R142, R143, R148): the CRC,
the inserted bits, the transmitter's bits and the receiver's judgement. A bit is `false` when
dominant (0) and `true` when recessive (1). -/

namespace Sys2Proof.Machine

/-- A frame as R141 gives it; the payload length of the control byte is the payload's own length. -/
structure Frame where
  kind : BitVec 4
  source : Address
  dest : Address
  payload : List Byte
deriving DecidableEq, Repr

/-- The four kinds of R141. -/
def kindPosition : BitVec 4 := 3
def kindStatus : BitVec 4 := 6
def kindRequest : BitVec 4 := 9
def kindReply : BitVec 4 := 10

/-- The header byte: kind in bits 7..4, source in bits 3..0 (R141). -/
def Frame.header (f : Frame) : Byte := f.kind ++ f.source

/-- The control byte: destination in bits 7..4, payload length in bits 3..0 (R141). -/
def Frame.control (f : Frame) : Byte := f.dest ++ BitVec.ofNat 4 f.payload.length

/-- The bytes under the CRC (R143). -/
def Frame.bytes (f : Frame) : List Byte := f.header :: f.control :: f.payload

/-- A byte, most significant bit first (R141). -/
def byteBits (b : Byte) : List Bool :=
  [b.getLsbD 7, b.getLsbD 6, b.getLsbD 5, b.getLsbD 4, b.getLsbD 3, b.getLsbD 2, b.getLsbD 1, b.getLsbD 0]

/-- The bits of some bytes, in the order sent. -/
def bytesBits (bs : List Byte) : List Bool := bs.flatMap byteBits

/-- One bit into the CRC register, polynomial x^8+x^2+x+1 (R143). -/
def crc8Bit (c : BitVec 8) (b : Bool) : BitVec 8 :=
  if (c.getLsbD 7 ^^ b) then (c <<< 1) ^^^ 0x07#8 else c <<< 1

/-- The CRC of a frame: initial value FFh, no final inversion (R143). -/
def crc8 (bs : List Byte) : Byte := (bytesBits bs).foldl crc8Bit 0xFF#8

/-- The bits subject to insertion: start bit, header, control, payload, CRC (R141, R142). -/
def Frame.body (f : Frame) : List Bool := false :: bytesBits (f.bytes ++ [crc8 f.bytes])

/-- Bit insertion: one complementary bit after every run of 7 equal bits; the inserted bit begins
the next run (R142). `prev` and `run` are the last bit sent and the length of its run. -/
def insertBits (prev : Bool) (run : Nat) : List Bool → List Bool
  | [] => []
  | b :: bs =>
    let run' := if b = prev then run + 1 else 1
    if run' = 7 then b :: (!b) :: insertBits (!b) 1 bs else b :: insertBits b run' bs

/-- The end field: four recessive bits (R141). -/
def endField : List Bool := [true, true, true, true]

/-- A frame's bits on the line, from the start bit through the end field. -/
def Frame.wire (f : Frame) : List Bool := insertBits true 0 f.body ++ endField

/-- Why a receiver discards a frame (R148). -/
inductive Discard where
  | form
  | crc
  | length
deriving DecidableEq, Repr

/-- What a receiver makes of the bits of one frame (R148). `incomplete`: the bits end before the
judgement, or do not begin with a start bit. -/
inductive Reception where
  | intact (f : Frame)
  | discard (e : Discard)
  | incomplete
deriving DecidableEq, Repr

/-- The outcome of taking n bits off the line with the inserted bits removed. -/
inductive Removed where
  | bits (taken : List Bool) (prev : Bool) (run : Nat) (rest : List Bool)
  | form
  | short
deriving DecidableEq, Repr

/-- Put one more taken bit in front. -/
def Removed.push (b : Bool) : Removed → Removed
  | .bits t p r rest => .bits (b :: t) p r rest
  | .form => .form
  | .short => .short

/-- Bit removal at the receiver: the bit after each run of 7 is removed, and 8 equal bits are a form
error (R142). Takes n bits of the frame. -/
def removeBits : Nat → Bool → Nat → List Bool → Removed
  | 0, prev, run, rest => .bits [] prev run rest
  | _ + 1, _, _, [] => .short
  | n + 1, prev, run, b :: bs =>
    let run' := if b = prev then run + 1 else 1
    if run' = 7 then
      match bs with
      | [] => .short
      | c :: cs => if c = b then .form else (removeBits n c 1 cs).push b
    else (removeBits n b run' bs).push b

/-- A byte from its bits, most significant first. -/
def bitsByte (bs : List Bool) : Byte := bs.foldl (fun a b => (a <<< 1) ||| (if b then 1#8 else 0#8)) 0#8

/-- The first n bytes of a string of bits. -/
def takeBytes : Nat → List Bool → List Byte
  | 0, _ => []
  | n + 1, bs => bitsByte (bs.take 8) :: takeBytes n (bs.drop 8)

/-- The length rule of the kinds with a fixed payload (R148). -/
def Frame.lengthOk (f : Frame) : Bool :=
  (f.kind != kindPosition || f.payload.length == 13) && (f.kind != kindStatus || f.payload.length == 11)

/-- The judgement of the end field and the length, once the CRC agrees (R148). -/
def judgeEnd (f : Frame) (fin : List Bool) : Reception :=
  if (fin.take 4).any (fun b => !b) then .discard .form
  else if fin.length < 4 then .incomplete
  else if f.lengthOk then .intact f else .discard .length

/-- The judgement of payload and CRC, after the 17 bits of start bit, header and control (R148). -/
def receiveTail (header control : Byte) (prev : Bool) (run : Nat) (rest : List Bool) : Reception :=
  let len := (control.extractLsb' 0 4).toNat
  if len = 15 then .discard .form
  else
    match removeBits (8 * len + 8) prev run rest with
    | .form => .discard .form
    | .short => .incomplete
    | .bits tail _ _ fin =>
      let payload := takeBytes len tail
      if bitsByte (tail.drop (8 * len)) ≠ crc8 (header :: control :: payload) then .discard .crc
      else judgeEnd ⟨header.extractLsb' 4 4, header.extractLsb' 0 4, control.extractLsb' 4 4, payload⟩ fin

/-- A receiver's judgement of the bits of one frame, taken from its start bit on (R148). -/
def receive (line : List Bool) : Reception :=
  match line with
  | false :: _ =>
    match removeBits 17 true 0 line with
    | .form => .discard .form
    | .short => .incomplete
    | .bits head prev run rest =>
      receiveTail (bitsByte ((head.drop 1).take 8)) (bitsByte (head.drop 9)) prev run rest
  | _ => .incomplete

/-- The recessive run at the end of a string of bits (R140). -/
def trailingRecessive (line : List Bool) : Nat := (line.reverse.takeWhile id).length

/-- The dominant run at the end of a string of bits (R140). -/
def trailingDominant (line : List Bool) : Nat := (line.reverse.takeWhile not).length

end Sys2Proof.Machine
end

