-- ==== Sys2Proof/Machine/Types.lean ====
section
/-! DEFINITION. The records of the part's blocks, as the manual's tables give them. Every type is
plain data. A field of `Option` type is one the manual gives an empty or NONE value. -/

namespace Sys2Proof.Machine

/-! ### Pins -/

/-- The levels of the input pins a rule reads, as last reported (R24, R41, R45). Log 9. -/
structure Pins where
  vmainGood : Bool
  vbakLow : Bool
  resetLow : Bool
  smpHigh : Bool
deriving DecidableEq, Repr

/-! ### Epoch Unit (R23) -/

inductive SyncState where
  | synced
  | free
deriving DecidableEq, Repr

inductive AlignState where
  | aligning
  | aligned
deriving DecidableEq, Repr

/-- A timer whose duration passes outside the model (log 4). -/
inductive TimerState where
  | stopped
  | running
  | expired
deriving DecidableEq, Repr

/-- What the member frames with synced = yes stored in the current epoch carry together (R34). -/
inductive EpochFrames where
  | none
  | misaligned (tag : Tag)
  | mixed
deriving DecidableEq, Repr

structure EpochUnit where
  running : Bool
  count : Tag
  sync : SyncState
  timer : TimerState
  driveLow : Bool
  holding : Bool
  lowWatch : Bool
  highWatch : Bool
  rejoinArmed : Bool
  syncedRun : Nat
  alignment : AlignState
  alignEdges : Nat
  realignRun : Nat
  realignOffset : Tag
  realignCount : Nat
  epochSynced : Bool
  frames : EpochFrames
  instants : Nat
deriving DecidableEq, Repr

/-! ### Encoder Interface (R35 to R39) -/

/-- A port's last failure cause (R36). -/
inductive ReadCause where
  | none
  | check
  | encoderError
  | timeout
  | superseded
deriving DecidableEq, Repr

structure PortRecord where
  reading : Bool
  failRun : Nat
  goodRun : Nat
  lastCause : ReadCause
deriving DecidableEq, Repr

structure EncoderInterface where
  motor : PortRecord
  coarse : PortRecord
  homeLevel : Option Bool
  homeEdge : Bool
deriving DecidableEq, Repr

/-! ### Position Unit (R1) -/

inductive Direction where
  | none
  | forward
  | backward
deriving DecidableEq, Repr

/-- R1's record. `established`: a first good motor read of the start has set the start values (R37).
`evaluated`: a coarse result has been formed. `lastE`, `lastSj`: the effective count and s_j of the
last coarse evaluation (R98). `firstQuarter`: floor(P/4096) after the first good read (R44). -/
structure PositionUnit where
  established : Bool
  p : Int
  abs : Bool
  thetaLast : Theta
  deltaLast : Int
  failedRun : Nat
  s : Int
  playKnown : Bool
  acc : Int
  lastDir : Direction
  j : Int
  evaluated : Bool
  gq : Sixteenths
  jg : Int
  usable : Bool
  lastE : Int
  lastSj : Int
  driftRun : Nat
  firstQuarter : Int
deriving DecidableEq, Repr

/-- The motor read of the current epoch: not begun, pending, a counted epoch with its reported Δ
(R3, R4, R6, R8, R37), an extrapolated epoch with its P_x (R5), or an epoch without a count (R7). -/
inductive EpochMotor where
  | none
  | pending
  | counted (delta : Int)
  | extrapolated (px : Int)
  | noCount
deriving DecidableEq, Repr

/-- The coarse read of the current epoch. -/
inductive EpochCoarse where
  | none
  | pending
  | good (g : CoarseAngle)
  | failed
deriving DecidableEq, Repr

/-- The joint position of the current epoch (R12, R13). `e` is none where no E is formed. -/
structure Joint where
  j : Int
  saturated : Bool
  e : Option Int
  k : Int
deriving DecidableEq, Repr

/-- The working values of the current epoch. `considered`: the sweep considers it (R117). -/
structure EpochWork where
  motor : EpochMotor
  coarse : EpochCoarse
  joint : Option Joint
  evaluated : Bool
  considered : Bool
deriving DecidableEq, Repr

/-! ### Coupling record and Peer Table (R122, R128, R130) -/

/-- The values of the qualifying source frame (R132). -/
structure SourceFrame where
  p : Int
  absolute : Bool
  extrapolated : Bool
deriving DecidableEq, Repr

structure CouplingRecord where
  opened : Bool
  own : Bool
  source : Option SourceFrame
  matched : Bool
  prevMissed : Bool
  missCount : Nat
  lastAbsolute : Option Bool
deriving DecidableEq, Repr

inductive TagClass where
  | current
  | late
  | misaligned
deriving DecidableEq, Repr

/-- One entry (R122). Coded fields keep the code as published (log 30). -/
structure PeerEntry where
  address : Address
  heard : Bool
  axis : Option Axis
  nodeState : Option (BitVec 3)
  basis : Option (BitVec 3)
  trusted : Bool
  absolute : Bool
  tag : Option Tag
  tagClass : Option TagClass
  synced : Bool
  extrapolated : Bool
  p : Option Int
  j : Option Int
  faultClass : Option (BitVec 2)
  age : Nat
  absent : Bool
deriving DecidableEq, Repr

structure PeerTable where
  entries : List PeerEntry
  quietRun : Option Nat
deriving DecidableEq, Repr

/-! ### Retention Domain (R43, R46, R48) -/

inductive RetainedCause where
  | none
  | powerLoss
  | reset
  | restart
deriving DecidableEq, Repr

inductive Validity where
  | valid
  | unanchored
  | doubtful
  | lost
deriving DecidableEq, Repr

inductive RetainedReason where
  | none
  | cold
  | backup
  | step
  | encoder
  | motion
  | range
deriving DecidableEq, Repr

structure TurnMirror where
  t : Int
  quadrant : Quadrant
  abs : Bool
  s : Int
  playKnown : Bool
  lastDir : Direction
  held : Bool
deriving DecidableEq, Repr

structure RetainedRecord where
  cause : RetainedCause
  anchored : Bool
  validity : Validity
  reason : RetainedReason
  tRet : Int
  qRet : Quadrant
  s : Int
  playKnown : Bool
  lastDir : Direction
  netTurns : Int
  reentries : Nat
deriving DecidableEq, Repr

inductive TrackerInterval where
  | fast
  | slow
deriving DecidableEq, Repr

structure Tracker where
  interval : TrackerInterval
  unchangedRun : Nat
  failedRun : Nat
  running : Bool
  reading : Bool
deriving DecidableEq, Repr

/-- `stateLost`: both supplies have been below their levels (R41). `dwellMet`: the RESTART dwell is
met or does not apply (R54). -/
structure RetentionDomain where
  mirror : TurnMirror
  record : RetainedRecord
  tracker : Tracker
  stateLost : Bool
  dwellMet : Bool
deriving DecidableEq, Repr

/-! ### Reference Controller (R57, R69, R76, R77, R116) -/

inductive RestoringSub where
  | waitSource
  | decide
deriving DecidableEq, Repr

inductive HomingSub where
  | waitPeers
  | armed
  | capture
deriving DecidableEq, Repr

inductive NodeState where
  | off
  | retain
  | startup
  | restoring (sub : RestoringSub)
  | unreferenced
  | homing (sub : HomingSub)
  | referenced
  | calibrating
deriving DecidableEq, Repr

inductive RestorePhase where
  | initial
  | confirmation
deriving DecidableEq, Repr

inductive Basis where
  | none
  | retained
  | vernier
  | chosen
  | homed
  | manual
deriving DecidableEq, Repr

inductive UnrefReason where
  | none
  | noCal
  | insufficient
  | conflict
  | fault
deriving DecidableEq, Repr

/-- The conflict record (R69). -/
structure ConflictRecord where
  kind : RestorePhase
  retainedSide : Int
  vernierSide : Int
  decideTurn : Int
  r : Int
  margin : Int
  tag : Tag
deriving DecidableEq, Repr

inductive StartKind where
  | cold
  | warm
  | reset
  | restart
deriving DecidableEq, Repr

/-- Why a retained record is UNUSABLE (R65). -/
inductive Unusable where
  | validity
  | continuity
  | twoQuadrant
  | range
deriving DecidableEq, Repr

inductive RetainedOutcome where
  | adjusted (t : Int)
  | unusable (why : Unusable)
deriving DecidableEq, Repr

inductive VernierStatus where
  | unavailable
  | clear
  | weak
  | outside
  | ambiguous
deriving DecidableEq, Repr

/-- The vernier result (R19). -/
structure VernierResult where
  status : VernierStatus
  tv : Int
  r : Int
  margin : Int
  candidates : Nat
deriving DecidableEq, Repr

inductive RestoreDecision where
  | pending
  | noCal
  | confirmed
  | retainedAlone
  | vernierAlone
  | insufficient
  | conflict
  | reconfirmed
  | kept
deriving DecidableEq, Repr

/-- The restore report (R76). `live`: the retained validity is shown as LIVE (R73). -/
structure RestoreReport where
  kind : StartKind
  phase : RestorePhase
  cause : RetainedCause
  live : Bool
  validity : Validity
  reason : RetainedReason
  tRet : Int
  qRet : Quadrant
  qNow : Option Quadrant
  outcome : Option RetainedOutcome
  vernier : Option VernierResult
  guided : Bool
  decision : RestoreDecision
  basis : Basis
  decideTag : Option Tag
deriving DecidableEq, Repr

structure NodeRecord where
  state : NodeState
  phase : RestorePhase
  basis : Basis
  confirmed : Bool
  reason : UnrefReason
  continuity : Bool
  conflict : Option ConflictRecord
  trusted : Bool
  report : RestoreReport
deriving DecidableEq, Repr

inductive HomingMode where
  | home
  | learn
deriving DecidableEq, Repr

inductive HomingOutcome where
  | none
  | success
  | learned
  | failed
  | aborted
deriving DecidableEq, Repr

inductive HomingReason where
  | none
  | reversed
  | flagLost
  | margin
  | sourceMissed
  | residual
  | coarseMismatch
  | noCoarse
  | range
  | peerLost
  | fault
deriving DecidableEq, Repr

/-- The node state a homing came from (R77). -/
inductive StateBefore where
  | unreferenced
  | referenced
deriving DecidableEq, Repr

/-- The values latched at the acceptance of a homing (R77). -/
structure HomingLatch where
  thetaH : Theta
  approach : Approach
  guardMin : Nat
deriving DecidableEq, Repr

/-- The homing record (R77); an empty field is `none`. -/
structure HomingRecord where
  mode : HomingMode
  outcome : HomingOutcome
  reason : HomingReason
  before : Option StateBefore
  latch : Option HomingLatch
  edgeTag : Option Tag
  pFlag : Option Int
  captureTag : Option Tag
  pCap : Option Int
  eCap : Option Int
  tShift : Option Int
  residual : Option Int
  coarseDiff : Option Int
  coarseChecked : Bool
deriving DecidableEq, Repr

/-- What a homing in progress keeps beside its record: the crossing base (R83, R85), whether a
capture awaits completion (R89), and the peers a test of R80 has found trusted (R81). -/
structure HomingOp where
  pPrev : Int
  thetaPrev : Theta
  captured : Bool
  found : List Address
deriving DecidableEq, Repr

inductive SweepOutcome where
  | none
  | running
  | ended
  | aborted
  | discarded
deriving DecidableEq, Repr

/-- The sweep record (R116). -/
structure SweepRecord where
  outcome : SweepOutcome
  sums : Vector Int 32
  counts : Vector Nat 32
  skipped : Nat
  overflow : Nat
  updated : BinMask
  clamped : BinMask
deriving DecidableEq, Repr

/-! ### Calibration Store (R99, R105, R110, R115) -/

structure WorkingCal where
  data : CalRecord
  valid : Bool
  dirty : Bool
deriving DecidableEq, Repr

structure SetupCopies where
  image : Setup
  latched : Setup
  dirty : Bool
deriving DecidableEq, Repr

inductive StoreTarget where
  | cal
  | setup
deriving DecidableEq, Repr

inductive StoreOutcome where
  | none
  | verified
  | failed
deriving DecidableEq, Repr

/-- The two nonvolatile areas, the store status (R110), the snapshots (R109) and the written-since
markers (R112). `writing` is the target of the write in progress. -/
structure StoreUnit where
  calArea : Area CalRecord
  setupArea : Area Setup
  writing : Option StoreTarget
  crcWritten : Bool
  calSnapshot : CalRecord
  setupSnapshot : Setup
  calOutcome : StoreOutcome
  setupOutcome : StoreOutcome
  calMarked : Bool
  setupMarked : Bool
deriving DecidableEq, Repr

inductive RecordCheck where
  | good
  | badCrc
  | badContent
deriving DecidableEq, Repr

inductive CopyCheck where
  | isMatch
  | mismatch
  | notApplicable
deriving DecidableEq, Repr

inductive PortPresence where
  | pending
  | present
  | notFound
deriving DecidableEq, Repr

structure SelfCheck where
  setupRecord : RecordCheck
  calRecord : RecordCheck
  setupCopy : CopyCheck
  calCopy : CopyCheck
  motorPort : PortPresence
  coarsePort : PortPresence
deriving DecidableEq, Repr

/-! ### Link Controller (R140) -/

inductive TxOrigin where
  | position
  | status
  | reply
deriving DecidableEq, Repr

/-- The transmit register, with the bits that stand on the line (R141, R142). -/
structure Transmission where
  frame : Frame
  origin : TxOrigin
  bits : List Bool
deriving DecidableEq, Repr

/-- A reply of the REPLY queue (R153). `restart`: the reply to an accepted RESTART (R198).
`inTx`: marked in transmission (R149). -/
structure Reply where
  frame : Frame
  restart : Bool
  inTx : Bool
deriving DecidableEq, Repr

/-- A request of the request queue (R152). `broadcast`: it was sent to 15. -/
structure Request where
  source : Address
  broadcast : Bool
  payload : List Byte
deriving DecidableEq, Repr

inductive HealthState where
  | engaged
  | caution
  | listen
  | detached
deriving DecidableEq, Repr

/-- `awaitIdle`: the receiver waits for the next idle, after a discard or a bit error (R147, R148). -/
structure LinkController where
  watching : Bool
  joined : Bool
  awaitIdle : Bool
  health : Nat
  intact : Nat
  positionSlot : Option Frame
  statusSlot : Option Frame
  tx : Option Transmission
  replies : List Reply
  requests : List Request
  recessiveRun : Nat
  dominantRun : Nat
  stuck : Bool
  idlePeriods : Nat
  beaconCount : Nat
  requestOverrun : Nat
  publishOverrun : Nat
  stuckCount : Nat
deriving DecidableEq, Repr

/-! ### Fault Supervisor (R174) and Motion Gate (R164) -/

/-- The reason of a TRACK_JUMP notice, none for another kind (R183). -/
inductive JumpReason where
  | none
  | jump
  | range
deriving DecidableEq, Repr

structure FaultRecord where
  kind : FaultKind
  tag : Tag
  state : NodeState
  reason : JumpReason
deriving DecidableEq, Repr

structure FaultSupervisor where
  active : KindSet
  present : KindSet
  latchedSet : KindSet
  first : Option FaultRecord
  last : Option FaultRecord
  retryTimer : TimerState
  haltCount : Nat
deriving DecidableEq, Repr

inductive GateState where
  | applied
  | enabling
  | released
  | engaging
deriving DecidableEq, Repr

inductive RdyLevel where
  | high
  | low
deriving DecidableEq, Repr

inductive TravelSide where
  | inside
  | outside
deriving DecidableEq, Repr

structure MotionGate where
  state : GateState
  grant : Bool
  jog : Bool
  rdyLevel : RdyLevel
  travelSide : TravelSide
deriving DecidableEq, Repr

end Sys2Proof.Machine
end

