-- ==== Sys2Proof/Machine/Start.lean ====
section
/-! DEFINITION. The start values of every record: what each piece of state holds at a start, whether
cold, warm, a reset release or a restart, and what a load and a RETAIN entry leave. -/

namespace Sys2Proof.Machine

/-- The kind codes, and the index of a kind in the setup's actions (R161). -/
def kindIndex : FaultKind → Fin 15
  | .motorEncoder => 0
  | .coarseEncoder => 1
  | .trackJump => 2
  | .vernierDrift => 3
  | .restoreConflict => 4
  | .couplingLost => 5
  | .travelLimit => 6
  | .sampleStuck => 7
  | .linkDetached => 8
  | .addressClash => 9
  | .memberAbsent => 10
  | .calInvalid => 11
  | .setupInvalid => 12
  | .backupLow => 13
  | .storeFailed => 14

/-- The default action of each kind (R175). -/
def defaultAction : FaultKind → Action
  | .motorEncoder => .halt
  | .coarseEncoder => .report
  | .trackJump => .halt
  | .vernierDrift => .halt
  | .restoreConflict => .hold
  | .couplingLost => .hold
  | .travelLimit => .halt
  | .sampleStuck => .halt
  | .linkDetached => .halt
  | .addressClash => .halt
  | .memberAbsent => .halt
  | .calInvalid => .hold
  | .setupInvalid => .report
  | .backupLow => .report
  | .storeFailed => .report

/-- The actions a kind may be set to; a fixed kind allows its fixed action only (R105, R175). -/
def actionAllowed : FaultKind → Action → Bool
  | .motorEncoder, a => a != .report
  | .coarseEncoder, _ => true
  | .trackJump, a => a != .report
  | .vernierDrift, a => a != .report
  | .restoreConflict, a => a != .report
  | .couplingLost, a => a != .report
  | .travelLimit, _ => true
  | .sampleStuck, a => a != .hold
  | .linkDetached, a => a == .halt
  | .addressClash, a => a == .halt
  | .memberAbsent, a => a != .hold
  | .calInvalid, a => a == .hold
  | .setupInvalid, a => a == .report
  | .backupLow, a => a != .halt
  | .storeFailed, a => a == .report

/-- The kinds in the order of their codes. -/
def allKinds : List FaultKind :=
  [.motorEncoder, .coarseEncoder, .trackJump, .vernierDrift, .restoreConflict, .couplingLost, .travelLimit,
   .sampleStuck, .linkDetached, .addressClash, .memberAbsent, .calInvalid, .setupInvalid, .backupLow, .storeFailed]

/-- The defaults of the setup (R105). -/
def Setup.defaults : Setup where
  members := []
  source := none
  waitSet := []
  period := 1000
  hold := 10
  peerTimeout := 16
  missLimit := 3
  beacon := 128
  actions := #v[.halt, .report, .halt, .halt, .hold, .hold, .halt, .halt, .halt, .halt, .halt, .hold, .report, .report, .report]
  recovery := .latched
  retryDelay := 100
  retainedAlone := true
  vernierAlone := true
  settle := 80
  bite := 150
  sweepMin := 8
  sweepSpeed := 64
  jumpLimit := 4096

/-- The blank values of the calibration (R99, R100). -/
def CalRecord.blank : CalRecord where
  ratio := none
  z := 0
  zg := 0
  c := 0
  corr := Vector.replicate 32 0
  lm := 0
  window := none
  m := 0
  v := 4096
  driftLimit := 2048
  thetaH := 0
  approach := .pos
  h := 0
  gh := 0
  homeCoarseTol := 256
  guardMin := 2048
  homeResidualTol := 256
  learned := false
  coverage := 0

/-- The Epoch Unit's start values (R23); `running` is no until it begins work. -/
def EpochUnit.start : EpochUnit where
  running := false
  count := 0
  sync := .synced
  timer := .stopped
  driveLow := false
  holding := false
  lowWatch := false
  highWatch := false
  rejoinArmed := false
  syncedRun := 0
  alignment := .aligning
  alignEdges := 0
  realignRun := 0
  realignOffset := 0
  realignCount := 0
  epochSynced := false
  frames := .none
  instants := 0

/-- A port at a start (R36, R37, R38). -/
def PortRecord.start : PortRecord where
  reading := false
  failRun := 0
  goodRun := 0
  lastCause := .none

/-- The Encoder Interface at a start (R36 to R39). -/
def EncoderInterface.start : EncoderInterface where
  motor := PortRecord.start
  coarse := PortRecord.start
  homeLevel := none
  homeEdge := false

/-- The Position Unit at a start (R1); what stands for P before the first good read: log 7.
Play is known at entry, since h is taken as 0 until a calibration is valid (R13); the load sets it
again. -/
def PositionUnit.start : PositionUnit where
  established := false
  p := 0
  abs := false
  thetaLast := 0
  deltaLast := 0
  failedRun := 0
  s := 0
  playKnown := true
  acc := 0
  lastDir := .none
  j := 0
  evaluated := false
  gq := 0
  jg := 0
  usable := false
  lastE := 0
  lastSj := 0
  driftRun := 0
  firstQuarter := 0

/-- No epoch has begun. -/
def EpochWork.start : EpochWork where
  motor := .none
  coarse := .none
  joint := none
  evaluated := false
  considered := false

/-- The coupling record at a start (R130). -/
def CouplingRecord.start : CouplingRecord where
  opened := false
  own := false
  source := none
  matched := false
  prevMissed := false
  missCount := 0
  lastAbsolute := none

/-- An entry at a start (R122). -/
def PeerEntry.start (a : Address) : PeerEntry where
  address := a
  heard := false
  axis := none
  nodeState := none
  basis := none
  trusted := false
  absolute := false
  tag := none
  tagClass := none
  synced := false
  extrapolated := false
  p := none
  j := none
  faultClass := none
  age := 0
  absent := false

/-- The Peer Table made from a membership (R122); the quiet run is not started (R128). -/
def PeerTable.start (members : List Address) : PeerTable where
  entries := members.map PeerEntry.start
  quietRun := none

/-- The retained record of a cold start (R55). -/
def RetainedRecord.cold : RetainedRecord where
  cause := .none
  anchored := false
  validity := .lost
  reason := .cold
  tRet := 0
  qRet := 0
  s := 0
  playKnown := false
  lastDir := .none
  netTurns := 0
  reentries := 0

/-- The mirror loaded from the retained record, held (R56). For the cold record this is the cold
row of R56. -/
def TurnMirror.load (r : RetainedRecord) : TurnMirror where
  t := r.tRet
  quadrant := r.qRet
  abs := r.validity == .valid
  s := r.s
  playKnown := r.playKnown
  lastDir := r.lastDir
  held := true

/-- The tracker before its first RETAIN entry, and where the domain's state was lost: at the values of an
entry (R48), not running. Log 38. -/
def Tracker.idle : Tracker where
  interval := .fast
  unchangedRun := 0
  failedRun := 0
  running := false
  reading := false

/-- The tracker stopped: a read in progress is abandoned, and its other fields are kept (R41, R53, R54).
Log 38. -/
def Tracker.stop (t : Tracker) : Tracker := { t with running := false, reading := false }

/-- The tracker at RETAIN entry (R48): it starts its first read at once unless the record is LOST. -/
def Tracker.atEntry (r : RetainedRecord) : Tracker where
  interval := .fast
  unchangedRun := 0
  failedRun := 0
  running := r.validity != .lost
  reading := r.validity != .lost

/-- The kind of start from the record's cause; the cold record has cause NONE (R55, R56). -/
def startKind : RetainedCause → StartKind
  | .none => .cold
  | .powerLoss => .warm
  | .reset => .reset
  | .restart => .restart

/-- The restore report at a start (R76). -/
def RestoreReport.start (r : RetainedRecord) : RestoreReport where
  kind := startKind r.cause
  phase := .initial
  cause := r.cause
  live := false
  validity := r.validity
  reason := r.reason
  tRet := r.tRet
  qRet := r.qRet
  qNow := none
  outcome := none
  vernier := none
  guided := false
  decision := .pending
  basis := .none
  decideTag := none

/-- The node record at a start (R57). -/
def NodeRecord.start (r : RetainedRecord) : NodeRecord where
  state := .startup
  phase := .initial
  basis := .none
  confirmed := false
  reason := .none
  continuity := true
  conflict := none
  trusted := false
  report := RestoreReport.start r

/-- The homing record's start values (R77). -/
def HomingRecord.start : HomingRecord where
  mode := .home
  outcome := .none
  reason := .none
  before := none
  latch := none
  edgeTag := none
  pFlag := none
  captureTag := none
  pCap := none
  eCap := none
  tShift := none
  residual := none
  coarseDiff := none
  coarseChecked := false

/-- No homing in progress. -/
def HomingOp.start : HomingOp where
  pPrev := 0
  thetaPrev := 0
  captured := false
  found := []

/-- The sweep record's start values (R116). -/
def SweepRecord.start : SweepRecord where
  outcome := .none
  sums := Vector.replicate 32 0
  counts := Vector.replicate 32 0
  skipped := 0
  overflow := 0
  updated := 0
  clamped := 0

/-- The working calibration before a load and after a bad one (R99). -/
def WorkingCal.start : WorkingCal where
  data := CalRecord.blank
  valid := false
  dirty := false

/-- The setup copies before a load and after a bad one (R105). -/
def SetupCopies.start : SetupCopies where
  image := Setup.defaults
  latched := Setup.defaults
  dirty := false

/-- The store at a start: IDLE, outcomes NONE, the two areas as they stand (R110, R113). -/
def StoreUnit.start (calArea : Area CalRecord) (setupArea : Area Setup) : StoreUnit where
  calArea := calArea
  setupArea := setupArea
  writing := none
  crcWritten := false
  calSnapshot := CalRecord.blank
  setupSnapshot := Setup.defaults
  calOutcome := .none
  setupOutcome := .none
  calMarked := false
  setupMarked := false

/-- The self-check before the load (R115, log 6). -/
def SelfCheck.start : SelfCheck where
  setupRecord := .good
  calRecord := .good
  setupCopy := .isMatch
  calCopy := .isMatch
  motorPort := .pending
  coarsePort := .pending

/-- The Link Controller's start values (R140). -/
def LinkController.start : LinkController where
  watching := false
  joined := false
  awaitIdle := false
  health := 0
  intact := 0
  positionSlot := none
  statusSlot := none
  tx := none
  replies := []
  requests := []
  recessiveRun := 0
  dominantRun := 0
  stuck := false
  idlePeriods := 0
  beaconCount := 0
  requestOverrun := 0
  publishOverrun := 0
  stuckCount := 0

/-- The Fault Supervisor's start values (R174). -/
def FaultSupervisor.start : FaultSupervisor where
  active := 0
  present := 0
  latchedSet := 0
  first := none
  last := none
  retryTimer := .stopped
  haltCount := 0

/-- The Motion Gate's start values (R164). -/
def MotionGate.start : MotionGate where
  state := .applied
  grant := false
  jog := false
  rdyLevel := .low
  travelSide := .inside

/-- The pins at reset: main power good, backup sound, RESETn and SMP high. Log 5. -/
def Pins.reset : Pins where
  vmainGood := true
  vbakLow := false
  resetLow := false
  smpHigh := true

/-- The straps at reset. Log 5. -/
def Straps.reset : Straps where
  address := 1
  axis := 1
  fast := false

/-- The Retention Domain after a cold start (R55, R56). The tracker's fields are log 38. -/
def RetentionDomain.cold : RetentionDomain where
  mirror := TurnMirror.load RetainedRecord.cold
  record := RetainedRecord.cold
  tracker := Tracker.idle
  stateLost := false
  dwellMet := true

end Sys2Proof.Machine
end

