-- ==== Sys2Proof/Machine/State.lean ====
section
/-! DEFINITION. The whole state of the part, why a step may stop, the state after reset, and one
setter per field. -/

namespace Sys2Proof.Machine

/-- The faults a step may stop with: none. The manual's faults are kinds of the Fault Supervisor and
are effects on State; no command of the part stops the machine. -/
inductive Fault where
deriving DecidableEq, Repr

/-- The refusals. -/
inductive Refusal where
  /-- Raised by an arm of `exec` whose command has no meaning yet: safe, nothing is claimed of it. -/
  | notModelled (mnemonic : String)
deriving DecidableEq, Repr

/-- The state of the part and its queue of commands.
`pins`: the input pins as last reported.
`straps`: the straps latched at entry to STARTUP (R58).
`epoch`: the Epoch Unit (R23).
`enc`: the Encoder Interface (R35 to R39).
`pos`: the Position Unit (R1).
`work`: the working values of the current epoch.
`coupling`: the coupling record (R130).
`peers`: the Peer Table (R122).
`ret`: the Retention Domain (R43, R46, R48).
`node`: the Reference Controller's node record (R57).
`homing`: the homing record (R77).
`homingOp`: what a homing in progress keeps beside it.
`sweep`: the sweep record (R116).
`cal`: the working calibration (R99).
`setup`: the setup image and the latched setup (R105).
`store`: the nonvolatile areas and the store status (R110).
`selfCheck`: the self-check record (R115).
`link`: the Link Controller (R140).
`faults`: the Fault Supervisor (R174).
`gate`: the Motion Gate (R164).
`restartPending`: the Request Handler's restart pending flag (R187, R197).
`free`: the model's own counter for free choices (log 8).
`pending`: the commands waiting, first in, first out. -/
structure State where
  pins : Pins
  straps : Straps
  epoch : EpochUnit
  enc : EncoderInterface
  pos : PositionUnit
  work : EpochWork
  coupling : CouplingRecord
  peers : PeerTable
  ret : RetentionDomain
  node : NodeRecord
  homing : HomingRecord
  homingOp : HomingOp
  sweep : SweepRecord
  cal : WorkingCal
  setup : SetupCopies
  store : StoreUnit
  selfCheck : SelfCheck
  link : LinkController
  faults : FaultSupervisor
  gate : MotionGate
  restartPending : Bool
  free : Nat
  pending : List Instr
deriving DecidableEq, Repr

/-- The part right after reset: a cold start at its entry to STARTUP, every record at its start
values (R1, R23, R37, R57, R77, R116, R130, R140, R164, R174), the store never written (R108). The
pins and straps are log 5. -/
def State.reset : State where
  pins := Pins.reset
  straps := Straps.reset
  epoch := EpochUnit.start
  enc := EncoderInterface.start
  pos := PositionUnit.start
  work := EpochWork.start
  coupling := CouplingRecord.start
  peers := PeerTable.start []
  ret := RetentionDomain.cold
  node := NodeRecord.start RetainedRecord.cold
  homing := HomingRecord.start
  homingOp := HomingOp.start
  sweep := SweepRecord.start
  cal := WorkingCal.start
  setup := SetupCopies.start
  store := StoreUnit.start .unwritten .unwritten
  selfCheck := SelfCheck.start
  link := LinkController.start
  faults := FaultSupervisor.start
  gate := MotionGate.start
  restartPending := false
  free := 0
  pending := []

def State.setPins (s : State) (x : Pins) : State := { s with pins := x }
def State.setStraps (s : State) (x : Straps) : State := { s with straps := x }
def State.setEpoch (s : State) (x : EpochUnit) : State := { s with epoch := x }
def State.setEnc (s : State) (x : EncoderInterface) : State := { s with enc := x }
def State.setPos (s : State) (x : PositionUnit) : State := { s with pos := x }
def State.setWork (s : State) (x : EpochWork) : State := { s with work := x }
def State.setCoupling (s : State) (x : CouplingRecord) : State := { s with coupling := x }
def State.setPeers (s : State) (x : PeerTable) : State := { s with peers := x }
def State.setRet (s : State) (x : RetentionDomain) : State := { s with ret := x }
def State.setNode (s : State) (x : NodeRecord) : State := { s with node := x }
def State.setHoming (s : State) (x : HomingRecord) : State := { s with homing := x }
def State.setHomingOp (s : State) (x : HomingOp) : State := { s with homingOp := x }
def State.setSweep (s : State) (x : SweepRecord) : State := { s with sweep := x }
def State.setCal (s : State) (x : WorkingCal) : State := { s with cal := x }
def State.setSetup (s : State) (x : SetupCopies) : State := { s with setup := x }
def State.setStore (s : State) (x : StoreUnit) : State := { s with store := x }
def State.setSelfCheck (s : State) (x : SelfCheck) : State := { s with selfCheck := x }
def State.setLink (s : State) (x : LinkController) : State := { s with link := x }
def State.setFaults (s : State) (x : FaultSupervisor) : State := { s with faults := x }
def State.setGate (s : State) (x : MotionGate) : State := { s with gate := x }
def State.setRestartPending (s : State) (x : Bool) : State := { s with restartPending := x }
def State.setFree (s : State) (x : Nat) : State := { s with free := x }
def State.setPending (s : State) (x : List Instr) : State := { s with pending := x }

end Sys2Proof.Machine
end

