-- ==== Sys2Proof/Machine/Ops.lean ====
section
/-! DEFINITION. The arithmetic shared by every block: rounding, residues, saturation, bytes of numbers,
packed bytes, kind sets and the CRC-16 of a stored record. -/

namespace Sys2Proof.Machine

/-! ### Numbers (R2, Conventions) -/

/-- Division rounded to the nearest integer, a tie away from zero (R2). -/
def roundDiv (a : Int) (b : Nat) : Int :=
  if 0 ≤ a then (2 * a + b) / (2 * b) else -((2 * (-a) + b) / (2 * b))

/-- The nearer bound of a range, or the value itself. -/
def clampInt (lo hi x : Int) : Int := if x < lo then lo else if hi < x then hi else x

/-- The same for numbers that are not signed. -/
def clampNat (lo hi x : Nat) : Nat := if x < lo then lo else if hi < x then hi else x

/-- Whether a value lies in a range, both ends included. -/
def inRange (lo hi x : Int) : Bool := decide (lo ≤ x) && decide (x ≤ hi)

/-- One more, up to a bound: the saturating counters. -/
def satSucc (bound n : Nat) : Nat := if n < bound then n + 1 else bound

/-- The signed 32-bit range. -/
def int32Min : Int := -2147483648
def int32Max : Int := 2147483647

/-- The residue modulo 16384 in −8192..8191 (Conventions). -/
def wrapS (x : Int) : Int := (BitVec.ofInt 14 x).toInt

/-- The residue modulo 65536 in −32768..32767 (Conventions). -/
def signed65536 (x : Int) : Int := (BitVec.ofInt 16 x).toInt

/-- A signed 32-bit home of a quantity: the value itself where it fits; a free value where it does
not, since the manual states none (log 24). -/
def home32 (x : Int) : Int :=
  if inRange int32Min int32Max x then x else (BitVec.ofInt 32 (Config.outside32 x)).toInt

/-- The turn number of a count, floor(P/16384) (R43). -/
def turnOf (p : Int) : Int := p / 16384

/-- The quarter a count lies in, floor(P/4096) (R44). -/
def quarterOf (p : Int) : Int := p / 4096

/-- The quadrant of a motor angle, θ div 4096 (R43, R65). -/
def quadrantOf (θ : Theta) : Quadrant := θ.extractLsb' 12 2

/-- The range of P (R1). -/
def countMin : Int := -536870912
def countMax : Int := 536870911

/-- The range of a turn number (R1). -/
def turnMin : Int := -32768
def turnMax : Int := 32767

/-! ### Bytes (R158) -/

/-- A number as n bytes, most significant first, two's complement (R158). -/
def bytesOf : Nat → Int → List Byte
  | 0, _ => []
  | n + 1, x => BitVec.ofInt 8 (x / (2 ^ (8 * n) : Nat)) :: bytesOf n x

/-- Some bytes as a number that is not signed, most significant first (R158). -/
def natOfBytes (bs : List Byte) : Nat := bs.foldl (fun a b => 256 * a + b.toNat) 0

/-- Some bytes as a signed number (R158). -/
def intOfBytes (bs : List Byte) : Int := (BitVec.ofNat (8 * bs.length) (natOfBytes bs)).toInt

/-- A yes/no field as a code. -/
def flag (b : Bool) : Nat := if b then 1 else 0

/-- The fields of a packed byte, each a width and a code, the first in the highest bits, and how many
bits they take (R158). -/
def packFields (fields : List (Nat × Nat)) : Nat × Nat :=
  fields.foldl (fun a f => (a.1 * 2 ^ f.1 + f.2 % 2 ^ f.1, a.2 + f.1)) (0, 0)

/-- A packed byte; the bits left over at the low end are 0 (R158). -/
def packed (fields : List (Nat × Nat)) : Byte :=
  BitVec.ofNat 8 ((packFields fields).1 * 2 ^ (8 - (packFields fields).2))

/-- A byte of a single field holds its code as a number. Log 17. -/
def codeByte (n : Nat) : Byte := BitVec.ofNat 8 n

/-! ### Kind sets (R161, R174) -/

/-- Whether a kind is in a set. -/
def kindHas (k : KindSet) (f : FaultKind) : Bool := k.getLsbD (kindIndex f).val

/-- The set with a kind added. -/
def kindAdd (k : KindSet) (f : FaultKind) : KindSet := k ||| (1#16 <<< (kindIndex f).val)

/-- The set without a kind. -/
def kindRemove (k : KindSet) (f : FaultKind) : KindSet := k &&& ~~~(1#16 <<< (kindIndex f).val)

/-- A kind from its code (R161). -/
def kindOfCode (n : Nat) : Option FaultKind := allKinds[n]?

/-! ### Bin masks (R116) -/

/-- The mask with bin b's flag set. -/
def binMark (m : BinMask) (b : Nat) : BinMask := m ||| (1#32 <<< b)

/-- The mask with bin b's flag cleared. -/
def binUnmark (m : BinMask) (b : Nat) : BinMask := m &&& ~~~(1#32 <<< b)

/-! ### CRC-16 (R108) -/

/-- One bit into the CRC-16 register, polynomial x^16+x^12+x^5+1. -/
def crc16Bit (c : BitVec 16) (b : Bool) : BitVec 16 :=
  if (c.getLsbD 15 ^^ b) then (c <<< 1) ^^^ 0x1021#16 else c <<< 1

/-- The CRC-16 of a record's bytes: initial value FFFFh, no final inversion (R108). -/
def crc16 (bs : List Byte) : BitVec 16 := (bytesBits bs).foldl crc16Bit 0xFFFF#16

end Sys2Proof.Machine
end

