-- ==== Sys2Proof/Machine/Operands.lean ====
section
/-! DEFINITION. The operand forms: the encoder word's check bits, the payloads of POSITION and STATUS
frames as received, the fields of the calibration and of the setup as bytes, the rules their values
obey, and the writing of one field. -/

namespace Sys2Proof.Machine

/-! ### Encoder words (R35, R36) -/

/-- The sum modulo 2 of the bits of x at the given positions. -/
def parityAt (positions : List Nat) (x : BitVec 14) : Bool :=
  positions.foldl (fun a i => a ^^ x.getLsbD i) false

/-- C1 makes the ones of the odd positions, with C1, even; C0 does so for the even positions and the
error bit (R35). The coarse angle has the same positions, the upper two of them absent. -/
def checkBitsRight (angle : BitVec 14) (error c1 c0 : Bool) : Bool :=
  ((parityAt [1, 3, 5, 7, 9, 11, 13] angle ^^ c1) == false) &&
  ((parityAt [0, 2, 4, 6, 8, 10, 12] angle ^^ error ^^ c0) == false)

/-- How a complete word ends its read (R36). -/
inductive WordEnding where
  | good
  | failed (cause : ReadCause)
deriving DecidableEq, Repr

/-- The verdict on a complete word: check bits first, then the error bit (R36). -/
def wordEnding (angle : BitVec 14) (error c1 c0 : Bool) : WordEnding :=
  if checkBitsRight angle error c1 c0 then
    if error then .failed .encoderError else .good
  else .failed .check

/-- The verdict on a complete word of the tracker (R48, step 3). -/
def trackerEnding (w : TrackerWord) : WordEnding := wordEnding w.angle w.error w.c1 w.c0

/-- Whether a tracker read ends failed: its complete word is not good, or none came in time (R48). -/
def trackerFails : TrackerFailure → Bool
  | .word w => trackerEnding w != .good
  | .timeout => true

/-! ### Payloads received (R159, R160) -/

/-- Byte i of a payload. -/
def byteAt (bs : List Byte) (i : Nat) : Byte := bs.getD i 0

/-- The fields of a POSITION payload that an entry keeps (R124, R159). -/
structure PositionFields where
  tag : Tag
  synced : Bool
  trusted : Bool
  absolute : Bool
  extrapolated : Bool
  nodeState : BitVec 3
  basis : BitVec 3
  p : Int
  j : Int
deriving DecidableEq, Repr

/-- R159's bytes read back. -/
def readPosition (bs : List Byte) : PositionFields where
  tag := byteAt bs 0
  synced := (byteAt bs 1).getLsbD 7
  trusted := (byteAt bs 1).getLsbD 6
  absolute := (byteAt bs 1).getLsbD 5
  extrapolated := (byteAt bs 1).getLsbD 4
  nodeState := (byteAt bs 2).extractLsb' 5 3
  basis := (byteAt bs 2).extractLsb' 0 3
  p := intOfBytes ((bs.drop 3).take 4)
  j := intOfBytes ((bs.drop 7).take 4)

/-- The fields of a STATUS payload that an entry keeps (R125, R160). -/
structure StatusFields where
  nodeState : BitVec 3
  basis : BitVec 3
  axis : Axis
  faultClass : BitVec 2
deriving DecidableEq, Repr

/-- R160's bytes read back. -/
def readStatusFields (bs : List Byte) : StatusFields where
  nodeState := (byteAt bs 0).extractLsb' 5 3
  basis := (byteAt bs 0).extractLsb' 0 3
  axis := (byteAt bs 7).extractLsb' 5 3
  faultClass := (byteAt bs 2).extractLsb' 0 2

/-! ### Calibration fields (R100, R162) -/

/-- The ratio rule (R100). -/
def ratioOk (r : Ratio) : Bool :=
  decide (16 ≤ r.num) && decide (r.num ≤ 8000) && decide (1 ≤ r.den) && decide (r.den ≤ 16) && decide (4 * r.den ≤ r.num)

/-- The window rule (R100). -/
def windowOk (w : Window) : Bool :=
  inRange int32Min int32Max w.lo && inRange int32Min int32Max w.hi && decide (w.lo < w.hi) &&
  decide (w.hi - w.lo ≤ 2097152)

/-- Every field of a calibration record within its range, and the ratio and window rules (R108). -/
def calRecordOk (c : CalRecord) : Bool :=
  (c.ratio.any ratioOk) && (c.window.any windowOk) && inRange int32Min int32Max c.z && inRange (-8192) 8191 c.c &&
  c.corr.toList.all (inRange (-2048) 2047) && decide (c.lm ≤ 4095) && decide (c.m ≤ 65535) &&
  decide (256 ≤ c.v) && decide (c.v ≤ 8191) && decide (256 ≤ c.driftLimit) && decide (c.driftLimit ≤ 65535) &&
  inRange int32Min int32Max c.h && decide (16 ≤ c.homeCoarseTol) && decide (c.homeCoarseTol ≤ 4096) &&
  decide (256 ≤ c.guardMin) && decide (c.guardMin ≤ 8191) &&
  decide (64 ≤ c.homeResidualTol) && decide (c.homeResidualTol ≤ 4096)

/-- A code of the approach direction (R161). -/
def approachCode : Approach → Nat
  | .pos => 0
  | .neg => 1

/-- The bytes of a ratio; an UNSET one is zeros (R162). -/
def ratioBytes : Option Ratio → List Byte
  | none => [0, 0, 0]
  | some r => bytesOf 2 r.num ++ bytesOf 1 r.den

/-- The bytes of a window; an UNSET one is zeros (R162). -/
def windowBytes : Option Window → List Byte
  | none => [0, 0, 0, 0, 0, 0, 0, 0]
  | some w => bytesOf 4 w.lo ++ bytesOf 4 w.hi

/-- The value of a calibration field as its bytes, none for an unknown id or an index outside 0..31
(R104, R162). -/
def calFieldBytes (c : CalRecord) (id idx : Nat) : Option (List Byte) :=
  match id with
  | 0x01 => some (ratioBytes c.ratio)
  | 0x02 => some (bytesOf 4 c.z)
  | 0x03 => some (bytesOf 2 c.zg.toNat)
  | 0x04 => some (bytesOf 2 c.c)
  | 0x05 => (c.corr.toList[idx]?).map (bytesOf 2)
  | 0x06 => some (bytesOf 2 c.lm)
  | 0x07 => some (windowBytes c.window)
  | 0x08 => some (bytesOf 2 c.m)
  | 0x09 => some (bytesOf 2 c.v)
  | 0x0A => some (bytesOf 2 c.driftLimit)
  | 0x0B => some (bytesOf 2 c.thetaH.toNat ++ [codeByte (approachCode c.approach)])
  | 0x0C => some (bytesOf 4 c.h)
  | 0x0D => some (bytesOf 2 c.gh.toNat)
  | 0x0E => some (bytesOf 2 c.homeCoarseTol)
  | 0x0F => some (bytesOf 2 c.guardMin)
  | 0x10 => some (bytesOf 2 c.homeResidualTol)
  | 0x11 => some [codeByte (flag c.learned)]
  | 0x12 => some (bytesOf 4 c.coverage.toNat)
  | _ => none

/-- Whether a field reads as UNSET (R104). -/
def calFieldUnset (c : CalRecord) (id : Nat) : Bool :=
  match id with
  | 0x01 => c.ratio.isNone
  | 0x07 => c.window.isNone
  | _ => false

/-- The size of the value of a writable field (R162); none for an unknown or read-only id (R100). -/
def calValueSize (id : Nat) : Option Nat :=
  match id with
  | 0x01 => some 3
  | 0x02 => some 4
  | 0x03 => some 2
  | 0x04 => some 2
  | 0x05 => some 2
  | 0x06 => some 2
  | 0x07 => some 8
  | 0x08 => some 2
  | 0x09 => some 2
  | 0x0A => some 2
  | 0x0B => some 3
  | 0x0C => some 4
  | 0x0D => some 2
  | 0x0E => some 2
  | 0x0F => some 2
  | 0x10 => some 2
  | _ => none

/-- What the write of one field makes of a record. -/
inductive FieldWrite (α : Type) where
  | refused
  | stored (record : α) (clamped : Bool)
deriving DecidableEq, Repr

/-- A refused-out-of-range field. -/
def writeChecked {α : Type} (ok : Bool) (record : α) : FieldWrite α :=
  if ok then .stored record false else .refused

/-- A clamped-out-of-range field of numbers that are not signed. -/
def writeClamped {α : Type} (lo hi x : Nat) (put : Nat → α) : FieldWrite α :=
  .stored (put (clampNat lo hi x)) (clampNat lo hi x != x)

/-- The write of a calibration field whose id and index are known and whose value has its size:
refused out of range, or clamped to the nearer bound (R100). A write of c[b] clears bin b's coverage
flag (R102). -/
def calFieldWrite (c : CalRecord) (id idx : Nat) (v : List Byte) : FieldWrite CalRecord :=
  match id with
  | 0x01 =>
    let r : Ratio := ⟨natOfBytes (v.take 2), natOfBytes (v.drop 2)⟩
    writeChecked (ratioOk r) { c with ratio := some r }
  | 0x02 => .stored { c with z := intOfBytes v } false
  | 0x03 => .stored { c with zg := BitVec.ofNat 16 (natOfBytes v) } false
  | 0x04 => writeChecked (inRange (-8192) 8191 (intOfBytes v)) { c with c := intOfBytes v }
  | 0x05 =>
    .stored { c with corr := c.corr.setIfInBounds idx (clampInt (-2048) 2047 (intOfBytes v)),
                     coverage := binUnmark c.coverage idx }
      (clampInt (-2048) 2047 (intOfBytes v) != intOfBytes v)
  | 0x06 => writeClamped 0 4095 (natOfBytes v) fun x => { c with lm := x }
  | 0x07 =>
    let w : Window := ⟨intOfBytes (v.take 4), intOfBytes (v.drop 4)⟩
    writeChecked (windowOk w) { c with window := some w }
  | 0x08 => writeClamped 0 65535 (natOfBytes v) fun x => { c with m := x }
  | 0x09 => writeClamped 256 8191 (natOfBytes v) fun x => { c with v := x }
  | 0x0A => writeClamped 256 65535 (natOfBytes v) fun x => { c with driftLimit := x }
  | 0x0B =>
    writeChecked (decide (natOfBytes (v.take 2) ≤ 16383) && decide (natOfBytes (v.drop 2) ≤ 1))
      { c with thetaH := BitVec.ofNat 14 (natOfBytes (v.take 2)),
               approach := if natOfBytes (v.drop 2) = 0 then .pos else .neg }
  | 0x0C => .stored { c with h := intOfBytes v } false
  | 0x0D => .stored { c with gh := BitVec.ofNat 16 (natOfBytes v) } false
  | 0x0E => writeClamped 16 4096 (natOfBytes v) fun x => { c with homeCoarseTol := x }
  | 0x0F => writeClamped 256 8191 (natOfBytes v) fun x => { c with guardMin := x }
  | 0x10 => writeClamped 64 4096 (natOfBytes v) fun x => { c with homeResidualTol := x }
  | _ => .refused

/-- The mechanical fields, 01h to 04h (R101). -/
def calMechanical (id : Nat) : Bool := decide (1 ≤ id) && decide (id ≤ 4)

/-- The stored order of the calibration record: the fields in the order of their ids, each with its
size (R108). Log 15. -/
def calRecordBytes (c : CalRecord) : List Byte :=
  ratioBytes c.ratio ++ bytesOf 4 c.z ++ bytesOf 2 c.zg.toNat ++ bytesOf 2 c.c ++
  c.corr.toList.flatMap (bytesOf 2) ++ bytesOf 2 c.lm ++ windowBytes c.window ++ bytesOf 2 c.m ++
  bytesOf 2 c.v ++ bytesOf 2 c.driftLimit ++ bytesOf 2 c.thetaH.toNat ++ [codeByte (approachCode c.approach)] ++
  bytesOf 4 c.h ++ bytesOf 2 c.gh.toNat ++ bytesOf 2 c.homeCoarseTol ++ bytesOf 2 c.guardMin ++
  bytesOf 2 c.homeResidualTol ++ [codeByte (flag c.learned)] ++ bytesOf 4 c.coverage.toNat

/-! ### Setup fields (R105, R106, R162) -/

/-- An action's code, that of the fault class (R161, R162). -/
def actionCode : Action → Nat
  | .report => 1
  | .hold => 2
  | .halt => 3

/-- The action of a code. -/
def actionOfCode (n : Nat) : Option Action :=
  match n with
  | 1 => some .report
  | 2 => some .hold
  | 3 => some .halt
  | _ => none

/-- A recovery's code (R162). -/
def recoveryCode : Recovery → Nat
  | .latched => 0
  | .retry => 1

/-- Strictly ascending: in order, without a repeat (R105). -/
def ascending : List Address → Bool
  | [] => true
  | [_] => true
  | a :: b :: rest => decide (a.toNat < b.toNat) && ascending (b :: rest)

/-- A list of addresses in ascending order (R105). -/
def sortAddresses (l : List Address) : List Address :=
  ((List.range 16).map (BitVec.ofNat 4)).filter fun a => l.contains a

/-- The membership rule: up to 8 distinct addresses of 0..14, not the node's own, kept in ascending
order (R105). -/
def membersOk (own : Address) (l : List Address) : Bool :=
  decide (l.length ≤ 8) && ascending l && l.all fun a => a != 15#4 && a != own

/-- The source is a member or none; the wait set is of members, and of at most as many (R105). -/
def sourceOk (s : Setup) : Bool := s.source.all fun a => s.members.contains a
def waitOk (s : Setup) : Bool := decide (s.waitSet.length ≤ 8) && s.waitSet.all fun a => s.members.contains a

/-- The allowed actions (R175). -/
def actionsOk (s : Setup) : Bool := allKinds.all fun k => actionAllowed k s.actions[kindIndex k]

/-- The numeric ranges of R105. -/
def setupNumbersOk (s : Setup) : Bool :=
  decide (250 ≤ s.period) && decide (s.period ≤ 4000) && decide (s.period % 50 = 0) &&
  decide (5 ≤ s.hold) && decide (s.hold ≤ 40) && decide (4 ≤ s.peerTimeout) && decide (s.peerTimeout ≤ 64) &&
  decide (1 ≤ s.missLimit) && decide (s.missLimit ≤ 15) && decide (16 ≤ s.beacon) && decide (s.beacon ≤ 1024) &&
  decide (10 ≤ s.retryDelay) && decide (s.retryDelay ≤ 1000) && decide (10 ≤ s.settle) && decide (s.settle ≤ 500) &&
  decide (10 ≤ s.bite) && decide (s.bite ≤ 500) && decide (4 ≤ s.sweepMin) && decide (s.sweepMin ≤ 64) &&
  decide (8 ≤ s.sweepSpeed) && decide (s.sweepSpeed ≤ 1024) && decide (512 ≤ s.jumpLimit) && decide (s.jumpLimit ≤ 8191)

/-- Every field of a setup record within its range, and the membership rules (R108). -/
def setupRecordOk (own : Address) (s : Setup) : Bool :=
  membersOk own s.members && sourceOk s && waitOk s && actionsOk s && setupNumbersOk s

/-- The byte of an address. -/
def addressByte (a : Address) : Byte := codeByte a.toNat

/-- The byte of the coupling source, 0Fh for none (R162). -/
def sourceByte : Option Address → Byte
  | none => 0x0F#8
  | some a => addressByte a

/-- The value of a setup field as its bytes; none for an unknown id, or for an unknown fault kind
with field 09h (R107, R162). -/
def setupFieldBytes (s : Setup) (id kind : Nat) : Option (List Byte) :=
  match id with
  | 0x01 => some (s.members.map addressByte)
  | 0x02 => some [sourceByte s.source]
  | 0x03 => some (s.waitSet.map addressByte)
  | 0x04 => some (bytesOf 2 s.period)
  | 0x05 => some (bytesOf 1 s.hold)
  | 0x06 => some (bytesOf 1 s.peerTimeout)
  | 0x07 => some (bytesOf 1 s.missLimit)
  | 0x08 => some (bytesOf 2 s.beacon)
  | 0x09 => (kindOfCode kind).map fun k => [codeByte (actionCode s.actions[kindIndex k])]
  | 0x0A => some [codeByte (recoveryCode s.recovery)]
  | 0x0B => some (bytesOf 2 s.retryDelay)
  | 0x0C => some [codeByte (flag s.retainedAlone)]
  | 0x0D => some [codeByte (flag s.vernierAlone)]
  | 0x0E => some (bytesOf 2 s.settle)
  | 0x0F => some (bytesOf 2 s.bite)
  | 0x10 => some (bytesOf 1 s.sweepMin)
  | 0x11 => some (bytesOf 2 s.sweepSpeed)
  | 0x12 => some (bytesOf 2 s.jumpLimit)
  | _ => none

/-- Whether a value has the size of its setup field; the two lists take 0 to 8 bytes (R162). -/
def setupSizeOk (id size : Nat) : Bool :=
  match id with
  | 0x01 => decide (size ≤ 8)
  | 0x03 => decide (size ≤ 8)
  | 0x04 => size == 2
  | 0x08 => size == 2
  | 0x0B => size == 2
  | 0x0E => size == 2
  | 0x0F => size == 2
  | 0x11 => size == 2
  | 0x12 => size == 2
  | _ => size == 1

/-- The addresses of some bytes; a byte above 15 is no address and stands for 15, which every list
refuses (R106). -/
def addressOfByte (b : Byte) : Address := if b.toNat < 16 then BitVec.ofNat 4 b.toNat else 15#4

/-- The period clamped, then rounded to the nearest multiple of 50, a tie upward (R105). -/
def roundPeriod (x : Nat) : Nat := (clampNat 250 4000 x + 25) / 50 * 50

/-- The write of a setup field whose id and kind are known and whose value has its size (R105, R106).
`own` is the node's address. -/
def setupFieldWrite (own : Address) (s : Setup) (id kind : Nat) (v : List Byte) : FieldWrite Setup :=
  match id with
  | 0x01 =>
    let raw := v.map addressOfByte
    let l := sortAddresses raw
    let s' := { s with members := l }
    writeChecked (l.length == raw.length && membersOk own l && sourceOk s' && waitOk s') s'
  | 0x02 =>
    if natOfBytes v = 15 then .stored { s with source := none } false
    else
      let a := addressOfByte (byteAt v 0)
      writeChecked (s.members.contains a) { s with source := some a }
  | 0x03 =>
    let l := v.map addressOfByte
    writeChecked (l.all fun a => s.members.contains a) { s with waitSet := l }
  | 0x04 => .stored { s with period := roundPeriod (natOfBytes v) } (roundPeriod (natOfBytes v) != natOfBytes v)
  | 0x05 => writeClamped 5 40 (natOfBytes v) fun x => { s with hold := x }
  | 0x06 => writeClamped 4 64 (natOfBytes v) fun x => { s with peerTimeout := x }
  | 0x07 => writeClamped 1 15 (natOfBytes v) fun x => { s with missLimit := x }
  | 0x08 => writeClamped 16 1024 (natOfBytes v) fun x => { s with beacon := x }
  | 0x09 =>
    match kindOfCode kind, actionOfCode (natOfBytes v) with
    | some k, some a => writeChecked (actionAllowed k a) { s with actions := s.actions.set (kindIndex k) a }
    | _, _ => .refused
  | 0x0A =>
    writeChecked (decide (natOfBytes v ≤ 1)) { s with recovery := if natOfBytes v = 0 then .latched else .retry }
  | 0x0B => writeClamped 10 1000 (natOfBytes v) fun x => { s with retryDelay := x }
  | 0x0C => .stored { s with retainedAlone := natOfBytes v == 1 } false
  | 0x0D => .stored { s with vernierAlone := natOfBytes v == 1 } false
  | 0x0E => writeClamped 10 500 (natOfBytes v) fun x => { s with settle := x }
  | 0x0F => writeClamped 10 500 (natOfBytes v) fun x => { s with bite := x }
  | 0x10 => writeClamped 4 64 (natOfBytes v) fun x => { s with sweepMin := x }
  | 0x11 => writeClamped 8 1024 (natOfBytes v) fun x => { s with sweepSpeed := x }
  | 0x12 => writeClamped 512 8191 (natOfBytes v) fun x => { s with jumpLimit := x }
  | _ => .refused

/-- The stored order of the setup record: the fields in the order of their ids, the actions in the
order of the kind codes (R108). Log 15. -/
def setupRecordBytes (s : Setup) : List Byte :=
  s.members.map addressByte ++ [sourceByte s.source] ++ s.waitSet.map addressByte ++ bytesOf 2 s.period ++
  bytesOf 1 s.hold ++ bytesOf 1 s.peerTimeout ++ bytesOf 1 s.missLimit ++ bytesOf 2 s.beacon ++
  s.actions.toList.map (fun a => codeByte (actionCode a)) ++ [codeByte (recoveryCode s.recovery)] ++
  bytesOf 2 s.retryDelay ++ [codeByte (flag s.retainedAlone), codeByte (flag s.vernierAlone)] ++
  bytesOf 2 s.settle ++ bytesOf 2 s.bite ++ bytesOf 1 s.sweepMin ++ bytesOf 2 s.sweepSpeed ++ bytesOf 2 s.jumpLimit

/-! ### Judgement of a stored record (R108) -/

/-- The area a store of this calibration leaves (R110). -/
def calWritten (c : CalRecord) : Area CalRecord := .written c (crc16 (calRecordBytes c))

/-- The area a store of this setup leaves (R110). -/
def setupWritten (s : Setup) : Area Setup := .written s (crc16 (setupRecordBytes s))

/-- GOOD, BAD_CRC or BAD_CONTENT of the calibration area, with the record it gives when GOOD. -/
def judgeCal : Area CalRecord → RecordCheck × Option CalRecord
  | .unwritten => (.badCrc, none)
  | .written c crc =>
    if crc = crc16 (calRecordBytes c) then
      if calRecordOk c then (.good, some c) else (.badContent, none)
    else (.badCrc, none)

/-- The same of the setup area; the membership rule names the node's own address. -/
def judgeSetup (own : Address) : Area Setup → RecordCheck × Option Setup
  | .unwritten => (.badCrc, none)
  | .written s crc =>
    if crc = crc16 (setupRecordBytes s) then
      if setupRecordOk own s then (.good, some s) else (.badContent, none)
    else (.badCrc, none)

end Sys2Proof.Machine
end

