-- ==== Sys2Proof/WellFormed.lean ====
section
/-! DEFINITION. The well-formedness of a command: its operands describe the event its row names. -/

namespace Sys2Proof

/-- FRAME_RECEIVED brings the bits of an intact frame (R148). -/
def wfReceived (bits : List Bool) : Bool :=
  match Machine.receive bits with
  | .intact _ => true
  | .discard _ => false
  | .incomplete => false

/-- FRAME_DISCARD brings bits that a receiver discards (R148). -/
def wfDiscard (bits : List Bool) : Bool :=
  match Machine.receive bits with
  | .intact _ => false
  | .discard _ => true
  | .incomplete => false

/-- A Peer Table address is a station address, 0..14 (R122). -/
def wfPeer (a : Address) : Bool := a != 15#4

/-- TRACKER_READ_GOOD brings a word whose check bits are right and whose error bit is 0 (R48). -/
def wfTrackerGood (word : TrackerWord) : Bool := Machine.trackerEnding word == .good

/-- TRACKER_READ_FAILED brings a word that is not good, or none in time (R48). -/
def wfTrackerFailed (ending : TrackerFailure) : Bool := Machine.trackerFails ending

/-- ARBITRATION_LOST comes in the header, behind the start bit (R141, R146). -/
def wfArbitration (sent : Nat) : Bool := decide (1 ≤ sent ∧ sent ≤ 8)

/-- BIT_ERROR comes within the 154 bits of the longest frame of a node (R147). -/
def wfBitError (sent : Nat) : Bool := decide (sent < 154)

/-- The check of a command: the operands a type does not bound are the bits of a frame, the place of a
misread bit, the address of an entry and the word of a tracker read. -/
def Instr.wf : Instr → Bool
  | .arbitrationLost sent => wfArbitration sent
  | .bitError _ sent => wfBitError sent
  | .frameReceived bits => wfReceived bits
  | .frameDiscard bits _ => wfDiscard bits
  | .peerAbsent a => wfPeer a
  | .trackerReadGood word => wfTrackerGood word
  | .trackerReadFailed ending => wfTrackerFailed ending
  | _ => true

end Sys2Proof
end

