-- ==== Sys2Proof/Machine/Flags.lean ====
section
/-! DEFINITION. The codes of R161, the flags and levels that are computed from State and not held (the
fault class, the health state, the permission, the outputs), and the payloads built from State. -/

namespace Sys2Proof.Machine

/-! ### Codes (R161) -/

def nodeStateCode : NodeState → Nat
  | .off => 0
  | .retain => 0
  | .startup => 1
  | .restoring _ => 2
  | .unreferenced => 3
  | .homing _ => 4
  | .referenced => 5
  | .calibrating => 6

def substateCode : NodeState → Nat
  | .restoring .waitSource => 0
  | .restoring .decide => 1
  | .homing .waitPeers => 0
  | .homing .armed => 1
  | .homing .capture => 2
  | _ => 0

def basisCode : Basis → Nat
  | .none => 0
  | .retained => 1
  | .vernier => 2
  | .chosen => 3
  | .homed => 4
  | .manual => 5

def decisionCode : RestoreDecision → Nat
  | .pending => 0
  | .noCal => 1
  | .confirmed => 2
  | .retainedAlone => 3
  | .vernierAlone => 4
  | .insufficient => 5
  | .conflict => 6
  | .reconfirmed => 7
  | .kept => 8

def homingOutcomeCode : HomingOutcome → Nat
  | .none => 0
  | .success => 1
  | .learned => 2
  | .failed => 3
  | .aborted => 4

def gateStateCode : GateState → Nat
  | .applied => 0
  | .enabling => 1
  | .released => 2
  | .engaging => 3

def healthStateCode : HealthState → Nat
  | .engaged => 0
  | .caution => 1
  | .listen => 2
  | .detached => 3

def unrefReasonCode : UnrefReason → Nat
  | .none => 0
  | .noCal => 1
  | .insufficient => 2
  | .conflict => 3
  | .fault => 4

def storeOutcomeCode : StoreOutcome → Nat
  | .none => 0
  | .verified => 1
  | .failed => 2

def readCauseCode : ReadCause → Nat
  | .none => 0
  | .check => 1
  | .encoderError => 2
  | .timeout => 3
  | .superseded => 4

def tagClassCode : TagClass → Nat
  | .current => 0
  | .late => 1
  | .misaligned => 2

def retainedCauseCode : RetainedCause → Nat
  | .none => 0
  | .powerLoss => 1
  | .reset => 2
  | .restart => 3

def startKindCode : StartKind → Nat
  | .cold => 0
  | .warm => 1
  | .reset => 2
  | .restart => 3

def restorePhaseCode : RestorePhase → Nat
  | .initial => 0
  | .confirmation => 1

/-- `live` is the code LIVE of a confirmation (R73). -/
def validityCode (live : Bool) : Validity → Nat
  | .valid => if live then 4 else 0
  | .unanchored => if live then 4 else 1
  | .doubtful => if live then 4 else 2
  | .lost => if live then 4 else 3

def retainedReasonCode : RetainedReason → Nat
  | .none => 0
  | .cold => 1
  | .backup => 2
  | .step => 3
  | .encoder => 4
  | .motion => 5
  | .range => 6

def directionCode : Direction → Nat
  | .none => 0
  | .forward => 1
  | .backward => 2

def unusableCode : Unusable → Nat
  | .validity => 1
  | .continuity => 2
  | .twoQuadrant => 3
  | .range => 4

def vernierStatusCode : VernierStatus → Nat
  | .unavailable => 0
  | .clear => 1
  | .weak => 2
  | .outside => 3
  | .ambiguous => 4

def homingModeCode : HomingMode → Nat
  | .home => 0
  | .learn => 1

def homingReasonCode : HomingReason → Nat
  | .none => 0
  | .reversed => 1
  | .flagLost => 2
  | .margin => 3
  | .sourceMissed => 4
  | .residual => 5
  | .coarseMismatch => 6
  | .noCoarse => 7
  | .range => 8
  | .peerLost => 9
  | .fault => 10

def stateBeforeCode : Option StateBefore → Nat
  | none => 0
  | some .unreferenced => 3
  | some .referenced => 5

def sweepOutcomeCode : SweepOutcome → Nat
  | .none => 0
  | .running => 1
  | .ended => 2
  | .aborted => 3
  | .discarded => 4

def lastAbsoluteCode : Option Bool → Nat
  | none => 0
  | some false => 1
  | some true => 2

def jumpReasonCode : JumpReason → Nat
  | .none => 0
  | .jump => 1
  | .range => 2

def recordCheckCode : RecordCheck → Nat
  | .good => 0
  | .badCrc => 1
  | .badContent => 2

def copyCheckCode : CopyCheck → Nat
  | .isMatch => 0
  | .mismatch => 1
  | .notApplicable => 2

def portPresenceCode : PortPresence → Nat
  | .pending => 0
  | .present => 1
  | .notFound => 2

/-! ### Views -/

/-- Whether the main domain runs: STARTUP or a later state (R41). -/
def State.mainUp (s : State) : Bool :=
  match s.node.state with
  | .off => false
  | .retain => false
  | _ => true

/-- Whether the straps are valid (R58). -/
def strapsValid (x : Straps) : Bool := x.address != 15#4 && x.axis != 0#3

/-- The node's own station address (R58). -/
def State.ownAddress (s : State) : Address := s.straps.address

/-- Whether the node is coupled: its latched setup names a coupling source (R12). -/
def State.coupled (s : State) : Bool := s.setup.latched.source.isSome

/-- h, floor(L_m/2), taken as 0 while the calibration is invalid (R10, R13). -/
def WorkingCal.h (c : WorkingCal) : Int := if c.valid then (c.data.lm : Int) / 2 else 0

/-- The ratio in use; an UNSET one cannot be that of a valid calibration (R99). Log 33. -/
def ratioInUse (c : CalRecord) : Ratio := c.ratio.getD ⟨1, 1⟩

/-- The health state of a counter (R155). -/
def healthState (health : Nat) : HealthState :=
  if health ≤ 95 then .engaged
  else if health ≤ 159 then .caution
  else if health ≤ 223 then .listen
  else .detached

/-- Whether the node is DETACHED (R155). -/
def LinkController.detached (l : LinkController) : Bool := healthState l.health == .detached

/-- Whether the node keeps and places frames: joined and not DETACHED (R150, R151). -/
def LinkController.placing (l : LinkController) : Bool := l.joined && !l.detached

/-- The action of a kind in the latched setup (R175). -/
def State.actionOf (s : State) (k : FaultKind) : Action := s.setup.latched.actions[kindIndex k]

/-- Whether a kind is in the active set. -/
def State.active (s : State) (k : FaultKind) : Bool := kindHas s.faults.active k

/-- Whether some active kind has the given action. -/
def State.anyActive (s : State) (a : Action) : Bool := allKinds.any fun k => s.active k && s.actionOf k == a

/-- The fault class as its code: the strongest action of the active kinds, NONE for none (R178). -/
def State.faultClass (s : State) : Nat :=
  if s.anyActive .halt then 3 else if s.anyActive .hold then 2 else if s.anyActive .report then 1 else 0

/-- The third condition of R166: RESTORE_CONFLICT does not count in ARMED and CAPTURE of a homing in
mode HOME (R82). -/
def State.conflictExcused (s : State) : Bool :=
  s.homing.mode == .home && (s.node.state == .homing .armed || s.node.state == .homing .capture)

/-- Whether an active HOLD or HALT kind counts against the permission (R166). -/
def State.faultHolds (s : State) : Bool :=
  allKinds.any fun k =>
    s.active k && s.actionOf k != .report && !(k == .restoreConflict && s.conflictExcused)

/-- Whether the node state permits motion (R166). -/
def State.statePermits (s : State) : Bool :=
  match s.node.state with
  | .referenced => true
  | .calibrating => true
  | .homing .armed => true
  | .homing .capture => true
  | .unreferenced => s.gate.jog
  | _ => false

/-- The permission of the gate (R166). -/
def State.permission (s : State) : Bool :=
  s.gate.grant && s.gate.rdyLevel == .high && !s.faultHolds && s.statePermits

/-- DEN: high in ENABLING, RELEASED and ENGAGING (R164). -/
def State.den (s : State) : Bool := s.gate.state != .applied

/-- BRK: high in RELEASED (R164). -/
def State.brk (s : State) : Bool := s.gate.state == .released

/-- MPW: the tracker's read in RETAIN, the Epoch Unit's work in the main domain, off in OFF (R40, R48). -/
def State.mpw (s : State) : Bool :=
  match s.node.state with
  | .off => false
  | .retain => s.ret.tracker.reading
  | _ => s.epoch.running

/-- Whether the node holds RDY low (R184). -/
def State.rdyHeld (s : State) : Bool :=
  match s.node.state with
  | .off => false
  | .retain => true
  | .startup => true
  | _ => s.anyActive .halt

/-- Whether JTX is driven by a transmission; it is recessive otherwise (R139). -/
def State.jtxDriving (s : State) : Bool := s.link.tx.isSome

/-- The settle timer runs in ENABLING, the bite timer in ENGAGING (R164). -/
def State.settleRunning (s : State) : Bool := s.gate.state == .enabling
def State.biteRunning (s : State) : Bool := s.gate.state == .engaging

/-- The turn mirror's fields as the Position Unit holds them, with the hold as it stands (R43). -/
def mirrorView (held : Bool) (u : PositionUnit) : TurnMirror where
  t := turnOf u.p
  quadrant := quadrantOf u.thetaLast
  abs := u.abs
  s := u.s
  playKnown := u.playKnown
  lastDir := u.lastDir
  held := held

/-- The class of a tag against a count (R32). -/
def classOf (tag count : Tag) : TagClass :=
  if tag = count then .current else if tag = count - 1#8 then .late else .misaligned

/-- The standing of an entry (R129). -/
inductive Standing where
  | presentTrusted
  | presentUntrusted
  | silent
deriving DecidableEq, Repr

def PeerEntry.standing (e : PeerEntry) : Standing :=
  if e.absent || !e.heard then .silent else if e.trusted then .presentTrusted else .presentUntrusted

/-- The entry of an address (R122). -/
def PeerTable.entry? (t : PeerTable) (a : Address) : Option PeerEntry := t.entries.find? fun e => e.address == a

/-- The table with the entries of an address changed. -/
def PeerTable.modify (t : PeerTable) (a : Address) (f : PeerEntry → PeerEntry) : PeerTable :=
  { t with entries := t.entries.map fun e => if e.address == a then f e else e }

/-- Whether any entry is ABSENT (R127). -/
def PeerTable.anyAbsent (t : PeerTable) : Bool := t.entries.any fun e => e.absent

/-- The wait set of a homing: the setup's wait set with the coupling source (R80). -/
def State.waitSet (s : State) : List Address := s.setup.latched.waitSet ++ s.setup.latched.source.toList

/-- The trusted flag of a frame (R71); `src` is the matched source frame of a coupled node. -/
def State.trustedNow (s : State) (src : Option SourceFrame) : Bool :=
  s.pos.abs &&
  (match s.node.state with
    | .referenced => true
    | .homing _ => true
    | .calibrating => true
    | _ => false) &&
  s.cal.valid &&
  (!s.coupled || (src.any (fun f => f.absolute) && decide (s.coupling.missCount < s.setup.latched.missLimit)))

/-- Whether a joint position lies in the travel window, both ends included (R172). -/
def insideWindow (c : CalRecord) (w : Window) (j : Int) : Bool := inRange (w.lo - c.m) (w.hi + c.m) j

/-! ### Payloads (R158 to R160, R162) -/

/-- Node state, substate and basis in one byte (R159, R160). -/
def stateByte (n : NodeRecord) : Byte :=
  packed [(3, nodeStateCode n.state), (2, substateCode n.state), (3, basisCode n.basis)]

/-- What the store state shows (R160). The target bit of an IDLE store is 0: log 44. -/
def storeWriting (u : StoreUnit) : Nat := flag u.writing.isSome
def storeTargetBit (u : StoreUnit) : Nat := flag (u.writing == some .setup)

/-- The trigger fields of STATUS: bytes 0 to 7 of its payload (R151, R160). -/
def State.statusTriggers (s : State) : List Byte :=
  [stateByte s.node,
   packed [(4, decisionCode s.node.report.decision), (3, homingOutcomeCode s.homing.outcome), (1, flag s.node.confirmed)],
   packed [(2, gateStateCode s.gate.state), (1, flag s.gate.grant), (1, flag s.gate.jog),
           (2, healthStateCode (healthState s.link.health)), (2, s.faultClass)]] ++
  bytesOf 2 s.faults.active.toNat ++
  [packed [(3, unrefReasonCode s.node.reason), (1, flag (s.epoch.sync == .synced)), (1, flag (s.epoch.alignment == .aligned)),
           (1, flag s.cal.dirty), (1, flag s.setup.dirty), (1, flag s.cal.valid)],
   packed [(1, storeWriting s.store), (1, storeTargetBit s.store), (2, storeOutcomeCode s.store.calOutcome),
           (2, storeOutcomeCode s.store.setupOutcome)],
   packed [(3, s.straps.axis.toNat), (1, restorePhaseCode s.node.phase)]]

/-- The STATUS payload as it stands (R160). -/
def State.statusPayload (s : State) : List Byte :=
  s.statusTriggers ++ [codeByte s.link.requestOverrun, codeByte s.faults.haltCount, s.epoch.count]

/-- A frame of the node sent to all (R141). -/
def State.ownFrame (s : State) (kind : BitVec 4) (payload : List Byte) : Frame := ⟨kind, s.ownAddress, 15#4, payload⟩

/-- P_x, the extrapolated count a failed read forms (R5). -/
def extrapolatedCount (u : PositionUnit) : Int := clampInt countMin countMax (u.p + u.deltaLast)

/-- What the motor read of the epoch gives the frame: the count, P or the epoch's own P_x, Δ or Δ_last,
and EXTRAPOLATED (R5, R14). -/
def epochCount (u : PositionUnit) (m : EpochMotor) : Int × Int × Bool :=
  match m with
  | .counted d => (u.p, d, false)
  | .extrapolated px => (px, u.deltaLast, true)
  | _ => (u.p, 0, false)

/-- The POSITION payload of the epoch (R14, R159). -/
def State.positionPayload (s : State) (joint : Joint) (trusted : Bool) : List Byte :=
  let c := epochCount s.pos s.work.motor
  [s.epoch.count,
   packed [(1, flag s.epoch.epochSynced), (1, flag trusted), (1, flag s.pos.abs), (1, flag c.2.2), (1, flag joint.saturated),
           (1, flag s.coupling.prevMissed)],
   stateByte s.node] ++ bytesOf 4 c.1 ++ bytesOf 4 joint.j ++ bytesOf 2 c.2.1

/-- The self-check record: six codes of 2 bits from bit 15 down (R162). -/
def selfCheckBytes (c : SelfCheck) : List Byte :=
  [packed [(2, recordCheckCode c.setupRecord), (2, recordCheckCode c.calRecord), (2, copyCheckCode c.setupCopy),
           (2, copyCheckCode c.calCopy)],
   packed [(2, portPresenceCode c.motorPort), (2, portPresenceCode c.coarsePort)]]

/-- Gate state, grant and jog in one byte (R162). -/
def gateByte (g : MotionGate) : Byte := packed [(2, gateStateCode g.state), (1, flag g.grant), (1, flag g.jog)]

end Sys2Proof.Machine
end

