-- ==== Sys2Proof/Machine/Publish.lean ====
section
/-! DEFINITION. What ends every event: the turn mirror written, the permission judged, the STATUS frame
placed. -/

namespace Sys2Proof.Machine

/-- A STATUS frame built from the values as they stand and placed, while joined and not DETACHED; the
beacon count becomes 0 (R151). -/
def placeStatus (s : State) : State :=
  if s.link.placing then
    s.setLink { s.link with statusSlot := some (s.ownFrame kindStatus s.statusPayload), beaconCount := 0 }
  else s

/-- A POSITION frame placed, while joined and not DETACHED; an unsent one is replaced and counted
(R150). -/
def placePosition (payload : List Byte) (s : State) : State :=
  if s.link.placing then
    s.setLink { s.link with
      positionSlot := some (s.ownFrame kindPosition payload),
      publishOverrun := if s.link.positionSlot.isSome then satSucc 255 s.link.publishOverrun else s.link.publishOverrun }
  else s

/-- What a gate in a given state makes of a permission (R170, R171): the permission gained in APPLIED
enters ENABLING; lost in ENABLING it returns to APPLIED, lost in RELEASED it enters ENGAGING, and the
grant and jog are cleared; ENGAGING waits for its timer. -/
def gateOn (permission : Bool) (g : MotionGate) : MotionGate :=
  match g.state, permission with
  | .applied, true => { g with state := .enabling }
  | .enabling, false => { g with state := .applied, grant := false, jog := false }
  | .released, false => { g with state := .engaging, grant := false, jog := false }
  | _, _ => g

/-- The permission judged after a change that found s0: a permission left as it was has no effect
(R166). -/
def judgeGate (s0 s : State) : State :=
  if s0.permission = s.permission then s else s.setGate (gateOn s.permission s.gate)

/-- A change of node state or substate, with the permission judged at it (R166). Log 11. -/
def moveNode (n : NodeRecord) (s : State) : State := judgeGate s (s.setNode n)

/-- A change of the supervisor's record that may change the active set, with the permission judged at it
(R166). Log 11. -/
def moveFaults (f : FaultSupervisor) (s : State) : State := judgeGate s (s.setFaults f)

/-- The turn mirror after an event that began at s0: written whole when a field of it has changed, or
when the hold has ended (R43, R44). -/
def mirrorSync (s0 s : State) : State :=
  if s.mainUp && !s.ret.mirror.held && (s0.ret.mirror.held || mirrorView false s0.pos != mirrorView false s.pos) then
    s.setRet { s.ret with mirror := mirrorView false s.pos }
  else s

/-- The STATUS frame of an event that began at s0: placed when a trigger field has changed (R151). -/
def publish (s0 s : State) : State :=
  if s0.statusTriggers = s.statusTriggers then s else placeStatus s

/-- The end of an event that began at s0 (log 11). The permission has been judged at each change of node
state and of the active set; the judgement here finds the changes of grant and RDY level, and acts on
no change a second time. -/
def conclude (s0 s : State) : State :=
  publish s0 (judgeGate s0 (mirrorSync s0 s))

end Sys2Proof.Machine
end

