-- ==== Sys2Proof/Machine/Reference.lean ====
section
/-! DEFINITION. The moves of the Reference Controller that other blocks call for: the endings of a homing
and of a sweep, the loss of trust through the source, the loss of the absolute count. -/

namespace Sys2Proof.Machine

/-- Entry to REFERENCED: unreferenced reason NONE, drift run 0 (R21, R68, R92). -/
def enterReferenced (s : State) : State :=
  (moveNode { s.node with state := .referenced, reason := .none } s).setPos { s.pos with driftRun := 0 }

/-- The absolute count set: ABS yes, drift run 0, the mirror's hold ended (R9, R44). -/
def setAbsolute (s : State) : State :=
  (s.setPos { s.pos with abs := true, driftRun := 0 }).setRet
    { s.ret with mirror := { s.ret.mirror with held := false } }

/-- UNREFERENCED with reason FAULT, basis NONE, confirmed no (R74); the restore phase stays: log 49. -/
def demote (s : State) : State :=
  moveNode { s.node with state := .unreferenced, reason := .fault, basis := .none, confirmed := false } s

/-- Only the unreferenced reason becomes FAULT (R74, R177). -/
def reasonFault (s : State) : State := s.setNode { s.node with reason := .fault }

/-- The homing record's ending, the pending capture discarded (R77, R94). -/
def closeHoming (outcome : HomingOutcome) (reason : HomingReason) (s : State) : State :=
  (s.setHoming { s.homing with outcome := outcome, reason := reason }).setHomingOp HomingOp.start

/-- The node returned to its state before HOMING; REFERENCED is entered with drift run 0 (R94). -/
def returnFromHoming (s : State) : State :=
  match s.homing.before with
  | some .referenced =>
    (moveNode { s.node with state := .referenced } s).setPos { s.pos with driftRun := 0 }
  | _ => moveNode { s.node with state := .unreferenced } s

/-- Whether the node is in HOMING, in any substate. -/
def State.inHoming (s : State) : Bool :=
  match s.node.state with
  | .homing _ => true
  | _ => false

/-- A homing ended with an outcome other than success: written once, and the node returned (R94).
Outside HOMING nothing happens. -/
def endHoming (outcome : HomingOutcome) (reason : HomingReason) (s : State) : State :=
  if s.inHoming then returnFromHoming (closeHoming outcome reason s) else s

/-- The sweep ended without updating the table (R121). -/
def dropSweep (outcome : SweepOutcome) (s : State) : State :=
  s.setSweep { s.sweep with
    outcome := outcome, sums := Vector.replicate 32 0, counts := Vector.replicate 32 0, updated := 0, clamped := 0 }

/-- RESTORING/WAIT_SOURCE with phase CONFIRMATION (R72). -/
def enterConfirmation (s : State) : State :=
  moveNode { s.node with state := .restoring .waitSource, phase := .confirmation } s

/-- A re-home that ended returns to REFERENCED and then waits for its source (R72, R94). -/
def confirmIfReferenced (s : State) : State :=
  if s.node.state = .referenced then enterConfirmation s else s

/-- The loss of trust through the source, by the node's state (R72, R81). -/
def trustLoss (s : State) : State :=
  match s.node.state with
  | .referenced => enterConfirmation s
  | .calibrating => enterConfirmation (dropSweep .discarded s)
  | .homing _ => confirmIfReferenced (endHoming .failed .peerLost s)
  | _ => s

/-- What the loss of the absolute count makes of the node (R74). -/
def demoteByState (s : State) : State :=
  match s.node.state with
  | .referenced => demote s
  | .homing _ => demote (closeHoming .failed .fault s)
  | .calibrating => demote (dropSweep .discarded s)
  | .restoring _ => demote s
  | .unreferenced => s.setNode { s.node with basis := .none, reason := .fault }
  | _ => s

/-- What a notice that finds ABS no makes of the node: an entry ends a homing in UNREFERENCED (R95),
otherwise only the reason changes (R177). -/
def reasonByState (entry : Bool) (s : State) : State :=
  match s.node.state with
  | .homing _ => if entry then demote (closeHoming .failed .fault s) else reasonFault s
  | .off => s
  | .retain => s
  | .startup => s
  | _ => reasonFault s

/-- Whether the restore decision of the start is still to come: STARTUP, or RESTORING with phase
INITIAL (R74). -/
def State.beforeDecision (s : State) : Bool :=
  match s.node.state with
  | .startup => true
  | .restoring _ => s.node.phase == .initial
  | _ => false

/-- ABS becomes no and the drift run 0; P and the other fields stay (R9, R177). -/
def clearAbsolute (s : State) : State := s.setPos { s.pos with abs := false, driftRun := 0 }

/-- A notice of MOTOR_ENCODER, TRACK_JUMP or VERNIER_DRIFT acted on (R74, R177). Before the INITIAL decision it
changes continuity only: log 54. -/
def removeAbsolute (entry : Bool) (s : State) : State :=
  let s' := if s.pos.abs then clearAbsolute s else s
  if s.beforeDecision then
    s'.setNode { s'.node with continuity := s'.node.continuity && !s'.pos.established }
  else if s.pos.abs then demoteByState s'
  else reasonByState entry s'

end Sys2Proof.Machine
end

