-- ==== Sys2Proof/Machine/Supervisor.lean ====
section
/-! DEFINITION. The Fault Supervisor: a notice, a condition that goes, a departure, the retry test,
CLEAR_FAULTS. -/

namespace Sys2Proof.Machine

/-- The kinds whose condition is GONE from the notice on (R179). -/
def eventKind : FaultKind → Bool
  | .trackJump => true
  | .vernierDrift => true
  | .travelLimit => true
  | .storeFailed => true
  | _ => false

/-- The kinds that remove the absolute count (R175). -/
def removingKind : FaultKind → Bool
  | .motorEncoder => true
  | .trackJump => true
  | .vernierDrift => true
  | _ => false

/-- The condition of a kind after a notice (R176, R179). -/
def notedPresent (present : KindSet) (k : FaultKind) : KindSet :=
  if eventKind k then kindRemove present k else kindAdd present k

/-- The fault record of an entry: the epoch count and the node state before the fault's own effects
(R183). -/
def State.recordOf (s : State) (k : FaultKind) (reason : JumpReason) : FaultRecord :=
  ⟨k, s.epoch.count, s.node.state, reason⟩

/-- The supervisor's record at an entry: active, condition, latched set, first and last records (R176,
R183). -/
def enterKind (k : FaultKind) (rec : FaultRecord) (f : FaultSupervisor) : FaultSupervisor :=
  { f with
    active := kindAdd f.active k
    present := notedPresent f.present k
    latchedSet := kindAdd f.latchedSet k
    first := some (f.first.getD rec)
    last := some rec }

/-- The retry timer restarts at each notice of MOTOR_ENCODER under RETRY recovery (R180). -/
def startRetry (k : FaultKind) (s : State) : State :=
  if k = .motorEncoder && s.setup.latched.recovery == .retry then
    s.setFaults { s.faults with retryTimer := .running }
  else s

/-- A homing is ended by an entry with action HOLD or HALT; COUPLING_LOST ends it with PEER_LOST
instead, and the removing kinds end it in UNREFERENCED (R95). -/
def endHomingByFault (k : FaultKind) (s : State) : State :=
  if s.actionOf k != .report && !removingKind k && k != .couplingLost then endHoming .failed .fault s else s

/-- What R177 makes of a notice of one of the three kinds. -/
def removeByKind (k : FaultKind) (entry : Bool) (s : State) : State :=
  if removingKind k then removeAbsolute entry s else s

/-- A notice of a kind that is not active (R176). -/
def entryNotice (k : FaultKind) (reason : JumpReason) (s : State) : State :=
  removeByKind k true (endHomingByFault k (startRetry k (moveFaults (enterKind k (s.recordOf k reason) s.faults) s)))

/-- A notice of a kind that is active already (R176). -/
def repeatNotice (k : FaultKind) (s : State) : State :=
  removeByKind k false (startRetry k (s.setFaults { s.faults with present := notedPresent s.faults.present k }))

/-- A notice of a kind, with the reason of a TRACK_JUMP (R176). -/
def noticeWith (k : FaultKind) (reason : JumpReason) (s : State) : State :=
  if s.active k then repeatNotice k s else entryNotice k reason s

/-- A notice of a kind. -/
def notice (k : FaultKind) (s : State) : State := noticeWith k .none s

/-- The supervisor's record at a departure: not active, condition GONE; the retry timer of
MOTOR_ENCODER stops (R179, R180). -/
def departKind (k : FaultKind) (f : FaultSupervisor) : FaultSupervisor :=
  { f with
    active := kindRemove f.active k
    present := kindRemove f.present k
    retryTimer := if k = .motorEncoder then .stopped else f.retryTimer }

/-- A kind leaves the active set (R179). -/
def depart (k : FaultKind) (s : State) : State := moveFaults (departKind k s.faults) s

/-- The test of RETRY recovery (R180). -/
def retryTest (s : State) : State :=
  if s.setup.latched.recovery = .retry ∧ s.active .motorEncoder = true ∧ s.faults.retryTimer = .expired ∧
      8 ≤ s.enc.motor.goodRun then depart .motorEncoder s
  else s

/-- The condition of a kind becomes GONE and the kind stays active (R179). -/
def conditionCleared (k : FaultKind) (s : State) : State :=
  s.setFaults { s.faults with present := kindRemove s.faults.present k }

/-- The notice that the condition of a kind has gone (R179): the departure of the kinds that leave with
it; MOTOR_ENCODER waits for its recovery and ADDRESS_CLASH for CLEAR_FAULTS. No effect on a kind that
is not active. -/
def conditionGone (k : FaultKind) (s : State) : State :=
  if s.active k then
    match k with
    | .motorEncoder => retryTest (conditionCleared k s)
    | .addressClash => conditionCleared k s
    | .trackJump => s
    | .vernierDrift => s
    | .travelLimit => s
    | .storeFailed => s
    | _ => depart k s
  else s

/-- Whether CLEAR_FAULTS clears an active kind (R181). -/
def clearable (f : FaultSupervisor) : FaultKind → Bool
  | .trackJump => true
  | .vernierDrift => true
  | .travelLimit => true
  | .storeFailed => true
  | .motorEncoder => !kindHas f.present .motorEncoder
  | .addressClash => !kindHas f.present .addressClash
  | _ => false

/-- One kind of a CLEAR_FAULTS. -/
def clearKind (f : FaultSupervisor) (k : FaultKind) : FaultSupervisor :=
  if kindHas f.active k && clearable f k then departKind k f else f

/-- CLEAR_FAULTS on the supervisor's record: the removals, then the latched set, then the records if
the active set is empty (R181). -/
def clearFaults (f : FaultSupervisor) : FaultSupervisor :=
  let f' := allKinds.foldl clearKind f
  { f' with
    latchedSet := f'.active
    first := if f'.active = 0 then none else f'.first
    last := if f'.active = 0 then none else f'.last }

end Sys2Proof.Machine
end

