-- ==== Sys2Proof/Machine/Position.lean ====
section
/-! DEFINITION. The Position Unit's arithmetic: count update, play, joint position, coarse angle,
candidates, vernier, drift, and the handover of the POSITION frame with its travel judgement. -/

namespace Sys2Proof.Machine

/-! ### Count update (R3 to R8, R37) -/

/-- What a motor read makes of the record: the record, the epoch's reported Δ, and the reason of a
TRACK_JUMP, none where none is raised. -/
structure CountResult where
  pos : PositionUnit
  delta : Int
  jump : JumpReason
deriving DecidableEq, Repr

/-- Play unknown with s := 0 and A := 0, or known with s = 0 when h is 0 (R11). -/
def playUnknown (h : Int) (u : PositionUnit) : PositionUnit := { u with s := 0, acc := 0, playKnown := h == 0 }

/-- Play learned or not from the accumulator's new value (R11). -/
def learnPlay (h a : Int) (u : PositionUnit) : PositionUnit :=
  if 2 * h ≤ |a| then { u with s := if 0 < a then h else -h, playKnown := true, acc := 0 }
  else { u with s := 0, acc := a }

/-- The play update of a counted epoch (R10, R11). -/
def playUpdate (h d : Int) (u : PositionUnit) : PositionUnit :=
  if u.playKnown then { u with s := clampInt (-h) h (u.s + d) } else learnPlay h (u.acc + d) u

/-- The last direction after a motion (R3). -/
def directionOf (d : Int) (was : Direction) : Direction := if 0 < d then .forward else if d < 0 then .backward else was

/-- A count of turn T and angle θ (R1). -/
def countOf (t : Int) (θ : Theta) : Int := t * 16384 + θ.toNat

/-- P after a motion, its turn number saturated at its bound (R3, R6), and whether it was. -/
def addMotion (p d : Int) (θ : Theta) : Int × JumpReason :=
  if countMax < p + d then (countOf turnMax θ, .range)
  else if p + d < countMin then (countOf turnMin θ, .range)
  else (p + d, .none)

/-- The first good read of a start establishes the record (R1, R37). -/
def firstRead (h : Int) (θ : Theta) (u : PositionUnit) : CountResult where
  pos := { u with established := true, p := countOf 0 θ, thetaLast := θ, deltaLast := 0, failedRun := 0, s := 0, acc := 0,
                  playKnown := h == 0, lastDir := .none, firstQuarter := quarterOf (countOf 0 θ) }
  delta := 0
  jump := .none

/-- A counted epoch: the jump test passed (R3, R6). -/
def countedRead (h d : Int) (n : Nat) (θ : Theta) (u : PositionUnit) : CountResult where
  pos := playUpdate h d
    { u with p := (addMotion u.p d θ).1, thetaLast := θ, deltaLast := roundDiv d n, failedRun := 0,
             lastDir := directionOf d u.lastDir }
  delta := d
  jump := (addMotion u.p d θ).2

/-- A failed jump test re-bases the count on the new angle (R4). -/
def jumpRead (h : Int) (θ : Theta) (u : PositionUnit) : CountResult where
  pos := playUnknown h { u with p := countOf (turnOf u.p) θ, thetaLast := θ, deltaLast := 0, failedRun := 0 }
  delta := 0
  jump := .jump

/-- The first good read after a failed run of 3 or more (R8). -/
def rebaseRead (h d : Int) (θ : Theta) (u : PositionUnit) : CountResult where
  pos := playUnknown h
    { u with p := (addMotion u.p d θ).1, thetaLast := θ, deltaLast := 0, failedRun := 0, lastDir := directionOf d u.lastDir }
  delta := d
  jump := (addMotion u.p d θ).2

/-- The motion of a new angle from the last good one (R3). -/
def motionOf (θ last : Theta) : Int := wrapS (θ.toNat - last.toNat)

/-- The limit of the jump test over n epochs (R3). -/
def jumpBound (jumpLimit n : Nat) : Nat := min 8191 (jumpLimit * n)

/-- The count update of a good motor read (R3, R4, R6, R8, R37). -/
def countGood (h : Int) (jumpLimit : Nat) (θ : Theta) (u : PositionUnit) : CountResult :=
  let d := motionOf θ u.thetaLast
  let n := u.failedRun + 1
  if !u.established then firstRead h θ u
  else if 3 ≤ u.failedRun then rebaseRead h d θ u
  else if |d| ≤ (jumpBound jumpLimit n : Int) then countedRead h d n θ u
  else jumpRead h θ u

/-- The count update of a failed motor read: the failed run counted, and what the epoch becomes, with
the P_x formed here (R5, R7); before the first good read it gives nothing to form (R37). -/
def countFailed (u : PositionUnit) : PositionUnit × EpochMotor :=
  if !u.established then (u, .noCount)
  else
    ({ u with failedRun := satSucc 255 u.failedRun },
     if satSucc 255 u.failedRun < 3 then .extrapolated (extrapolatedCount u) else .noCount)

/-! ### Joint position (R12, R13) -/

/-- J of an effective count, exact (R13). -/
def jointExact (c : CalRecord) (e : Int) : Int := roundDiv ((e - c.z) * 64 * (ratioInUse c).den) (ratioInUse c).num

/-- K of a source count (R12). -/
def couplingTerm (c : CalRecord) (pSrc : Int) : Int := roundDiv (c.c * pSrc) 4096

/-- The joint position of an epoch from its count and coupling term (R13): 0 without K while the
calibration is invalid; a coupled node then forms no E (log 19). -/
def formJoint (cal : WorkingCal) (coupled : Bool) (count k : Int) : Joint :=
  if cal.valid then
    let j := jointExact cal.data (count - k)
    { j := clampInt int32Min int32Max j, saturated := !inRange int32Min int32Max j, e := some (count - k), k := k }
  else { j := 0, saturated := false, e := if coupled then none else some count, k := 0 }

/-! ### Coarse angle, candidates, vernier (R15 to R19) -/

/-- The bin and the fraction of a coarse angle between bin centres (R15). -/
def binOf (g : CoarseAngle) : Nat × Nat :=
  let u := (g - 64#12).toNat
  (u / 128, u % 128)

/-- Bin b of the correction table, b taken modulo 32. -/
def corrBin (c : CalRecord) (b : Nat) : Int := c.corr.toList.getD (b % 32) 0

/-- The interpolated correction (R15). -/
def correction (c : CalRecord) (g : CoarseAngle) : Int :=
  let b := binOf g
  corrBin c b.1 + roundDiv ((corrBin c (b.1 + 1) - corrBin c b.1) * b.2) 128

/-- Gq, the corrected coarse angle (R15). -/
def correctedAngle (c : CalRecord) (g : CoarseAngle) : Sixteenths := BitVec.ofInt 16 (16 * g.toNat + correction c g)

/-- Jg, the coarse joint angle (R16). -/
def coarseJoint (c : CalRecord) (gq : Sixteenths) : Int := signed65536 (gq.toNat - c.zg.toNat) * 16

/-- One joint revolution in joint units. -/
def revolution : Int := 1048576

/-- s_j, the play in joint units (R17). -/
def playJoint (c : CalRecord) (s : Int) : Int := roundDiv (s * 64 * (ratioInUse c).den) (ratioInUse c).num

/-- The lowest k with base + k·2^20 at or above a bound. -/
def kAtLeast (base lo : Int) : Int := -((base - lo) / revolution)

/-- The highest k with base + k·2^20 at or below a bound. -/
def kAtMost (base hi : Int) : Int := (hi - base) / revolution

/-- The k whose base + k·2^20 lies nearest a value, the lower on a tie (R17, R20). -/
def kNearest (base x : Int) : Int := (x - base + 524287) / revolution

/-- The candidates of an epoch (R17): how many, and the one chosen where there is one. -/
structure Candidates where
  count : Nat
  chosen : Option Int
deriving DecidableEq, Repr

/-- The candidates at base + k·2^20 within the window widened by M; `guide` chooses among two or more
(R17). -/
def candidates (c : CalRecord) (base : Int) (guide : Option Int) : Candidates :=
  match c.window with
  | none => ⟨0, none⟩
  | some w =>
    let lo := kAtLeast base (w.lo - c.m)
    let hi := kAtMost base (w.hi + c.m)
    let count := (hi - lo + 1).toNat
    { count := count
      chosen :=
        if count = 0 then none
        else if count = 1 then some (base + lo * revolution)
        else guide.map fun x => base + clampInt lo hi (kNearest base x) * revolution }

/-- The vernier turn number and r of a candidate (R18). -/
def vernierTurn (c : CalRecord) (jc k : Int) (θ : Theta) : Int × Int :=
  let pg := c.z + roundDiv (jc * (ratioInUse c).num) (64 * (ratioInUse c).den) + k
  let t := roundDiv (pg - θ.toNat) 16384
  (t, (pg - θ.toNat) - 16384 * t)

/-- The effective tolerance (R19). -/
def vernierTolerance (cal : WorkingCal) (playKnown : Bool) : Int :=
  if playKnown then cal.data.v else min 8191 (cal.data.v + cal.h)

/-- The status of a candidate's turn number and r (R19). -/
def vernierStatus (tolerance t r : Int) : VernierStatus :=
  if !inRange turnMin turnMax t then .outside
  else if |r| ≤ tolerance then .clear
  else .weak

/-- The vernier result of an epoch (R18, R19). `base` is Jg + s_j. -/
def vernier (cal : WorkingCal) (usable playKnown : Bool) (base k : Int) (θ : Theta) (guide : Option Int) : VernierResult :=
  if !usable then ⟨.unavailable, 0, 0, 0, 0⟩
  else
    let cs := candidates cal.data base guide
    match cs.chosen with
    | none => ⟨if cs.count = 0 then .outside else .ambiguous, 0, 0, 0, cs.count⟩
    | some jc =>
      let v := vernierTurn cal.data jc k θ
      ⟨vernierStatus (vernierTolerance cal playKnown) v.1 v.2, v.1, v.2, 8192 - |v.2|, cs.count⟩

/-! ### Drift (R20, R21) -/

/-- The drift of an epoch, J − J_pred, with J_pred the candidate nearest J (R20). -/
def driftOf (j base : Int) : Int := j - (base + kNearest base j * revolution)

/-! ### Handover (R14, R71, R172) -/

/-- The travel judgement of a trusted frame: an outward crossing gives notice of TRAVEL_LIMIT (R172). -/
def judgeTravel (j : Int) (s : State) : State :=
  match s.cal.data.window with
  | none => s
  | some w =>
    if insideWindow s.cal.data w j then s.setGate { s.gate with travelSide := .inside }
    else
      match s.gate.travelSide with
      | .outside => s
      | .inside => notice .travelLimit (s.setGate { s.gate with travelSide := .outside })

/-- The handover of the epoch's POSITION values while ALIGNED: the trusted flag evaluated and kept, the
frame placed, a trusted one judged for travel (R14, R71, R150, R172). While the link keeps no frame the flag is
kept and judged all the same: log 48. -/
def handover (joint : Joint) (src : Option SourceFrame) (s : State) : State :=
  if s.epoch.alignment = .aligned then
    let trusted := s.trustedNow src
    let s' := placePosition (s.positionPayload joint trusted) (s.setNode { s.node with trusted := trusted })
    if trusted then judgeTravel joint.j s' else s'
  else s

/-- J of the epoch computed and handed over (R13, R14). -/
def computeJoint (k : Int) (src : Option SourceFrame) (s : State) : State :=
  let joint := formJoint s.cal s.coupled (epochCount s.pos s.work.motor).1 k
  handover joint src ((s.setPos { s.pos with j := joint.j }).setWork { s.work with joint := some joint })

end Sys2Proof.Machine
end

