-- ==== Sys2Proof/Machine/Restore.lean ====
section
/-! DEFINITION. The restore decision and its confirmation (R64 to R69, R73). -/

namespace Sys2Proof.Machine

/-- A turn number adjusted from the record's quadrant to the present one (R65). -/
def adjustTurn (t : Int) (qRet qNow : Quadrant) : Int :=
  if qRet = 3#2 ∧ qNow = 0#2 then t + 1 else if qRet = 0#2 ∧ qNow = 3#2 then t - 1 else t

/-- The retained outcome of a record at a decide epoch (R65). -/
def retainedOutcome (r : RetainedRecord) (continuity : Bool) (qNow : Quadrant) : RetainedOutcome :=
  if r.validity ≠ .valid then .unusable .validity
  else if !continuity then .unusable .continuity
  else if qNow - r.qRet = 2#2 then .unusable .twoQuadrant
  else if inRange turnMin turnMax (adjustTurn r.tRet r.qRet qNow) then .adjusted (adjustTurn r.tRet r.qRet qNow)
  else .unusable .range

/-- The play set before the vernier of an INITIAL restore (R66). -/
def restoredPlay (h : Int) (r : RetainedRecord) (qNow : Quadrant) (u : PositionUnit) : PositionUnit :=
  if r.playKnown && qNow == r.qRet then { u with s := clampInt (-h) h r.s, playKnown := true, acc := 0 }
  else playUnknown h u

/-- A decision from the retained outcome and the vernier, with the turn number it sets (R68). -/
def initialDecision (retainedAlone vernierAlone : Bool) (o : RetainedOutcome) (v : VernierResult) :
    RestoreDecision × Option Int :=
  match o with
  | .adjusted t =>
    if v.status = .clear then (if v.tv = t then (.confirmed, some t) else (.conflict, none))
    else if retainedAlone then (.retainedAlone, some t) else (.insufficient, none)
  | .unusable _ =>
    if v.status = .clear ∧ vernierAlone = true then (.vernierAlone, some v.tv) else (.insufficient, none)

/-- A confirmation from the live turn number and the vernier (R73). -/
def confirmDecision (tLive : Int) (v : VernierResult) : RestoreDecision :=
  if v.status = .clear then (if v.tv = tLive then .reconfirmed else .conflict) else .kept

/-- The basis an INITIAL decision sets (R68). -/
def decisionBasis : RestoreDecision → Basis
  | .confirmed => .retained
  | .retainedAlone => .retained
  | .vernierAlone => .vernier
  | _ => .none

/-- Whether a node at a decision enters REFERENCED (R68, R73). -/
def decisionRefers : RestoreDecision → Bool
  | .confirmed => true
  | .retainedAlone => true
  | .vernierAlone => true
  | .reconfirmed => true
  | .kept => true
  | _ => false

/-- The unreferenced reason of a decision that does not (R68). -/
def decisionReason : RestoreDecision → UnrefReason
  | .conflict => .conflict
  | .insufficient => .insufficient
  | _ => .none

/-- The turn number set, θ kept, ABS yes; without one the count stays relative (R9, R68). -/
def setTurn (t : Option Int) (u : PositionUnit) : PositionUnit :=
  match t with
  | some t => { u with p := countOf t u.thetaLast, abs := true, driftRun := 0 }
  | none => { u with driftRun := 0 }

/-- The conflict record a decision of CONFLICT forms (R69); `u` is the Position Unit after the
decision. -/
def conflictOf (kind : RestorePhase) (side : Int) (v : VernierResult) (u : PositionUnit) (tag : Tag) : ConflictRecord where
  kind := kind
  retainedSide := side
  vernierSide := v.tv
  decideTurn := turnOf u.p
  r := v.r
  margin := v.margin
  tag := tag

/-- The restore report of an INITIAL decision (R76). -/
def initialReport (was : RestoreReport) (r : RetainedRecord) (qNow : Quadrant) (o : RetainedOutcome) (v : VernierResult)
    (guided : Bool) (d : RestoreDecision) (tag : Tag) : RestoreReport where
  kind := was.kind
  phase := .initial
  cause := r.cause
  live := false
  validity := r.validity
  reason := r.reason
  tRet := r.tRet
  qRet := r.qRet
  qNow := some qNow
  outcome := some o
  vernier := some v
  guided := guided
  decision := d
  basis := decisionBasis d
  decideTag := some tag

/-- The restore report of a confirmation: T_live in place of T_ret and T_adj, validity LIVE (R73, R76).
Its reason: log 34. -/
def confirmReport (was : RestoreReport) (tLive : Int) (q : Quadrant) (v : VernierResult) (d : RestoreDecision) (basis : Basis)
    (tag : Tag) : RestoreReport where
  kind := was.kind
  phase := .confirmation
  cause := was.cause
  live := true
  validity := .valid
  reason := .none
  tRet := tLive
  qRet := q
  qNow := some q
  outcome := some (.adjusted tLive)
  vernier := some v
  guided := true
  decision := d
  basis := basis
  decideTag := some tag

/-- RESTORE_CONFLICT raised by a decision of CONFLICT, the node still RESTORING (log 12). -/
def raiseConflict (d : RestoreDecision) (s : State) : State :=
  if d = .conflict then notice .restoreConflict s else s

/-- The node record after an INITIAL decision (R68, R69). -/
def decidedNode (d : RestoreDecision) (report : RestoreReport) (conflict : ConflictRecord) (n : NodeRecord) : NodeRecord :=
  { n with
    state := if decisionRefers d then .referenced else .unreferenced
    reason := decisionReason d
    basis := decisionBasis d
    confirmed := d == .confirmed
    conflict := if d = .conflict then some conflict else n.conflict
    report := report }

/-- The guide of an INITIAL vernier: J_ret of a usable T_adj (R67). -/
def initialGuide (c : CalRecord) (o : RetainedOutcome) (θ : Theta) (k : Int) : Option Int :=
  match o with
  | .adjusted t => some (jointExact c (countOf t θ - k))
  | .unusable _ => none

/-- The INITIAL restore decision at the coarse evaluation of the decide epoch (R64 to R69). -/
def decideInitial (joint : Joint) (base : Int) (usable : Bool) (s : State) : State :=
  let r := s.ret.record
  let θ := s.pos.thetaLast
  let o := retainedOutcome r s.node.continuity (quadrantOf θ)
  let guide := initialGuide s.cal.data o θ joint.k
  let v := vernier s.cal usable s.pos.playKnown base joint.k θ guide
  let d := initialDecision s.setup.latched.retainedAlone s.setup.latched.vernierAlone o v
  let report := initialReport s.node.report r (quadrantOf θ) o v guide.isSome d.1 s.epoch.count
  let u := setTurn d.2 s.pos
  let side := match o with
    | .adjusted t => t
    | .unusable _ => 0
  let s' := raiseConflict d.1 ((s.setPos u).setRet { s.ret with mirror := { s.ret.mirror with held := false } })
  moveNode (decidedNode d.1 report (conflictOf .initial side v u s.epoch.count) s'.node) s'

/-- The node record after a confirmation: basis and confirmed stay unless it is a conflict (R73). -/
def confirmedNode (d : RestoreDecision) (report : RestoreReport) (conflict : ConflictRecord) (n : NodeRecord) : NodeRecord :=
  if d = .conflict then
    { n with state := .unreferenced, reason := .conflict, basis := .none, confirmed := false, conflict := some conflict,
             report := report }
  else { n with state := .referenced, reason := .none, report := report }

/-- The confirmation at the coarse evaluation of its epoch (R73). -/
def decideConfirmation (joint : Joint) (base : Int) (usable : Bool) (s : State) : State :=
  let θ := s.pos.thetaLast
  let tLive := turnOf s.pos.p
  let v := vernier s.cal usable s.pos.playKnown base joint.k θ (some joint.j)
  let d := confirmDecision tLive v
  let basis := if d = .conflict then .none else s.node.basis
  let report := confirmReport s.node.report tLive (quadrantOf θ) v d basis s.epoch.count
  let u := { s.pos with abs := s.pos.abs && d != .conflict, driftRun := 0 }
  let s' := raiseConflict d (s.setPos u)
  moveNode (confirmedNode d report (conflictOf .confirmation tLive v u s.epoch.count) s'.node) s'

/-- The decision of a node in RESTORING/DECIDE, by its phase. -/
def restoreDecide (joint : Joint) (base : Int) (usable : Bool) (s : State) : State :=
  match s.node.phase with
  | .initial => decideInitial joint base usable s
  | .confirmation => decideConfirmation joint base usable s

/-- The play set before the vernier of an INITIAL restore; it stands whatever is decided (R66). -/
def setRestorePlay (s : State) : State :=
  if s.node.state = .restoring .decide ∧ s.node.phase = .initial then
    s.setPos (restoredPlay s.cal.h s.ret.record (quadrantOf s.pos.thetaLast) s.pos)
  else s

end Sys2Proof.Machine
end

