-- ==== Sys2Proof/Machine/Capture.lean ====
section
/-! DEFINITION. The running of a homing: the wait set's test, the flag edge, the capture and its
completion (R80 to R93), and the sweep's sample (R118, R119). -/

namespace Sys2Proof.Machine

/-! ### Waiting for peers (R80, R81) -/

/-- Whether an address has an entry that is not ABSENT and whose trusted flag is yes (R80). -/
def State.peerReady (s : State) (a : Address) : Bool := (s.peers.entry? a).any fun e => !e.absent && e.trusted

/-- The test of the wait set: the peers found trusted are kept, and when all are the node enters
HOMING/ARMED (R80). -/
def testWaitSet (s : State) : State :=
  if s.node.state = .homing .waitPeers then
    let s' := s.setHomingOp { s.homingOp with found := s.waitSet.filter fun a => s.homingOp.found.contains a || s.peerReady a }
    if s.waitSet.all s.peerReady then moveNode { s'.node with state := .homing .armed } s' else s'
  else s

/-- Whether the change of an entry is a peer loss (R81): the source's entry ABSENT, or another
wait-set peer found trusted before and now not. -/
def State.peerLost (s : State) (a : Address) : Bool :=
  if s.setup.latched.source = some a then (s.peers.entry? a).any fun e => e.absent
  else s.waitSet.contains a && s.homingOp.found.contains a && !(s.peerReady a)

/-- The Reference Controller's part in a change of an entry (R80, R81, R129). -/
def peerNotice (a : Address) (s : State) : State :=
  if s.inHoming then
    if s.peerLost a then
      if s.setup.latched.source = some a then confirmIfReferenced (endHoming .failed .peerLost s)
      else endHoming .failed .peerLost s
    else if s.waitSet.contains a then testWaitSet s
    else s
  else s

/-! ### The flag edge and the capture (R83 to R88) -/

/-- The approach latched at acceptance. -/
def HomingRecord.approachOf (h : HomingRecord) : Approach := (h.latch.map HomingLatch.approach).getD .pos

/-- Whether an edge is qualified by the Δ of its epoch (R83). -/
def edgeQualified (a : Approach) (d : Int) : Bool :=
  match a with
  | .pos => decide (0 ≤ d)
  | .neg => decide (d ≤ 0)

/-- Whether a Δ is a reversal (R84). -/
def reversal (a : Approach) (d : Int) : Bool :=
  match a with
  | .pos => decide (d < -8)
  | .neg => decide (8 < d)

/-- The distance to θ_h along the approach (R85). -/
def crossingDistance (a : Approach) (θh θprev : Theta) : Int :=
  match a with
  | .pos => (θh - θprev).toNat
  | .neg => (θprev - θh).toNat

/-- The motion along the approach. -/
def along (a : Approach) (d : Int) : Int :=
  match a with
  | .pos => d
  | .neg => -d

/-- P_cap of a crossing at a distance from the base (R85). -/
def crossingCount (a : Approach) (pPrev dist : Int) : Int :=
  match a with
  | .pos => pPrev + dist
  | .neg => pPrev - dist

/-- A HOME edge examined in ARMED (R83). -/
def examineEdge (d : Int) (s : State) : State :=
  if s.enc.homeEdge && edgeQualified s.homing.approachOf d then
    moveNode { s.node with state := .homing .capture }
      ((s.setHoming { s.homing with edgeTag := some s.epoch.count, pFlag := some s.pos.p }).setHomingOp
        { s.homingOp with pPrev := s.pos.p, thetaPrev := s.pos.thetaLast })
  else s

/-- The crossing found: capture tag and P_cap recorded, and the margin test (R85, R87). -/
def takeCrossing (pCap : Int) (s : State) : State :=
  let s' := s.setHoming { s.homing with captureTag := some s.epoch.count, pCap := some pCap }
  if |pCap - s.homing.pFlag.getD 0| < ((s.homing.latch.map HomingLatch.guardMin).getD 0 : Nat) then endHoming .failed .margin s'
  else s'.setHomingOp { s.homingOp with captured := true }

/-- The crossing base moved on (R85). -/
def moveBase (s : State) : State :=
  s.setHomingOp { s.homingOp with pPrev := s.pos.p, thetaPrev := s.pos.thetaLast }

/-- Whether the HOME level latched at the epoch's instant is inactive. -/
def State.homeInactive (s : State) : Bool := s.enc.homeLevel == some false

/-- A counted epoch of CAPTURE: reversal, crossing, flag, base, in this order (R84 to R86). -/
def examineCapture (d : Int) (s : State) : State :=
  let a := s.homing.approachOf
  let θh := (s.homing.latch.map HomingLatch.thetaH).getD 0
  let dist := crossingDistance a θh s.homingOp.thetaPrev
  if reversal a d then endHoming .failed .reversed s
  else if 0 < dist ∧ dist ≤ along a d then takeCrossing (crossingCount a s.homingOp.pPrev dist) s
  else if s.homeInactive then endHoming .failed .flagLost s
  else moveBase s

/-- The Reference Controller's part in a counted epoch (R83, R84). -/
def homingCounted (d : Int) (s : State) : State :=
  match s.node.state with
  | .homing .armed => examineEdge d s
  | .homing .capture => if s.homingOp.captured then s else examineCapture d s
  | _ => s

/-- The Reference Controller's part in an extrapolated epoch (R88). -/
def homingUncounted (s : State) : State :=
  match s.node.state with
  | .homing .capture => if !s.homingOp.captured && s.homeInactive then endHoming .failed .flagLost s else s
  | _ => s

/-! ### Completion (R89 to R93) -/

/-- T_shift and the residual of an effective count (R90). -/
def turnShift (h eCap : Int) : Int × Int :=
  let t := roundDiv (h - eCap) 16384
  (t, (h - eCap) - 16384 * t)

/-- Gq_cap, the coarse reading referred back to the crossing (R91). -/
def coarseAtCrossing (c : CalRecord) (gq : Sixteenths) (motion : Int) : Sixteenths :=
  BitVec.ofInt 16 (gq.toNat - roundDiv (motion * 4 * (ratioInUse c).den) (ratioInUse c).num)

/-- The coarse difference (R91). -/
def coarseDifference (c : CalRecord) (gqCap : Sixteenths) : Int := signed65536 (gqCap.toNat - c.gh.toNat)

/-- The calibration dirty flag set, and the written-since marker while a write of CAL runs (R112, R114). -/
def markCal (s : State) : State :=
  let s' := s.setCal { s.cal with dirty := true }
  if s.store.writing = some .cal then s'.setStore { s.store with calMarked := true } else s'

/-- A standing conflict resolved: the record cleared and RESTORE_CONFLICT with it (R69). -/
def resolveConflict (s : State) : State :=
  conditionGone .restoreConflict (s.setNode { s.node with conflict := none })

/-- A homing in mode HOME succeeds (R92). -/
def homingSuccess (tShift : Int) (s : State) : State :=
  let s1 := resolveConflict (setAbsolute (s.setPos { s.pos with p := s.pos.p + 16384 * tShift }))
  let s2 := s1.setNode { s1.node with basis := .homed, confirmed := false }
  enterReferenced (closeHoming .success .none s2)

/-- A learn takes H, Gh and HOME_LEARNED (R93). -/
def homingLearned (eCap : Int) (gqCap : Sixteenths) (s : State) : State :=
  let s1 := markCal (s.setCal { s.cal with data := { s.cal.data with h := home32 eCap, gh := gqCap, learned := true } })
  enterReferenced (closeHoming .learned .none s1)

/-- The coarse result of the capture epoch recorded in the homing record, CHECKED where usable (R91). -/
def recordCoarse (usable : Bool) (diff : Int) (s : State) : State :=
  if usable then s.setHoming { s.homing with coarseDiff := some diff, coarseChecked := true }
  else s.setHoming { s.homing with coarseDiff := none, coarseChecked := false }

/-- Steps 3 and 4 in mode HOME (R91, R92). -/
def finishHome (usable : Bool) (diff tShift : Int) (s : State) : State :=
  if usable ∧ (s.cal.data.homeCoarseTol : Int) < |diff| then endHoming .failed .coarseMismatch (recordCoarse usable diff s)
  else homingSuccess tShift (recordCoarse usable diff s)

/-- Steps 3 and 4 in mode LEARN (R93). -/
def finishLearn (usable : Bool) (diff eCap : Int) (gqCap : Sixteenths) (s : State) : State :=
  if usable then homingLearned eCap gqCap (recordCoarse usable diff s) else endHoming .failed .noCoarse s

/-- The completion of a capture at the coarse evaluation of the capture epoch (R89). -/
def completeCapture (k : Int) (usable : Bool) (s : State) : State :=
  let pCap := s.homing.pCap.getD 0
  let eCap := pCap - k
  let shift := turnShift s.cal.data.h eCap
  let gqCap := coarseAtCrossing s.cal.data s.pos.gq (s.pos.p - pCap)
  let diff := coarseDifference s.cal.data gqCap
  let s' := s.setHoming { s.homing with eCap := some eCap, tShift := some shift.1, residual := some shift.2 }
  match s.homing.mode with
  | .learn => finishLearn usable diff eCap gqCap s'
  | .home =>
    if (s.cal.data.homeResidualTol : Int) < |shift.2| then endHoming .failed .residual s'
    else if !inRange countMin countMax (s.pos.p + 16384 * shift.1) then endHoming .failed .range s'
    else finishHome usable diff shift.1 s'

/-! ### Sweep sample (R118, R119) -/

/-- What an epoch gives the sweep. -/
structure SweepSample where
  bin : Nat
  e : Int
deriving DecidableEq, Repr

/-- The sample of an epoch: the predicted coarse reading less the raw one (R119). -/
def sweepSample (c : CalRecord) (j sj : Int) (g : CoarseAngle) : SweepSample where
  bin := g.toNat / 128
  e := signed65536 ((BitVec.ofInt 16 (c.zg.toNat + roundDiv (j - sj) 16)).toNat - 16 * g.toNat)

/-- The conditions of a sample (R118). -/
def sampleTaken (speed : Nat) (h : Int) (usable : Bool) (m : EpochMotor) (u : PositionUnit) (joint : Joint) : Bool :=
  usable &&
  (match m with
    | .counted d => decide (|d| ≤ (speed : Int))
    | _ => false) &&
  u.playKnown && decide (|u.s| = h) && !joint.saturated

/-- A sample into its bin, or the overflow count when the bin is full (R119). -/
def addSample (x : SweepSample) (w : SweepRecord) : SweepRecord :=
  if w.counts.toList.getD x.bin 0 < 255 then
    { w with
      sums := w.sums.setIfInBounds x.bin (w.sums.toList.getD x.bin 0 + x.e)
      counts := w.counts.setIfInBounds x.bin (w.counts.toList.getD x.bin 0 + 1) }
  else { w with overflow := satSucc 65535 w.overflow }

/-- An epoch that gave no sample (R118). -/
def skipSample (w : SweepRecord) : SweepRecord := { w with skipped := satSucc 65535 w.skipped }

/-- The sweep's part in a coarse evaluation of an epoch it considers (R118). -/
def judgeSample (joint : Joint) (sj : Int) (usable : Bool) (s : State) : State :=
  match s.work.coarse with
  | .good g =>
    if sampleTaken s.setup.latched.sweepSpeed s.cal.h usable s.work.motor s.pos joint then
      s.setSweep (addSample (sweepSample s.cal.data joint.j sj g) s.sweep)
    else s.setSweep (skipSample s.sweep)
  | _ => s.setSweep (skipSample s.sweep)

end Sys2Proof.Machine
end

