-- ==== Sys2Proof/Machine/Coupling.lean ====
section
/-! DEFINITION. The coarse evaluation of an epoch with what it carries (R16, R20, R21), the coupling match
and its misses (R130 to R135), and the loss of members (R126 to R129). -/

namespace Sys2Proof.Machine

/-! ### Coarse evaluation -/

/-- VERNIER_DRIFT raised and the drift run set to 0 (R21). -/
def driftRaised (s : State) : State :=
  notice .vernierDrift (s.setPos { s.pos with driftRun := 0 })

/-- The drift run reaching 3 (R21). -/
def driftRun3 (s : State) : State := if s.pos.driftRun = 3 then driftRaised s else s

/-- The drift run after an epoch in which the monitor runs (R21). -/
def driftCount (drift : Int) (s : State) : State :=
  if (s.cal.data.driftLimit : Int) < |drift| then driftRun3 (s.setPos { s.pos with driftRun := s.pos.driftRun + 1 })
  else s.setPos { s.pos with driftRun := 0 }

/-- Whether the drift monitor runs (R20). -/
def State.driftRuns (s : State) (usable : Bool) : Bool :=
  usable &&
  (match s.work.motor with
    | .extrapolated _ => false
    | _ => true) &&
  (match s.node.state with
    | .referenced => true
    | .homing _ => s.pos.abs
    | _ => false)

/-- The drift monitor (R20). -/
def driftMonitor (joint : Joint) (base : Int) (usable : Bool) (s : State) : State :=
  if s.driftRuns usable then driftCount (driftOf joint.j base) s else s

/-- What else the evaluation carries: a restore decision or a confirmation, the completion of a
capture, a sweep's sample (R20, R64, R89, R118). -/
def evaluationCarries (joint : Joint) (base sj : Int) (usable : Bool) (s : State) : State :=
  match s.node.state with
  | .restoring .decide => restoreDecide joint base usable s
  | .homing .capture => if s.homingOp.captured then completeCapture joint.k usable s else s
  | .calibrating => if s.work.considered then judgeSample joint sj usable s else s
  | _ => s

/-- Whether a coarse read is usable: good, and COARSE_ENCODER not active (R16). -/
def State.coarseUsable (s : State) : Bool :=
  (match s.work.coarse with
    | .good _ => true
    | _ => false) && !s.active .coarseEncoder

/-- The coarse result of an epoch (R16), with the E and s_j that R98 reads. -/
def coarseResult (c : CalRecord) (usable : Bool) (coarse : EpochCoarse) (e sj : Int) (u : PositionUnit) : PositionUnit :=
  match coarse, usable with
  | .good g, true =>
    { u with evaluated := true, gq := correctedAngle c g, jg := coarseJoint c (correctedAngle c g), usable := true, lastE := e,
             lastSj := sj }
  | _, _ => { u with evaluated := true, usable := false, lastE := e, lastSj := sj }

/-- The coarse evaluation of an epoch whose J is formed (R16): play set for a decision (R66), the
result formed, the drift monitor judged first, then what the evaluation carries. -/
def evaluate (joint : Joint) (e : Int) (s : State) : State :=
  let usable := s.coarseUsable
  let s1 := setRestorePlay s
  let sj := playJoint s1.cal.data s1.pos.s
  let u := coarseResult s1.cal.data usable s1.work.coarse e sj s1.pos
  let s2 := (s1.setPos u).setWork { s1.work with evaluated := true }
  let base := u.jg + sj
  evaluationCarries joint base sj usable (driftMonitor joint base usable s2)

/-- Whether the coarse read of the epoch has ended. -/
def State.coarseEnded (s : State) : Bool :=
  match s.work.coarse with
  | .good _ => true
  | .failed => true
  | _ => false

/-- The coarse evaluation of an epoch whose J exists: with its E, or with a free one where the match was
made without K and the calibration has become valid since (R16, R103). Log 19. -/
def evaluateJoint (joint : Joint) (s : State) : State :=
  match joint.e with
  | some e => evaluate joint e s
  | none => evaluate joint (Config.unformedCount s.free) (s.setFree (s.free + 1))

/-- The coarse evaluation, run once its J exists and its coarse read has ended, with a valid
calibration (R13, R16). -/
def coarseEvaluate (s : State) : State :=
  if s.cal.valid && s.coarseEnded && !s.work.evaluated then
    match s.work.joint with
    | none => s
    | some joint => evaluateJoint joint s
  else s

/-! ### The coupling match (R130 to R135) -/

/-- The match becomes open at the first moment the node is ALIGNED with its start values set (R130). -/
def openCoupling (s : State) : State :=
  if s.coupled && s.epoch.alignment == .aligned && s.pos.established then s.setCoupling { s.coupling with opened := true }
  else s

/-- Whether the own read of the epoch is good, for R63 and R73. -/
def State.ownReadGood (s : State) : Bool :=
  match s.work.motor with
  | .counted _ => true
  | _ => false

/-- The Reference Controller at a match: the trust lost (R72, R81), or WAIT_SOURCE ended (R63, R73). -/
def referenceOnMatch (absolute : Bool) (s : State) : State :=
  if absolute then
    if s.node.state = .restoring .waitSource ∧ s.ownReadGood = true then
      moveNode { s.node with state := .restoring .decide } s
    else s
  else trustLoss s

/-- The match of the current epoch with its source frame, in R133's order. -/
def makeMatch (f : SourceFrame) (s : State) : State :=
  let s1 := s.setCoupling { s.coupling with matched := true, lastAbsolute := some f.absolute }
  let s2 := computeJoint (if s1.cal.valid then couplingTerm s1.cal.data f.p else 0) (some f) s1
  let s3 := s2.setCoupling { s2.coupling with missCount := 0 }
  coarseEvaluate (referenceOnMatch f.absolute (conditionGone .couplingLost s3))

/-- The match made when both sides are met, whichever was second, once per epoch (R133). -/
def tryMatch (s : State) : State :=
  if s.coupled && s.coupling.opened && s.coupling.own && !s.coupling.matched then
    match s.coupling.source with
    | none => s
    | some f => makeMatch f s
  else s

/-- The notice of COUPLING_LOST to the supervisor and to the Reference Controller (R135, R72), in this order:
log 52. -/
def loseCoupling (s : State) : State := trustLoss (notice .couplingLost s)

/-- A miss that brings the count to missLimit (R135). -/
def judgeMissCount (s : State) : State :=
  if s.coupling.missCount = s.setup.latched.missLimit then loseCoupling s else s

/-- A capture epoch that ends as a coupling miss (R89). -/
def missCapture (s : State) : State :=
  if s.node.state = .homing .capture ∧ s.homingOp.captured = true then endHoming .failed .sourceMissed s else s

/-- A coupling miss (R134). -/
def countMiss (s : State) : State :=
  judgeMissCount (missCapture (s.setCoupling
    { s.coupling with prevMissed := true, missCount := satSucc 255 s.coupling.missCount }))

/-- The match of the closing epoch judged (R134). -/
def closeCoupling (s : State) : State :=
  if s.coupled && s.coupling.opened then
    if s.coupling.matched then s.setCoupling { s.coupling with prevMissed := false } else countMiss s
  else s

/-- COUPLING_LOST as a command: the miss count stands at missLimit and the notice has not been taken
(log 2). -/
def couplingLostOp (s : State) : State :=
  if s.coupled && s.coupling.opened && s.coupling.missCount == s.setup.latched.missLimit && !s.active .couplingLost then
    loseCoupling s
  else s

/-! ### Members that fall silent (R126, R127) -/

/-- The notice of MEMBER_ABSENT and the change of the entry, in an order the manual leaves open (R81,
log 8). -/
def absentNotices (a : Address) (s : State) : State :=
  let s' := s.setFree (s.free + 1)
  if Config.supervisorFirst s.free then peerNotice a (notice .memberAbsent s')
  else notice .memberAbsent (peerNotice a s')

/-- An entry becomes ABSENT: MEMBER_ABSENT only while no other entry is (R127). -/
def markAbsent (a : Address) (s : State) : State :=
  let s' := s.setPeers (s.peers.modify a fun e => { e with absent := true })
  if s.peers.anyAbsent then peerNotice a s' else absentNotices a s'

/-- An entry whose age exceeds the peer timeout (R126). -/
def State.overdue (s : State) (e : PeerEntry) : Bool := !e.absent && decide (s.setup.latched.peerTimeout < e.age)

/-- PEER_ABSENT of one address (R126). -/
def peerAbsentOp (a : Address) (s : State) : State :=
  if (s.peers.entry? a).any s.overdue then markAbsent a s else s

/-- An ABSENT entry cleared by a stored frame; the last one cleared ends MEMBER_ABSENT (R127). -/
def absentCleared (s0 s : State) : State :=
  if s0.peers.anyAbsent && !s.peers.anyAbsent then conditionGone .memberAbsent s else s

/-- The end of the quiet run (R128). -/
def quietRun64Op (s : State) : State := if s.peers.quietRun = some 64 then conditionGone .addressClash s else s

/-- The quiet run at a sample instant (R128). -/
def quietTick (s : State) : State :=
  match s.peers.quietRun with
  | some n => if n < 64 then quietRun64Op (s.setPeers { s.peers with quietRun := some (n + 1) }) else s
  | none => s

/-- Every age one more, and the entries past the timeout ABSENT, in the order of the table, each with its
notices before the next (R126). Log 40. -/
def agePeers (s : State) : State :=
  let s' := s.setPeers { s.peers with entries := s.peers.entries.map fun e => { e with age := satSucc 255 e.age } }
  (s.peers.entries.map PeerEntry.address).foldl (fun s a => peerAbsentOp a s) s'

end Sys2Proof.Machine
end

