-- ==== Sys2Proof/Machine/Encoder.lean ====
section
/-! DEFINITION. The commands of the Encoder Interface: the ends of the reads with what they carry (R35 to
R38, 95_what_each_step_holds.md), the runs that reach their mark, the self-check's ports. -/

namespace Sys2Proof.Machine

/-! ### Ports -/

/-- A port has responded: PRESENT in the self-check (R35, R115). -/
def portResponded (p : Port) (s : State) : State :=
  match p with
  | .motor => s.setSelfCheck { s.selfCheck with motorPort := .present }
  | .coarse => s.setSelfCheck { s.selfCheck with coarsePort := .present }

/-- A port that responded or did not, as its read ends. -/
def noteResponse (p : Port) (ack : Bool) (s : State) : State := if ack then portResponded p s else s

/-- A good read in a port's runs (R37, R38). -/
def goodRuns (r : PortRecord) : PortRecord :=
  { r with reading := false, failRun := 0, goodRun := satSucc 255 r.goodRun }

/-- A failed read in a port's runs, with its cause (R36 to R38). -/
def failedRuns (cause : ReadCause) (r : PortRecord) : PortRecord :=
  { r with reading := false, failRun := satSucc 255 r.failRun, goodRun := 0, lastCause := cause }

/-! ### The runs that reach their mark (R37, R38) -/

/-- MOTOR_ENCODER at the failure that brings the run to 3 (R37). -/
def motorFailureNotice (s : State) : State := if s.enc.motor.failRun = 3 then notice .motorEncoder s else s

/-- The condition of MOTOR_ENCODER gone at a good run of 8 (R179). -/
def motorGoodGone (s : State) : State := if s.enc.motor.goodRun = 8 then conditionGone .motorEncoder s else s

/-- COARSE_ENCODER at the failure that brings the run to 3 (R38). -/
def coarseFailureNotice (s : State) : State := if s.enc.coarse.failRun = 3 then notice .coarseEncoder s else s

/-- COARSE_ENCODER gone at a good run of 8 (R38). -/
def coarseGoodGone (s : State) : State := if s.enc.coarse.goodRun = 8 then conditionGone .coarseEncoder s else s

/-- Whether a kind is active with its condition PRESENT. -/
def State.noted (s : State) (k : FaultKind) : Bool := s.active k && kindHas s.faults.present k

/-! ### A good motor read -/

/-- A downgrade of a VALID record to DOUBTFUL; another validity is left (R52). -/
def downgrade (why : RetainedReason) (r : RetainedRecord) : RetainedRecord :=
  if r.validity = .valid then { r with validity := .doubtful, reason := why } else r

/-- A counted epoch that leaves floor(P/4096) different from its first value while the mirror is held:
the record downgraded, the hold ended (R44). -/
def endHoldByMotion (s : State) : State :=
  if s.ret.mirror.held && quarterOf s.pos.p != s.pos.firstQuarter then
    s.setRet { s.ret with record := downgrade .motion s.ret.record, mirror := { s.ret.mirror with held := false } }
  else s

/-- The notice of TRACK_JUMP and the homing's examination, in an order the manual leaves open (R83, log
8); without a notice only the examination. -/
def jumpAndHoming (why : JumpReason) (d : Int) (s : State) : State :=
  match why with
  | .none => homingCounted d s
  | r =>
    let s' := s.setFree (s.free + 1)
    if Config.supervisorFirst s.free then homingCounted d (noticeWith .trackJump r s')
    else noticeWith .trackJump r (homingCounted d s')

/-- The exit from STARTUP with the calibration invalid: UNREFERENCED with reason NO_CAL (R61, R62). -/
def exitNoCal (s : State) : State :=
  moveNode { s.node with
    state := .unreferenced, reason := .noCal,
    report := { s.node.report with
      decision := .noCal, cause := s.ret.record.cause, validity := s.ret.record.validity, reason := s.ret.record.reason,
      tRet := s.ret.record.tRet, qRet := s.ret.record.qRet } } s

/-- The end of STARTUP at a good motor read, joined and ALIGNED (R61). -/
def exitStartup (s : State) : State :=
  if s.node.state = .startup ∧ s.link.joined = true ∧ s.epoch.alignment = .aligned then
    if !s.cal.valid then exitNoCal s
    else if s.coupled then moveNode { s.node with state := .restoring .waitSource, phase := .initial } s
    else moveNode { s.node with state := .restoring .decide, phase := .initial } s
  else s

/-- What follows a read that gave a count: the joint position at once for an uncoupled node, the own
side of the match for a coupled one (R13, R131), then the coarse evaluation if it can run. -/
def afterCount (s : State) : State :=
  if s.coupled then tryMatch (s.setCoupling { s.coupling with own := s.epoch.epochSynced })
  else coarseEvaluate (computeJoint 0 none s)

/-- The count update of a good read into the state (R3 to R8, R37). -/
def takeCount (r : CountResult) (s : State) : State :=
  endHoldByMotion ((s.setPos r.pos).setWork { s.work with motor := .counted r.delta })

/-- A good motor read with everything it carries. A retry departure at the eighth good read and a
TRACK_JUMP's removal of ABS come before the exit from STARTUP that the read brings, its J, its handover and
the coarse evaluation: log 36. -/
def motorGood (θ : Theta) (s : State) : State :=
  let s1 := retryTest (motorGoodGone (s.setEnc { s.enc with motor := goodRuns s.enc.motor }))
  let r := countGood s1.cal.h s1.setup.latched.jumpLimit θ s1.pos
  afterCount (exitStartup (openCoupling (jumpAndHoming r.jump r.delta (takeCount r s1))))

/-! ### A failed motor read -/

/-- What follows the count update of a failed read: an extrapolated epoch goes on as a counted one (R5), its
flag test before its J and handover (log 50); an epoch of R7 gives nothing. -/
def afterFailed (m : EpochMotor) (s : State) : State :=
  match m with
  | .extrapolated _ => afterCount (homingUncounted s)
  | _ => s

/-- A failed motor read with everything it carries (R5, R7, R37). -/
def motorFailed (cause : ReadCause) (s : State) : State :=
  let s1 := s.setEnc { s.enc with motor := failedRuns cause s.enc.motor }
  let c := countFailed s1.pos
  motorFailureNotice (afterFailed c.2 ((s1.setPos c.1).setWork { s1.work with motor := c.2 }))

/-! ### Coarse reads -/

/-- A good coarse read: the fault cleared before the evaluation that uses the read (R38). -/
def coarseGood (g : CoarseAngle) (s : State) : State :=
  let s1 := coarseGoodGone (s.setEnc { s.enc with coarse := goodRuns s.enc.coarse })
  coarseEvaluate (s1.setWork { s1.work with coarse := .good g })

/-- A failed coarse read (R36, R38): the notice at the third comes before the evaluation that completes a
capture. Log 41. -/
def coarseFailed (cause : ReadCause) (s : State) : State :=
  let s1 := coarseFailureNotice (s.setEnc { s.enc with coarse := failedRuns cause s.enc.coarse })
  coarseEvaluate (s1.setWork { s1.work with coarse := .failed })

/-! ### The ends of a read -/

/-- The end of a motor read by a complete word (R36). -/
def motorWord (θ : Theta) (error c1 c0 : Bool) (s : State) : State :=
  if s.enc.motor.reading then
    match wordEnding θ error c1 c0 with
    | .good => motorGood θ (portResponded .motor s)
    | .failed cause => motorFailed cause (portResponded .motor s)
  else s

/-- The end of a coarse read by a complete word (R36). -/
def coarseWord (g : CoarseAngle) (error c1 c0 : Bool) (s : State) : State :=
  if s.enc.coarse.reading then
    match wordEnding (g.zeroExtend 14) error c1 c0 with
    | .good => coarseGood g (portResponded .coarse s)
    | .failed cause => coarseFailed cause (portResponded .coarse s)
  else s

/-- ENCODER_READ_COMPLETE (R36). -/
def readComplete (w : EncoderWord) (s : State) : State :=
  match w with
  | .motor θ error c1 c0 => motorWord θ error c1 c0 s
  | .coarse g error c1 c0 => coarseWord g error c1 c0 s

/-- A read still in progress on a port ends as failed (R36). -/
def failReading (p : Port) (ack : Bool) (cause : ReadCause) (s : State) : State :=
  match p with
  | .motor => if s.enc.motor.reading then motorFailed cause (noteResponse .motor ack s) else s
  | .coarse => if s.enc.coarse.reading then coarseFailed cause (noteResponse .coarse ack s) else s

/-- A port still PENDING after 16 sample instants is NOT_FOUND (R115). -/
def portPresence (p : Port) (s : State) : State :=
  if s.epoch.instants = 16 then
    match p with
    | .motor =>
      if s.selfCheck.motorPort = .pending then s.setSelfCheck { s.selfCheck with motorPort := .notFound } else s
    | .coarse =>
      if s.selfCheck.coarsePort = .pending then s.setSelfCheck { s.selfCheck with coarsePort := .notFound } else s
  else s

/-! ### Commands -/

/-- ENCODER_READ_COMPLETE. -/
def execEncoderReadComplete (word : EncoderWord) (s : State) : Host.Outcome State Fault Refusal :=
  .next (conclude s (readComplete word s))

/-- ENCODER_READ_TIMEOUT. -/
def execEncoderReadTimeout (port : Port) (ack : Bool) (s : State) : Host.Outcome State Fault Refusal :=
  .next (conclude s (failReading port ack .timeout s))

/-- MOTOR_FAILURE_RUN_3: the notice, where the run stands at 3 and it has not been taken (log 2). -/
def execMotorFailureRun3 (s : State) : Host.Outcome State Fault Refusal :=
  .next (conclude s (if s.noted .motorEncoder then s else motorFailureNotice s))

/-- MOTOR_GOOD_RUN_8 (log 2). -/
def execMotorGoodRun8 (s : State) : Host.Outcome State Fault Refusal := .next (conclude s (motorGoodGone s))

/-- COARSE_FAILURE_RUN_3: the notice, where the run stands at 3 and it has not been taken (log 2). -/
def execCoarseFailureRun3 (s : State) : Host.Outcome State Fault Refusal :=
  .next (conclude s (if s.noted .coarseEncoder then s else coarseFailureNotice s))

/-- COARSE_GOOD_RUN_8 (log 2). -/
def execCoarseGoodRun8 (s : State) : Host.Outcome State Fault Refusal := .next (conclude s (coarseGoodGone s))

/-- PORT_PRESENCE_TIMEOUT (log 2). -/
def execPortPresenceTimeout (port : Port) (s : State) : Host.Outcome State Fault Refusal :=
  .next (conclude s (portPresence port s))

/-- DRIFT_RUN_3 (log 2). -/
def execDriftRun3 (s : State) : Host.Outcome State Fault Refusal := .next (conclude s (driftRun3 s))

end Sys2Proof.Machine
end

