-- ==== Sys2Proof/Machine/Epoch.lean ====
section
/-! DEFINITION. The Epoch Unit: the edges and timers of SMP, the sample instant with what it carries,
alignment and realignment (R23 to R34, R26's hand-overs, R39, R126, R134, R151). -/

namespace Sys2Proof.Machine

/-! ### Alignment (R33, R34) -/

/-- ALIGNED, and the coupling match opened where the node is ready for it (R33, R130). -/
def becomeAligned (s : State) : State := openCoupling (s.setEpoch { s.epoch with alignment := .aligned })

/-- The alignment edges reaching 64 (R33). -/
def alignmentTimeout (s : State) : State :=
  if s.epoch.alignment = .aligning ∧ s.epoch.alignEdges = 64 then becomeAligned s else s

/-- One alignment edge, counted while ALIGNING and joined (R33). -/
def alignmentEdge (s : State) : State :=
  if s.epoch.alignment = .aligning ∧ s.link.joined = true then
    alignmentTimeout (s.setEpoch { s.epoch with alignEdges := satSucc 64 s.epoch.alignEdges })
  else s

/-- One synchronised member frame into the epoch's summary, by its class (R34). -/
def noteFrame (cls : TagClass) (tag : Tag) (f : EpochFrames) : EpochFrames :=
  match cls, f with
  | .misaligned, .none => .misaligned tag
  | .misaligned, .misaligned t => if t = tag then .misaligned t else .mixed
  | _, _ => .mixed

/-- The realignment judgement of the ended epoch (R34). -/
def judgeRealign (u : EpochUnit) : EpochUnit :=
  match u.frames with
  | .none => u
  | .mixed => { u with realignRun := 0 }
  | .misaligned t =>
    if u.realignRun ≠ 0 ∧ t - u.count = u.realignOffset then { u with realignRun := u.realignRun + 1 }
    else { u with realignRun := 1, realignOffset := t - u.count }

/-- The judgement is made at a SYNCED sample instant while ALIGNED; a FREE one sets the run to 0 (R34). -/
def realignStep (synced : Bool) (u : EpochUnit) : EpochUnit :=
  if synced then (if u.alignment = .aligned then judgeRealign u else u) else { u with realignRun := 0 }

/-- The realignment at a run of 8 (R34). -/
def realignNow (u : EpochUnit) : EpochUnit :=
  if u.realignRun = 8 then
    { u with count := u.count + u.realignOffset, realignCount := satSucc 255 u.realignCount, realignRun := 0 }
  else u

/-- The condition of SAMPLE_STUCK gone at a synced run of 16 (R31). -/
def syncedRun16 (s : State) : State := if s.epoch.syncedRun = 16 then conditionGone .sampleStuck s else s

/-! ### The sample instant (R26, R28, R29) -/

/-- An epoch the sweep considered and that had no coarse evaluation is skipped at its close (R118). -/
def closeSweep (s : State) : State :=
  if s.node.state = .calibrating ∧ s.work.considered = true ∧ s.work.evaluated = false then s.setSweep (skipSample s.sweep)
  else s

/-- The ending epoch closed: reads still pending fail, the sweep and the match are judged (R36, R118,
R134). Log 14. -/
def closeEpoch (i : SampleInputs) (s : State) : State :=
  closeCoupling (closeSweep (failReading .coarse i.coarseAck .superseded (failReading .motor i.motorAck .superseded s)))

/-- The Epoch Unit's record at a sample instant (R26, R28, R29). -/
def stepEpoch (synced : Bool) (u : EpochUnit) : EpochUnit :=
  let u := realignStep synced u
  realignNow { u with
    count := u.count + 1
    timer := .running
    epochSynced := synced
    syncedRun := if synced then satSucc 16 u.syncedRun else u.syncedRun
    lowWatch := u.lowWatch && !synced
    frames := .none
    instants := satSucc 16 u.instants }

/-- The HOME level latched and both reads started (R35, R39). -/
def startReads (i : SampleInputs) (e : EncoderInterface) : EncoderInterface where
  motor := { e.motor with reading := true }
  coarse := { e.coarse with reading := true }
  homeLevel := some i.home
  homeEdge := e.homeLevel == some false && i.home

/-- The new epoch's work: both reads pending, nothing formed (R26, R117, R134). -/
def beginEpoch (i : SampleInputs) (s : State) : State :=
  ((s.setEnc (startReads i s.enc)).setWork
    { motor := .pending, coarse := .pending, joint := none, evaluated := false,
      considered := s.node.state == .calibrating }).setCoupling
    { s.coupling with own := false, source := none, matched := false }

/-- The beacon count reaching the interval places a STATUS frame (R151). -/
def beaconDue (s : State) : State := if s.setup.latched.beacon ≤ s.link.beaconCount then placeStatus s else s

/-- The beacon count at an own sample instant, held while DETACHED (R151, R155). -/
def beaconTick (s : State) : State :=
  if s.link.placing then beaconDue (s.setLink { s.link with beaconCount := satSucc 1024 s.link.beaconCount }) else s

/-- What a sample instant hands on once the new epoch has begun. -/
def handInstant (s : State) : State :=
  beaconTick (portPresence .coarse (portPresence .motor (quietTick (agePeers s))))

/-- A sample instant, of the SYNCED or the FREE kind. Log 14. -/
def sampleInstant (synced : Bool) (i : SampleInputs) (s : State) : State :=
  let s1 := closeEpoch i s
  let s2 := alignmentEdge (syncedRun16 (s1.setEpoch (stepEpoch synced s1.epoch)))
  handInstant (beginEpoch i s2)

/-! ### SMP (R24, R25, R28, R30) -/

/-- Whether the node answers falling edges and drives the line at its expiry: SYNCED, or FREE with
rejoin armed (R25, R30). -/
def EpochUnit.answers (u : EpochUnit) : Bool := u.sync == .synced || u.rejoinArmed

/-- A rising edge in the Epoch Unit (R26, R30). -/
def risingEdge (i : SampleInputs) (s : State) : State :=
  if s.epoch.sync = .synced then sampleInstant true i s
  else if s.epoch.rejoinArmed then
    sampleInstant true i (s.setEpoch { s.epoch with sync := .synced, rejoinArmed := false, highWatch := false })
  else s.setEpoch { s.epoch with highWatch := true, lowWatch := false }

/-- A falling edge in the Epoch Unit (R25). -/
def fallingEdge (u : EpochUnit) : EpochUnit :=
  let u := { u with highWatch := false, lowWatch := true }
  if u.answers then { u with driveLow := true, holding := true } else u

/-- The expiry of the period timer where it does not mark an instant (R24, R30). -/
def periodExpiry (smpHigh : Bool) (u : EpochUnit) : EpochUnit :=
  { u with timer := .expired, driveLow := u.driveLow || smpHigh }

/-- The line taken as stuck (R28). -/
def goFree (u : EpochUnit) : EpochUnit :=
  { u with driveLow := false, holding := false, sync := .free, rejoinArmed := false, highWatch := false, syncedRun := 0,
           realignRun := 0 }

/-- SMP_RISING_EDGE. -/
def execSmpRisingEdge (pins : SampleInputs) (s : State) : Host.Outcome State Fault Refusal :=
  let s' := s.setPins { s.pins with smpHigh := true }
  .next (conclude s (if s.epoch.running then risingEdge pins s' else s'))

/-- SMP_FALLING_EDGE. -/
def execSmpFallingEdge (s : State) : Host.Outcome State Fault Refusal :=
  let s' := s.setPins { s.pins with smpHigh := false }
  .next (conclude s (if s.epoch.running then s'.setEpoch (fallingEdge s.epoch) else s'))

/-- PERIOD_TIMER_EXPIRY. -/
def execPeriodTimerExpiry (s : State) : Host.Outcome State Fault Refusal :=
  .next (conclude s
    (if s.epoch.running && s.epoch.answers && s.epoch.timer == .running then
      s.setEpoch (periodExpiry s.pins.smpHigh s.epoch)
    else s))

/-- HOLD_EXPIRY (R25). -/
def execHoldExpiry (s : State) : Host.Outcome State Fault Refusal :=
  .next (conclude s
    (if s.epoch.running && s.epoch.holding then s.setEpoch { s.epoch with holding := false, driveLow := false } else s))

/-- SAMPLE_LINE_STUCK (R28): the notice is taken before the epoch is closed, with the old count. Log 37. -/
def execSampleLineStuck (pins : SampleInputs) (s : State) : Host.Outcome State Fault Refusal :=
  .next (conclude s
    (if s.epoch.running && s.epoch.lowWatch && s.epoch.answers then
      let s1 := notice .sampleStuck s
      sampleInstant false pins (s1.setEpoch (goFree s1.epoch))
    else s))

/-- FREE_PERIOD_EXPIRY (R29). -/
def execFreePeriodExpiry (pins : SampleInputs) (s : State) : Host.Outcome State Fault Refusal :=
  .next (conclude s
    (if s.epoch.running && !s.epoch.answers && s.epoch.timer == .running then sampleInstant false pins s else s))

/-- REJOIN_ARMED (R30). -/
def execRejoinArmed (s : State) : Host.Outcome State Fault Refusal :=
  .next (conclude s
    (if s.epoch.running && !s.epoch.answers && s.epoch.highWatch then s.setEpoch { s.epoch with rejoinArmed := true } else s))

/-- SYNCED_RUN_16 (log 2). -/
def execSyncedRun16 (s : State) : Host.Outcome State Fault Refusal := .next (conclude s (syncedRun16 s))

/-- ALIGNMENT_TIMEOUT (log 2). -/
def execAlignmentTimeout (s : State) : Host.Outcome State Fault Refusal := .next (conclude s (alignmentTimeout s))

/-- REALIGNMENT (log 2). -/
def execRealignment (s : State) : Host.Outcome State Fault Refusal := .next (conclude s (s.setEpoch (realignNow s.epoch)))

/-- BEACON (log 2). -/
def execBeacon (s : State) : Host.Outcome State Fault Refusal := .next (conclude s (beaconDue s))

end Sys2Proof.Machine
end

