-- ==== Sys2Proof/Machine/Retention.lean ====
section
/-! DEFINITION. The Retention Domain's commands: entry to RETAIN, the quadrant tracker, the collapse of the
backup, the returns to STARTUP, and the backup comparison (R41 to R56). -/

namespace Sys2Proof.Machine

/-! ### The record (R46, R47, R52) -/

/-- VBAK below 2.3 V: LOST with reason BACKUP, unless LOST already (R52). -/
def loseBackup (r : RetainedRecord) : RetainedRecord :=
  if r.validity = .lost then r else { r with validity := .lost, reason := .backup }

/-- The record formed from the mirror at an entry (R46). -/
def formRecord (cause : RetainedCause) (m : TurnMirror) : RetainedRecord where
  cause := cause
  anchored := m.abs
  validity := if m.abs then .valid else .unanchored
  reason := .none
  tRet := m.t
  qRet := m.quadrant
  s := m.s
  playKnown := m.playKnown
  lastDir := m.lastDir
  netTurns := 0
  reentries := 0

/-- The record of an entry: formed, or kept while the mirror is held (R46, R47); LOST with VBAK below
2.3 V. -/
def entryRecord (cause : RetainedCause) (vbakLow : Bool) (d : RetentionDomain) : RetainedRecord :=
  let r :=
    if d.mirror.held then { d.record with cause := cause, reentries := satSucc 255 d.record.reentries }
    else formRecord cause d.mirror
  if vbakLow then loseBackup r else r

/-! ### The main domain stopped and started -/

/-- Every record of the main domain at its start values, with the node record given; the two areas and
the Retention Domain stay (R45, R97, R113, R140, R164, R174). Log 31. -/
def mainStart (node : NodeRecord) (s : State) : State :=
  { s with
    epoch := EpochUnit.start
    enc := EncoderInterface.start
    pos := PositionUnit.start
    work := EpochWork.start
    coupling := CouplingRecord.start
    peers := PeerTable.start []
    node := node
    homing := HomingRecord.start
    homingOp := HomingOp.start
    sweep := SweepRecord.start
    cal := WorkingCal.start
    setup := SetupCopies.start
    store := StoreUnit.start s.store.calArea s.store.setupArea
    selfCheck := SelfCheck.start
    link := LinkController.start
    faults := FaultSupervisor.start
    gate := MotionGate.start
    restartPending := false }

/-- The node record while the main domain is down. -/
def downNode (r : RetainedRecord) (state : NodeState) : NodeRecord := { NodeRecord.start r with state := state }

/-- RETAIN, or OFF with VMAIN absent and VBAK below 2.3 V (R41). -/
def downState (p : Pins) : NodeState := if !p.vmainGood && p.vbakLow then .off else .retain

/-- The pins after an entry (R45). -/
def entryPins (cause : RetainedCause) (vbakLow : Bool) (p : Pins) : Pins :=
  { p with
    vmainGood := p.vmainGood && cause != .powerLoss
    resetLow := p.resetLow || cause == .reset
    vbakLow := vbakLow }

/-- Entry to RETAIN from STARTUP or any later state: one event (R45). -/
def enterRetain (cause : RetainedCause) (vbakLow : Bool) (s : State) : State :=
  let p := entryPins cause vbakLow s.pins
  let r := entryRecord cause vbakLow s.ret
  ((mainStart (downNode r (downState p)) s).setPins p).setRet
    { s.ret with record := r, tracker := Tracker.atEntry r, dwellMet := cause != .restart }

/-- The entry by RESTART, when the RESTART reply leaves (R198), with VBAK as it is at the entry (R46). -/
def restartEntry (vbakLow : Bool) (s : State) : State := enterRetain .restart vbakLow s

/-- Entry to STARTUP: the straps latched, the mirror loaded and held, the tracker stopped, every record
at its start values (R54, R56 to R58). -/
def enterStartup (straps : Straps) (s : State) : State :=
  let r := s.ret.record
  (((mainStart (NodeRecord.start r) s).setStraps straps).setPins { s.pins with vmainGood := true, resetLow := false }).setRet
    { s.ret with mirror := TurnMirror.load r, tracker := Tracker.stop s.ret.tracker, dwellMet := true }

/-! ### The tracker (R48 to R51) -/

/-- The step between two quadrants (R50). -/
def quadrantStep (qNew qRet : Quadrant) : Quadrant := qNew - qRet

/-- The turn change of a step: +1 at a wrap 3 to 0, −1 at a wrap 0 to 3 (R50). -/
def turnChange (qRet qNew : Quadrant) : Int :=
  if qRet = 3#2 ∧ qNew = 0#2 then 1 else if qRet = 0#2 ∧ qNew = 3#2 then -1 else 0

/-- The direction a step is taken as (R50). -/
def stepDirection (step : Quadrant) (was : Direction) : Direction :=
  if step = 1#2 then .forward else if step = 3#2 then .backward else was

/-- A turn change into the record; at the bound T_ret stays and the record is DOUBTFUL with reason
RANGE (R50). -/
def changeTurn (d : Int) (r : RetainedRecord) : RetainedRecord :=
  if d = 0 then r
  else if inRange turnMin turnMax (r.tRet + d) then { r with tRet := r.tRet + d, netTurns := r.netTurns + d }
  else downgrade .range r

/-- A good tracker read into the record (R50). -/
def trackRecord (q : Quadrant) (r : RetainedRecord) : RetainedRecord :=
  let step := quadrantStep q r.qRet
  if step = 0#2 then r
  else
    let r' := if step = 2#2 then downgrade .step r else changeTurn (turnChange r.qRet q) r
    { r' with qRet := q, playKnown := false, s := 0, lastDir := stepDirection step r.lastDir }

/-- The interval SLOW at an unchanged run of 64 (R49). -/
def trackerSlow (t : Tracker) : Tracker := if t.unchangedRun = 64 then { t with interval := .slow } else t

/-- A good tracker read into the tracker (R48 to R50). -/
def trackGood (changed : Bool) (t : Tracker) : Tracker :=
  if changed then { t with reading := false, failedRun := 0, unchangedRun := 0, interval := .fast }
  else trackerSlow { t with reading := false, failedRun := 0, unchangedRun := satSucc 64 t.unchangedRun }

/-- A failed tracker read into the tracker (R49, R51). -/
def trackFailed (t : Tracker) : Tracker :=
  { t with reading := false, failedRun := satSucc 3 t.failedRun, unchangedRun := 0, interval := .fast }

/-- Three failed reads in a row make a VALID record DOUBTFUL with reason ENCODER (R51). -/
def trackerFailed3 (d : RetentionDomain) : RetentionDomain :=
  if d.tracker.failedRun = 3 then { d with record := downgrade .encoder d.record } else d

/-- VBAK below 2.3 V in RETAIN: the tracker stops, its interval and runs kept (log 38), and the record
is LOST (R53). -/
def collapse (d : RetentionDomain) : RetentionDomain :=
  { d with record := loseBackup d.record, tracker := Tracker.stop d.tracker }

/-- The node state of RETAIN or OFF judged again from the pins (R41, R53). -/
def judgeDown (s : State) : State := s.setNode { s.node with state := downState s.pins }

/-! ### Commands -/

/-- The record's cause of an entry from outside. -/
def EntryCause.retained : EntryCause → RetainedCause
  | .powerLoss => .powerLoss
  | .reset => .reset

/-- RETAIN_ENTRY; a cause that arises in RETAIN is not an entry (R45). -/
def execRetainEntry (cause : EntryCause) (vbakLow : Bool) (s : State) : Host.Outcome State Fault Refusal :=
  .next (conclude s (if s.mainUp then enterRetain (EntryCause.retained cause) vbakLow s else s))

/-- TRACKER_READ_START (R48). -/
def execTrackerReadStart (s : State) : Host.Outcome State Fault Refusal :=
  .next (conclude s
    (if s.node.state = .retain ∧ s.ret.tracker.running = true ∧ s.ret.tracker.reading = false then
      s.setRet { s.ret with tracker := { s.ret.tracker with reading := true } }
    else s))

/-- TRACKER_READ_GOOD: the read ends with a good word (R48 to R50). -/
def execTrackerReadGood (word : TrackerWord) (s : State) : Host.Outcome State Fault Refusal :=
  .next (conclude s
    (if s.node.state = .retain ∧ s.ret.tracker.reading = true ∧ trackerEnding word = .good then
      s.setRet { s.ret with
        record := trackRecord (quadrantOf word.angle) s.ret.record
        tracker := trackGood (quadrantOf word.angle != s.ret.record.qRet) s.ret.tracker }
    else s))

/-- TRACKER_READ_FAILED: the read ends with a word that fails its checks, or without one (R48, R51). -/
def execTrackerReadFailed (ending : TrackerFailure) (s : State) : Host.Outcome State Fault Refusal :=
  .next (conclude s
    (if s.node.state = .retain ∧ s.ret.tracker.reading = true ∧ trackerFails ending = true then
      s.setRet (trackerFailed3 { s.ret with tracker := trackFailed s.ret.tracker })
    else s))

/-- TRACKER_UNCHANGED_64 (log 2). -/
def execTrackerUnchanged64 (s : State) : Host.Outcome State Fault Refusal :=
  .next (conclude s
    (if s.node.state = .retain then s.setRet { s.ret with tracker := trackerSlow s.ret.tracker } else s))

/-- TRACKER_FAILED_RUN_3 (log 2). -/
def execTrackerFailedRun3 (s : State) : Host.Outcome State Fault Refusal :=
  .next (conclude s (if s.node.state = .retain then s.setRet (trackerFailed3 s.ret) else s))

/-- BACKUP_COLLAPSE (R53); outside RETAIN only the pin changes (log 9). -/
def execBackupCollapse (vmainGood : Bool) (s : State) : Host.Outcome State Fault Refusal :=
  .next (conclude s
    (if s.node.state = .retain then
      judgeDown ((s.setPins { s.pins with vbakLow := true, vmainGood := vmainGood }).setRet (collapse s.ret))
    else s.setPins { s.pins with vbakLow := true }))

/-- LOSS_OF_VMAIN_IN_RETAIN (R41, R45, R54). -/
def execLossOfVmainInRetain (vbakLow : Bool) (s : State) : Host.Outcome State Fault Refusal :=
  .next (conclude s
    (if s.node.state = .retain then
      judgeDown ((s.setPins { s.pins with vmainGood := false, vbakLow := vbakLow }).setRet
        (if vbakLow then collapse s.ret else s.ret))
    else s))

/-- RESTART_DWELL_EXPIRY (R54). -/
def execRestartDwellExpiry (s : State) : Host.Outcome State Fault Refusal :=
  .next (conclude s (if s.node.state = .retain then s.setRet { s.ret with dwellMet := true } else s))

/-- RETAIN_EXIT: the conditions hold, the straps latched at the entry to STARTUP (R54, R58). -/
def execRetainExit (straps : Straps) (s : State) : Host.Outcome State Fault Refusal :=
  .next (conclude s (if s.node.state = .retain ∧ s.ret.dwellMet = true then enterStartup straps s else s))

/-- The domain as it returns from OFF: cold when its state was lost, otherwise a resumption with the
tracker stopped (R55). -/
def returnDomain (d : RetentionDomain) : RetentionDomain :=
  if d.stateLost then RetentionDomain.cold else { d with tracker := Tracker.stop d.tracker, dwellMet := true }

/-- The pins of a return from OFF (R55). -/
def returnPins (how : OffReturn) (p : Pins) : Pins :=
  match how with
  | .startup _ => { p with vmainGood := true, resetLow := false }
  | .backup => { p with vmainGood := false, vbakLow := false }
  | .heldReset vbakLow => { p with vmainGood := true, resetLow := true, vbakLow := vbakLow }

/-- The return from OFF, to STARTUP or to RETAIN (R55). -/
def returnFromOff (how : OffReturn) (s : State) : State :=
  let d := returnDomain s.ret
  let s' := ((mainStart (downNode d.record .retain) s).setPins (returnPins how s.pins)).setRet d
  match how with
  | .startup straps => enterStartup straps s'
  | _ => s'

/-- OFF_RETURN. -/
def execOffReturn (how : OffReturn) (s : State) : Host.Outcome State Fault Refusal :=
  .next (conclude s (if s.node.state = .off then returnFromOff how s else s))

/-- RETENTION_STATE_LOSS: in OFF the domain's state is lost (R41, R55). -/
def execRetentionStateLoss (s : State) : Host.Outcome State Fault Refusal :=
  .next (conclude s (if s.node.state = .off then s.setRet { s.ret with stateLost := true } else s))

/-- BACKUP_LOW_RAISE: the comparison runs from the moment the Epoch Unit begins (R42). -/
def execBackupLowRaise (s : State) : Host.Outcome State Fault Refusal :=
  .next (conclude s (if s.epoch.running then notice .backupLow s else s))

/-- BACKUP_LOW_CLEAR: VBAK is at 2.8 V or above, so not below 2.3 V (R42). -/
def execBackupLowClear (s : State) : Host.Outcome State Fault Refusal :=
  .next (conclude s
    (if s.epoch.running then conditionGone .backupLow (s.setPins { s.pins with vbakLow := false }) else s))

end Sys2Proof.Machine
end

