-- ==== Sys2Proof/Machine/StoreOps.lean ====
section
/-! DEFINITION. The Calibration Store's commands: the load, the read-back of the self-check, the end of a
store write and its verify (R59, R99, R105, R108 to R113, R115). -/

namespace Sys2Proof.Machine

/-! ### The load (R59) -/

/-- The working calibration of a judged record (R99). -/
def loadedCal : Option CalRecord → WorkingCal
  | some c => { data := c, valid := true, dirty := false }
  | none => WorkingCal.start

/-- The two setup copies of a judged record (R105). -/
def loadedSetup : Option Setup → SetupCopies
  | some s => { image := s, latched := s, dirty := false }
  | none => SetupCopies.start

/-- The notice of a bad record (R59). -/
def noticeIfBad (k : FaultKind) (c : RecordCheck) (s : State) : State := if c = .good then s else notice k s

/-- The Epoch Unit begins work: SYNCED, its period timer running; the low watch starts if SMP is low
(R23, R27). -/
def EpochUnit.begin (smpHigh : Bool) : EpochUnit :=
  { EpochUnit.start with running := true, timer := .running, lowWatch := !smpHigh }

/-- The load: both records judged, the copies made, the setup latched, the entries made, the Epoch Unit
and the Link Controller begun, then the notices of bad records (R59, R99, R105, R115, R122, R140). The
order of the two notices: log 13. -/
def loadStore (s : State) : State :=
  let setup := judgeSetup s.ownAddress s.store.setupArea
  let cal := judgeCal s.store.calArea
  let s1 := (s.setSetup (loadedSetup setup.2)).setCal (loadedCal cal.2)
  let s2 := s1.setSelfCheck { s1.selfCheck with setupRecord := setup.1, calRecord := cal.1 }
  let s3 := (s2.setPeers (PeerTable.start s2.setup.latched.members)).setEpoch (EpochUnit.begin s.pins.smpHigh)
  let s4 := s3.setPos { s3.pos with playKnown := s3.cal.h == 0 }
  noticeIfBad .calInvalid cal.1 (noticeIfBad .setupInvalid setup.1 s4)

/-- STORE_LOAD_COMPLETE: in STARTUP with valid straps, once per start (R58, R59). -/
def execStoreLoadComplete (s : State) : Host.Outcome State Fault Refusal :=
  .next (conclude s
    (if s.node.state = .startup ∧ strapsValid s.straps = true ∧ s.epoch.running = false then loadStore s else s))

/-- What the read-back of one record gives (R115). -/
def copyCheck (record : RecordCheck) (same : Bool) : CopyCheck :=
  match record with
  | .good => if same then .isMatch else .mismatch
  | _ => .notApplicable

/-- The read-back's results in the self-check (R115). -/
def readBackResults (setupMatch calMatch : Bool) (c : SelfCheck) : SelfCheck :=
  { c with setupCopy := copyCheck c.setupRecord setupMatch, calCopy := copyCheck c.calRecord calMatch }

/-- SELF_CHECK_READBACK: after the load, once per start; the Link Controller begins watching the line
(R115, R140). -/
def execSelfCheckReadback (setupMatch calMatch : Bool) (s : State) : Host.Outcome State Fault Refusal :=
  .next (conclude s
    (if s.node.state = .startup ∧ s.epoch.running = true ∧ s.link.watching = false then
      (s.setSelfCheck (readBackResults setupMatch calMatch s.selfCheck)).setLink { s.link with watching := true }
    else s))

/-! ### The end of a write (R110 to R113) -/

/-- The CRC written: the target's area holds the snapshot (R110, R113). That the cells took it is log 51. -/
def writeCrc (t : StoreTarget) (u : StoreUnit) : StoreUnit :=
  match t with
  | .cal => { u with calArea := calWritten u.calSnapshot, crcWritten := true }
  | .setup => { u with setupArea := setupWritten u.setupSnapshot, crcWritten := true }

/-- STORE_CRC_WRITTEN: while a write is in progress and its CRC is not written yet. -/
def execStoreCrcWritten (s : State) : Host.Outcome State Fault Refusal :=
  .next (conclude s
    (match s.store.writing with
     | some t => if s.store.crcWritten then s else s.setStore (writeCrc t s.store)
     | none => s))

/-- The store IDLE again (R111). -/
def storeIdle (u : StoreUnit) : StoreUnit := { u with writing := none, crcWritten := false }

/-- The working calibration made valid at a verify match: play unknown, or known with h = 0 (R103). -/
def validateCal (s : State) : State :=
  if s.cal.valid then s
  else
    let s' := s.setCal { s.cal with valid := true }
    s'.setPos (playUnknown s'.cal.h s'.pos)

/-- A verify match of CAL (R103, R111). -/
def calVerified (s : State) : State :=
  let s1 := s.setCal { s.cal with dirty := s.cal.dirty && s.store.calMarked }
  let s2 := s1.setStore (storeIdle { s1.store with calOutcome := .verified })
  conditionGone .calInvalid (validateCal s2)

/-- A verify match of SETUP (R111). -/
def setupVerified (s : State) : State :=
  let s1 := s.setSetup { s.setup with dirty := s.setup.dirty && s.store.setupMarked }
  conditionGone .setupInvalid (s1.setStore (storeIdle { s1.store with setupOutcome := .verified }))

/-- A mismatch: the outcome FAILED and the notice of STORE_FAILED (R111); the area as it was found. -/
def calFailed (found : Area CalRecord) (s : State) : State :=
  notice .storeFailed (s.setStore (storeIdle { s.store with calOutcome := .failed, calArea := found }))

def setupFailed (found : Area Setup) (s : State) : State :=
  notice .storeFailed (s.setStore (storeIdle { s.store with setupOutcome := .failed, setupArea := found }))

/-- The verify of the target in progress against what was read back (R111); a read-back of the other
area is no event of this write. -/
def verifyStore (t : StoreTarget) (found : ReadBack) (s : State) : State :=
  match t, found with
  | .cal, .asWritten => calVerified s
  | .cal, .cal a => if a = calWritten s.store.calSnapshot then calVerified s else calFailed a s
  | .cal, .setup _ => s
  | .setup, .asWritten => setupVerified s
  | .setup, .setup a => if a = setupWritten s.store.setupSnapshot then setupVerified s else setupFailed a s
  | .setup, .cal _ => s

/-- STORE_VERIFY: after the CRC of the write in progress has been written. -/
def execStoreVerify (found : ReadBack) (s : State) : Host.Outcome State Fault Refusal :=
  .next (conclude s
    (match s.store.writing with
     | some t => if s.store.crcWritten then verifyStore t found s else s
     | none => s))

end Sys2Proof.Machine
end

