-- ==== Sys2Proof/Machine/Link.lean ====
section
/-! DEFINITION. The Link Controller's commands: the line, join and rejoin, the transmitter, the receiver
and what it delivers to the Peer Table, the link's health (R122 to R129, R144 to R157). -/

namespace Sys2Proof.Machine

/-! ### Health (R154, R155) -/

/-- The queues and slots emptied at entry to DETACHED (R155). -/
def flushLink (l : LinkController) : LinkController :=
  { l with positionSlot := none, statusSlot := none, replies := [], requests := [], idlePeriods := 0 }

/-- Entry to DETACHED: the notice, the flush, and the RETAIN entry of a flushed RESTART reply, with VBAK
as it is then (R155, R198). -/
def detach (vbakLow : Bool) (s : State) : State :=
  let s1 := notice .linkDetached s
  let s2 := s1.setLink (flushLink s1.link)
  if s1.link.replies.any (fun r => r.restart) then restartEntry vbakLow s2 else s2

/-- The health counter one lower, never below 0; frozen while DETACHED (R154, R155). -/
def easeHealth (s : State) : State :=
  if s.link.detached then s else s.setLink { s.link with health := s.link.health - 1 }

/-- The health counter n higher, never above 224, and the health state judged at once; frozen while
DETACHED (R154, R155). -/
def worsenHealth (n : Nat) (vbakLow : Bool) (s : State) : State :=
  if s.link.detached then s
  else
    let s' := s.setLink { s.link with health := min 224 (s.link.health + n) }
    if s'.link.detached then detach vbakLow s' else s'

/-- The intact count reaching 32 (R148). -/
def intactCount32 (s : State) : State :=
  if s.link.intact = 32 then easeHealth (s.setLink { s.link with intact := 0 }) else s

/-! ### Idle, join, rejoin, stuck (R140, R144, R145, R156, R157) -/

/-- The runs of the line after bits that begin with a dominant one (R140). Log 22. -/
def lineAfter (bits : List Bool) (l : LinkController) : LinkController :=
  { l with recessiveRun := trailingRecessive bits, dominantRun := trailingDominant bits }

/-- The rejoin at 64 idle periods (R156). The idle periods start again at 0: log 46. -/
def linkRejoin (s : State) : State :=
  if s.link.detached && decide (64 ≤ s.link.idlePeriods) then
    placeStatus (conditionGone .linkDetached (s.setLink { s.link with health := 0, intact := 0, idlePeriods := 0 }))
  else s

/-- The recessive run at an idle: 11, or 11 more of the same run (R144, R156). Log 22. -/
def idleRun (run : Nat) : Nat := if run < 11 then 11 else run + 11

/-- The line idle: stuck returns to no, and a receiver that waited for it receives again (R144, R147,
R148, R157). -/
def lineIdle (l : LinkController) : LinkController :=
  { l with recessiveRun := idleRun l.recessiveRun, dominantRun := 0, stuck := false, awaitIdle := false }

/-- One idle period while DETACHED (R156). -/
def countIdle (s : State) : State :=
  if s.link.detached then linkRejoin (s.setLink { s.link with idlePeriods := satSucc 64 s.link.idlePeriods }) else s

/-- LINE_IDLE: after the join (R144, R156, R157). -/
def execLineIdle (s : State) : Host.Outcome State Fault Refusal :=
  .next (conclude s (if s.link.joined then countIdle (s.setLink (lineIdle s.link)) else s))

/-- LINK_JOIN: while watching and not yet joined (R145). -/
def execLinkJoin (s : State) : Host.Outcome State Fault Refusal :=
  .next (conclude s
    (if s.link.watching && !s.link.joined then placeStatus (s.setLink { lineIdle s.link with joined := true }) else s))

/-- LINK_REJOIN (log 2). -/
def execLinkRejoin (s : State) : Host.Outcome State Fault Refusal := .next (conclude s (linkRejoin s))

/-- LINE_STUCK: the stuck watch runs in every health state and before the join (R157). -/
def execLineStuck (s : State) : Host.Outcome State Fault Refusal :=
  .next (conclude s
    (if s.link.watching then
      s.setLink { s.link with dominantRun := 41, recessiveRun := 0, stuck := true, stuckCount := satSucc 255 s.link.stuckCount }
    else s))

/-- INTACT_COUNT_32 (log 2). -/
def execIntactCount32 (s : State) : Host.Outcome State Fault Refusal := .next (conclude s (intactCount32 s))

/-! ### The transmitter (R144, R146, R147, R149, R153) -/

/-- Whether the node may begin a frame (R144). -/
def LinkController.mayBegin (l : LinkController) : Bool :=
  l.joined && l.tx.isNone && !l.stuck && decide (11 ≤ l.recessiveRun) &&
  (healthState l.health == .engaged || healthState l.health == .caution)

/-- The first pending frame, in the order POSITION slot, STATUS slot, REPLY queue head (R149). -/
def LinkController.nextFrame (l : LinkController) : Option (Frame × TxOrigin) :=
  match l.positionSlot with
  | some f => some (f, .position)
  | none =>
    match l.statusSlot with
    | some f => some (f, .status)
    | none => l.replies.head?.map fun r => (r.frame, .reply)

/-- The head of the REPLY queue marked in transmission, or no longer (R149). -/
def markHead (inTx : Bool) : List Reply → List Reply
  | [] => []
  | r :: rest => { r with inTx := inTx } :: rest

/-- A frame taken into the transmit register: a POSITION or STATUS frame leaves its slot, a REPLY stays
at the head, marked (R149). Its start bit is dominant. -/
def beginFrame (f : Frame) (o : TxOrigin) (l : LinkController) : LinkController :=
  let l := { l with tx := some { frame := f, origin := o, bits := f.wire }, recessiveRun := 0, dominantRun := 1 }
  match o with
  | .position => { l with positionSlot := none }
  | .status => { l with statusSlot := none }
  | .reply => { l with replies := markHead true l.replies }

/-- FRAME_TX_START (R144, R149). -/
def execFrameTxStart (s : State) : Host.Outcome State Fault Refusal :=
  .next (conclude s
    (if s.link.mayBegin then
      match s.link.nextFrame with
      | some (f, o) => s.setLink (beginFrame f o s.link)
      | none => s
    else s))

/-- A POSITION frame that lost arbitration returns to an empty slot; otherwise it is dropped and
counted (R149). -/
def returnPosition (f : Frame) (l : LinkController) : LinkController :=
  if l.positionSlot.isSome then { l with publishOverrun := satSucc 255 l.publishOverrun } else { l with positionSlot := some f }

/-- The same of a STATUS frame, without a count (R149). -/
def returnStatus (f : Frame) (l : LinkController) : LinkController :=
  if l.statusSlot.isSome then l else { l with statusSlot := some f }

/-- The bits a transmitter has read back when the one after the first `sent` reads otherwise than sent
(R146, R147). -/
def Transmission.readBack (x : Transmission) (sent : Nat) : List Bool := x.bits.take sent ++ [!x.bits.getD sent true]

/-- Whether arbitration can be lost at the bit after the first `sent`: in the start bit or the header,
sent recessive (R146). -/
def Transmission.losesAt (x : Transmission) (sent : Nat) : Bool := decide (sent ≤ 8) && x.bits.getD sent false

/-- Whether a misread of the bit after the first `sent` is a bit error: from the control byte on, or a
start or header bit sent dominant (R147). -/
def Transmission.errsAt (x : Transmission) (sent : Nat) : Bool :=
  decide (sent < x.bits.length) && (decide (9 ≤ sent) || !x.bits.getD sent true)

/-- The transmit register emptied by a lost arbitration (R146, R149). -/
def loseArbitration (x : Transmission) (l : LinkController) : LinkController :=
  let l := { l with tx := none }
  match x.origin with
  | .position => returnPosition x.frame l
  | .status => returnStatus x.frame l
  | .reply => { l with replies := markHead false l.replies }

/-- ARBITRATION_LOST: not an error, and no count of errors changes (R146). -/
def execArbitrationLost (s : State) (sent : Nat := 3) : Host.Outcome State Fault Refusal :=
  .next (conclude s
    (match s.link.tx with
     | some x => if x.losesAt sent then s.setLink (loseArbitration x (lineAfter (x.readBack sent) s.link)) else s
     | none => s))

/-- Whether the reply in transmission is that of a RESTART (R198). -/
def sendsRestart (x : Transmission) (l : LinkController) : Bool :=
  x.origin == .reply && l.replies.head?.any fun r => r.restart

/-- The transmit register emptied for good: a REPLY leaves the queue (R149, R153). -/
def finishTx (x : Transmission) (l : LinkController) : LinkController :=
  let l := { l with tx := none }
  match x.origin with
  | .reply => { l with replies := l.replies.tail }
  | _ => l

/-- The RETAIN entry when the frame that has ended was the RESTART reply (R198). -/
def restartAfter (x : Transmission) (l : LinkController) (vbakLow : Bool) (s : State) : State :=
  if sendsRestart x l then restartEntry vbakLow s else s

/-- The receiver waits for the next idle, unless the line is idle already (R148). Log 22. -/
def waitIdle (l : LinkController) : LinkController := { l with awaitIdle := decide (l.recessiveRun < 11) }

/-- A bit error at the bit after the first `sent`: the frame abandoned, the health counter raised by 4, the
rest of it not received (R147). -/
def abortTx (x : Transmission) (sent : Nat) (vbakLow : Bool) (s : State) : State :=
  let l := finishTx x (lineAfter (x.readBack sent) s.link)
  restartAfter x s.link vbakLow (worsenHealth 4 vbakLow (s.setLink { l with awaitIdle := true }))

/-- A frame complete for its transmitter: the health counter lowered by 1 (R147). -/
def completeTx (x : Transmission) (vbakLow : Bool) (s : State) : State :=
  restartAfter x s.link vbakLow (easeHealth (s.setLink (finishTx x (lineAfter x.bits s.link))))

/-- BIT_ERROR (R147). -/
def execBitError (s : State) (vbakLow : Bool := false) (sent : Nat := 9) : Host.Outcome State Fault Refusal :=
  .next (conclude s
    (match s.link.tx with
     | some x => if x.errsAt sent then abortTx x sent vbakLow s else s
     | none => s))

/-- FRAME_TX_COMPLETE (R147). -/
def execFrameTxComplete (s : State) (vbakLow : Bool := false) : Host.Outcome State Fault Refusal :=
  .next (conclude s
    (match s.link.tx with
     | some x => completeTx x vbakLow s
     | none => s))

/-! ### The Peer Table's storage (R123 to R125, R128) -/

/-- A POSITION frame into an entry (R124). -/
def storePosition (p : PositionFields) (cls : TagClass) (e : PeerEntry) : PeerEntry :=
  { e with
    heard := true
    nodeState := some p.nodeState
    basis := some p.basis
    trusted := p.trusted
    absolute := p.absolute
    tag := some p.tag
    tagClass := some cls
    synced := p.synced
    extrapolated := p.extrapolated
    p := some p.p
    j := some p.j
    age := 0
    absent := false }

/-- The node states of a STATUS frame that withdraw the trusted flag: STARTUP, RESTORING, UNREFERENCED
(R125, R161). -/
def withdrawsTrust (n : BitVec 3) : Bool := n == 1#3 || n == 2#3 || n == 3#3

/-- A STATUS frame into an entry (R125). -/
def storeStatus (f : StatusFields) (e : PeerEntry) : PeerEntry :=
  { e with
    heard := true
    nodeState := some f.nodeState
    basis := some f.basis
    axis := some f.axis
    faultClass := some f.faultClass
    trusted := e.trusted && !withdrawsTrust f.nodeState
    absolute := e.absolute && f.basis != 0#3
    age := 0
    absent := false }

/-- The Epoch Unit's alignment by a member frame with synced = yes (R33). -/
def alignOn (p : PositionFields) (s : State) : State :=
  if p.synced && s.epoch.alignment == .aligning && s.link.joined then becomeAligned (s.setEpoch { s.epoch with count := p.tag })
  else s

/-- The frame in the epoch's summary, when it carries synced = yes (R34). -/
def summarise (p : PositionFields) (cls : TagClass) (s : State) : State :=
  if p.synced then s.setEpoch { s.epoch with frames := noteFrame cls p.tag s.epoch.frames } else s

/-- Whether a stored frame meets the source side (R132). -/
def State.qualifies (s : State) (a : Address) (p : PositionFields) (cls : TagClass) : Bool :=
  s.setup.latched.source == some a && cls == .current && p.synced && s.epoch.epochSynced && s.coupling.source.isNone

/-- The frame as a candidate for the source side of the match (R132, R133). -/
def offerSource (a : Address) (p : PositionFields) (cls : TagClass) (s : State) : State :=
  if s.qualifies a p cls then
    tryMatch (s.setCoupling { s.coupling with source := some ⟨p.p, p.absolute, p.extrapolated⟩ })
  else s

/-- A member's POSITION frame stored and handed on (R124): alignment, class, entry, realignment
summary, coupling match, the change of the entry; the last two in this order: log 53. -/
def takePosition (a : Address) (p : PositionFields) (s : State) : State :=
  let s1 := alignOn p s
  let cls := classOf p.tag s1.epoch.count
  let s2 := absentCleared s1 (s1.setPeers (s1.peers.modify a (storePosition p cls)))
  peerNotice a (offerSource a p cls (summarise p cls s2))

/-- A member's STATUS frame stored and handed on (R125). -/
def takeStatus (a : Address) (f : StatusFields) (s : State) : State :=
  peerNotice a (absentCleared s (s.setPeers (s.peers.modify a (storeStatus f))))

/-- A clash frame: the notice, and the quiet run started at 0 (R128). -/
def takeClash (s : State) : State := notice .addressClash (s.setPeers { s.peers with quietRun := some 0 })

/-- A POSITION or STATUS frame judged by its source (R123). -/
def deliverPeer (f : Frame) (s : State) : State :=
  if f.source = s.ownAddress then takeClash s
  else if s.setup.latched.members.contains f.source then
    if f.kind = kindPosition then takePosition f.source (readPosition f.payload) s
    else takeStatus f.source (readStatusFields f.payload) s
  else s

/-! ### The receiver (R148, R152) -/

/-- A REQUEST frame into the request queue, or overrun (R152). -/
def takeRequest (f : Frame) (s : State) : State :=
  if (f.dest = s.ownAddress ∨ f.dest = 15#4) ∧ 1 ≤ f.payload.length then
    if s.link.requests.length < 4 then
      s.setLink { s.link with requests := s.link.requests ++ [⟨f.source, f.dest == 15#4, f.payload⟩] }
    else s.setLink { s.link with requestOverrun := satSucc 255 s.link.requestOverrun }
  else s

/-- An intact frame handled by its kind (R148). -/
def deliver (f : Frame) (s : State) : State :=
  if f.kind = kindPosition ∨ f.kind = kindStatus then deliverPeer f s
  else if f.kind = kindRequest then takeRequest f s
  else s

/-- Whether the node receives: joined, not DETACHED, not stuck, not transmitting, and not waiting for an
idle (R145, R147, R148, R155, R157). A frame brought after an intact one, or after an own completed one,
with no LINE_IDLE between is received: log 45. -/
def LinkController.receiving (l : LinkController) : Bool := l.placing && !l.stuck && l.tx.isNone && !l.awaitIdle

/-- Bits that pass a node which receives none of them: unjoined, DETACHED, stuck or waiting for an idle, it
watches the line and its runs follow (R140, R145, R156). Log 22. -/
def watchLine (bits : List Bool) (s : State) : State :=
  if s.link.watching && s.link.tx.isNone then s.setLink (lineAfter bits s.link) else s

/-- An intact frame: counted, then handled by its kind (R148). -/
def receiveIntact (f : Frame) (bits : List Bool) (s : State) : State :=
  let l := lineAfter bits s.link
  deliver f (intactCount32 (s.setLink { l with intact := l.intact + 1 }))

/-- FRAME_RECEIVED: the bits of an intact frame (R148). -/
def execFrameReceived (bits : List Bool) (s : State) : Host.Outcome State Fault Refusal :=
  .next (conclude s
    (match receive bits with
     | .intact f => if s.link.receiving then receiveIntact f bits s else watchLine bits s
     | _ => s))

/-- Bits discarded: one health increment, and the receiver waits for the next idle (R148). -/
def discardFrame (bits : List Bool) (vbakLow : Bool) (s : State) : State :=
  worsenHealth 1 vbakLow (s.setLink (waitIdle (lineAfter bits s.link)))

/-- FRAME_DISCARD: bits that a receiver discards (R148). -/
def execFrameDiscard (bits : List Bool) (s : State) (vbakLow : Bool := false) : Host.Outcome State Fault Refusal :=
  .next (conclude s
    (match receive bits with
     | .discard _ => if s.link.receiving then discardFrame bits vbakLow s else watchLine bits s
     | _ => s))

/-! ### The Peer Table's own commands -/

/-- PEER_ABSENT (log 2). -/
def execPeerAbsent (address : Address) (s : State) : Host.Outcome State Fault Refusal :=
  .next (conclude s (peerAbsentOp address s))

/-- QUIET_RUN_64 (log 2). -/
def execQuietRun64 (s : State) : Host.Outcome State Fault Refusal := .next (conclude s (quietRun64Op s))

/-- COUPLING_LOST (log 2). -/
def execCouplingLost (s : State) : Host.Outcome State Fault Refusal := .next (conclude s (couplingLostOp s))

end Sys2Proof.Machine
end

