-- ==== Sys2Proof/Machine/Gate.lean ====
section
/-! DEFINITION. The commands of the Motion Gate's timers, of the RDY level and of the retry timer (R167,
R170, R171, R180, R185). -/

namespace Sys2Proof.Machine

/-- RDY_LEVEL_LOW: a change to LOW clears the grant and the jog flag and counts a halt (R167, R185). -/
def execRdyLevelLow (s : State) : Host.Outcome State Fault Refusal :=
  .next (conclude s
    (if s.mainUp && s.gate.rdyLevel == .high then
      (s.setGate { s.gate with rdyLevel := .low, grant := false, jog := false }).setFaults
        { s.faults with haltCount := satSucc 255 s.faults.haltCount }
    else s))

/-- RDY_LEVEL_HIGH: a change to HIGH sets no grant; the line is not high while the node holds it
(R167, R184). -/
def execRdyLevelHigh (s : State) : Host.Outcome State Fault Refusal :=
  .next (conclude s
    (if s.mainUp && s.gate.rdyLevel == .low && !s.rdyHeld then s.setGate { s.gate with rdyLevel := .high } else s))

/-- SETTLE_EXPIRY: in ENABLING with the permission yes, RELEASED (R170). -/
def execSettleExpiry (s : State) : Host.Outcome State Fault Refusal :=
  .next (conclude s
    (if s.gate.state = .enabling ∧ s.permission = true then s.setGate { s.gate with state := .released } else s))

/-- BITE_EXPIRY: in ENGAGING the permission is judged as it stands (R171). -/
def execBiteExpiry (s : State) : Host.Outcome State Fault Refusal :=
  .next (conclude s
    (if s.gate.state = .engaging then
      s.setGate { s.gate with state := if s.permission then .enabling else .applied }
    else s))

/-- RETRY_TIMER_EXPIRY: the timer expires and the test is made (R180). -/
def execRetryTimerExpiry (s : State) : Host.Outcome State Fault Refusal :=
  .next (conclude s
    (if s.faults.retryTimer = .running then retryTest (s.setFaults { s.faults with retryTimer := .expired }) else s))

end Sys2Proof.Machine
end

