-- ==== Sys2Proof/Machine/Requests.lean ====
section
/-! DEFINITION. The Request Handler: taking a request, its order of judgement, and the reply (R162, R163,
R187 to R191); then the reads (R104, R107, R192 to R194). -/

namespace Sys2Proof.Machine

/-! ### Results (R162) -/

/-- The reasons of a refusal. -/
inductive RefusalReason where
  | wrongState
  | busy
  | notReady
  | badValue
  | noCal
  | notLearned
  | sourceNotAbsolute
  | noConflict
  | broadcastNotAllowed
  | unknownRequest
  | storeBusy
deriving DecidableEq, Repr

/-- What a request is answered with. -/
inductive Verdict where
  | done (data : List Byte)
  | clamped (data : List Byte)
  | accepted
  | refused (why : RefusalReason)
deriving DecidableEq, Repr

/-- The codes of the reasons (R162). -/
def refusalCode : RefusalReason → Nat
  | .wrongState => 1
  | .busy => 2
  | .notReady => 3
  | .badValue => 4
  | .noCal => 5
  | .notLearned => 6
  | .sourceNotAbsolute => 7
  | .noConflict => 8
  | .broadcastNotAllowed => 9
  | .unknownRequest => 10
  | .storeBusy => 11

/-- The result byte: result in bits 7..6, CLAMPED in bit 5, reason in bits 3..0 (R162). -/
def resultByte : Verdict → Byte
  | .done _ => 0x00#8
  | .clamped _ => 0x20#8
  | .accepted => 0x40#8
  | .refused why => 0x80#8 ||| codeByte (refusalCode why)

/-- The data of a reply; an ACCEPTED or REFUSED one carries none (R189). -/
def verdictData : Verdict → List Byte
  | .done data => data
  | .clamped data => data
  | .accepted => []
  | .refused _ => []

/-! ### Taking and answering (R153, R187 to R189) -/

/-- The code of a request, its first byte (R162). -/
def Request.code (r : Request) : Nat := (byteAt r.payload 0).toNat

/-- The arguments of a request. -/
def Request.args (r : Request) : List Byte := r.payload.drop 1

/-- Argument byte i as a number. -/
def Request.arg (r : Request) (i : Nat) : Nat := (byteAt r.args i).toNat

/-- The request the handler may take now: the head of the queue, with room for its reply and no restart
pending (R187). -/
def takeable (s : State) : Option Request :=
  if s.mainUp && decide (s.link.replies.length < 4) && !s.restartPending then s.link.requests.head? else none

/-- The reply of a request (R153, R189). -/
def replyTo (s : State) (r : Request) (v : Verdict) (restart : Bool) : Reply where
  frame := ⟨kindReply, s.ownAddress, r.source, byteAt r.payload 0 :: resultByte v :: verdictData v⟩
  restart := restart
  inTx := false

/-- A reply appended at the tail of the REPLY queue (R153). -/
def appendReply (reply : Reply) (s : State) : State :=
  s.setLink { s.link with replies := s.link.replies ++ [reply] }

/-- The request leaves the queue as it is taken (R187). -/
def popRequest (s : State) : State := s.setLink { s.link with requests := s.link.requests.tail }

/-- What one request does: the node after its effect, and the answer. -/
abbrev Handler := Request → State → State × Verdict

/-- A request that is refused changes nothing (R188). -/
def refuse (why : RefusalReason) (s : State) : State × Verdict := (s, .refused why)

/-- The requests taken in STARTUP: IDENTIFY and READ_STATUS (R188). -/
def takenInStartup (code : Nat) : Bool := code == 0x01 || code == 0x02

/-- The requests refused at 15: ZERO_HERE, ACCEPT_RESTORE, CAL_WRITE, SETUP_WRITE, STORE (R191). -/
def singleNode (code : Nat) : Bool := code == 0x16 || code == 0x17 || code == 0x1B || code == 0x1C || code == 0x1D

/-- The order of judgement of R188 for a known code. READ_RESTORE in STARTUP is refused with the rest:
log 39. -/
def judge (h : Handler) (r : Request) (s : State) : State × Verdict :=
  if s.node.state = .startup ∧ takenInStartup r.code = false then refuse .notReady s
  else if r.broadcast && singleNode r.code then refuse .broadcastNotAllowed s
  else h r s

/-- Whether an answer is that of an accepted RESTART, whose reply starts the node again (R198). -/
def startsAgain (code : Nat) (v : Verdict) : Bool := code == 0x1E && v == .accepted

/-- A request executed: one event, from leaving the queue to its reply (R187). -/
def execute (h : Handler) (r : Request) (s : State) : State :=
  let x := judge h r (popRequest s)
  appendReply (replyTo x.1 r x.2 (startsAgain r.code x.2)) x.1

/-- The command of a request's row: it takes the head of the queue when that is a request of the row's
code (R187); otherwise it is no event (log 1). -/
def serve (code : Nat) (h : Handler) (s : State) : State :=
  match takeable s with
  | some r => if r.code = code then execute h r s else s
  | none => s

/-- The form check of a request without a rule of its own for it: the argument size, then the rule
(R163). -/
def sized (n : Nat) (h : Handler) : Handler := fun r s =>
  if r.args.length = n then h r s else refuse .badValue s

/-- A read: it changes nothing (R191). -/
def reads (data : Request → State → List Byte) : Handler := fun r s => (s, .done (data r s))

/-- A read in parts 0..last (R163). -/
def readsPart (last : Nat) (data : Request → State → List Byte) : Handler :=
  sized 1 fun r s => if r.arg 0 ≤ last then (s, .done (data r s)) else refuse .badValue s

/-! ### IDENTIFY, READ_STATUS (R192) -/

/-- The device code, the latched straps, the self-check record (R162, R192). The code 1 of 5 Mbit/s is
log 47. -/
def identifyData (_r : Request) (s : State) : List Byte :=
  [0x41#8, addressByte s.straps.address, codeByte s.straps.axis.toNat, codeByte (flag s.straps.fast)] ++ selfCheckBytes s.selfCheck

/-- Part 1 of READ_STATUS (R162, R192). -/
def statusCounters (s : State) : List Byte :=
  [codeByte s.link.health, codeByte s.link.publishOverrun, codeByte s.link.stuckCount, codeByte s.epoch.realignCount,
   packed [(3, readCauseCode s.enc.motor.lastCause), (3, readCauseCode s.enc.coarse.lastCause)], s.epoch.count] ++
  selfCheckBytes s.selfCheck

/-- The parts of READ_STATUS. -/
def statusData (r : Request) (s : State) : List Byte := if r.arg 0 = 0 then s.statusPayload else statusCounters s

/-! ### READ_FAULTS, READ_RESTORE, READ_HOMING (R193) -/

/-- A fault record as three bytes; an empty one is kind FFh, tag 0, node state 0 (R162, R193). -/
def faultRecordBytes : Option FaultRecord → List Byte
  | none => [0xFF#8, 0x00#8, 0x00#8]
  | some f => [codeByte (kindIndex f.kind).val, f.tag, packed [(3, nodeStateCode f.state), (2, jumpReasonCode f.reason)]]

/-- READ_FAULTS. -/
def faultsData (_r : Request) (s : State) : List Byte :=
  bytesOf 2 s.faults.active.toNat ++ bytesOf 2 s.faults.latchedSet.toNat ++ faultRecordBytes s.faults.first ++
  faultRecordBytes s.faults.last

/-- Part 0 of READ_RESTORE: the retained record (R162). -/
def retainedBytes (r : RetainedRecord) : List Byte :=
  [packed [(2, retainedCauseCode r.cause), (1, flag r.anchored), (3, validityCode false r.validity)],
   codeByte (retainedReasonCode r.reason)] ++ bytesOf 2 r.tRet ++
  [packed [(2, r.qRet.toNat), (1, flag r.playKnown), (2, directionCode r.lastDir)]] ++ bytesOf 2 r.s ++ bytesOf 3 r.netTurns ++
  bytesOf 1 r.reentries

/-- The code of a retained outcome, 0 where there is none (R161, R193). -/
def outcomeCode : Option RetainedOutcome → Nat
  | some (.unusable why) => unusableCode why
  | _ => 0

/-- T_adj, 0 where there is none. Log 18. -/
def outcomeTurn : Option RetainedOutcome → Int
  | some (.adjusted t) => t
  | _ => 0

/-- Part 1 of READ_RESTORE: the decision fields (R162). -/
def decisionBytes (r : RestoreReport) : List Byte :=
  [packed [(2, startKindCode r.kind), (1, restorePhaseCode r.phase), (2, retainedCauseCode r.cause)],
   packed [(3, validityCode r.live r.validity), (3, retainedReasonCode r.reason)]] ++ bytesOf 2 r.tRet ++
  [packed [(2, r.qRet.toNat), (2, (r.qNow.getD 0).toNat)], codeByte (outcomeCode r.outcome)] ++ bytesOf 2 (outcomeTurn r.outcome) ++
  [codeByte (decisionCode r.decision), codeByte (basisCode r.basis), r.decideTag.getD 0]

/-- A vernier result, all zeros where there is none (R193). -/
def vernierOr0 (v : Option VernierResult) : VernierResult := v.getD ⟨.unavailable, 0, 0, 0, 0⟩

/-- Part 2 of READ_RESTORE: the vernier fields (R162). -/
def vernierBytes (r : RestoreReport) : List Byte :=
  let v := vernierOr0 r.vernier
  [packed [(3, vernierStatusCode v.status), (1, flag r.guided)], codeByte v.candidates] ++ bytesOf 4 v.tv ++ bytesOf 2 v.r ++
  bytesOf 2 v.margin

/-- Part 3 of READ_RESTORE: the conflict record; without one all fields are 0 (R162, R193). -/
def conflictBytes : Option ConflictRecord → List Byte
  | none => List.replicate 12 0x00#8
  | some c =>
    [packed [(1, 1), (1, restorePhaseCode c.kind)]] ++ bytesOf 2 c.retainedSide ++ bytesOf 2 c.vernierSide ++
    bytesOf 2 c.decideTurn ++ bytesOf 2 c.r ++ bytesOf 2 c.margin ++ [c.tag]

/-- The parts of READ_RESTORE. -/
def restoreData (r : Request) (s : State) : List Byte :=
  match r.arg 0 with
  | 0 => retainedBytes s.ret.record
  | 1 => decisionBytes s.node.report
  | 2 => vernierBytes s.node.report
  | _ => conflictBytes s.node.conflict

/-- The parts of READ_HOMING; a field not yet reached is 0 (R162, R193). -/
def homingData (r : Request) (s : State) : List Byte :=
  let h := s.homing
  match r.arg 0 with
  | 0 =>
    [packed [(1, homingModeCode h.mode), (3, homingOutcomeCode h.outcome)], codeByte (homingReasonCode h.reason),
     packed [(3, stateBeforeCode h.before), (1, approachCode h.approachOf), (1, flag h.coarseChecked)]] ++
    bytesOf 2 ((h.latch.map HomingLatch.thetaH).getD 0).toNat ++ bytesOf 2 ((h.latch.map HomingLatch.guardMin).getD 0 : Nat) ++
    [h.edgeTag.getD 0, h.captureTag.getD 0]
  | 1 => bytesOf 4 (h.pFlag.getD 0) ++ bytesOf 4 (h.pCap.getD 0) ++ bytesOf 2 (h.residual.getD 0) ++ bytesOf 2 (h.coarseDiff.getD 0)
  | _ => bytesOf 4 (home32 (h.eCap.getD 0)) ++ bytesOf 4 (h.tShift.getD 0)

/-! ### READ_SWEEP, READ_PEER (R194) -/

/-- The parts of READ_SWEEP (R162). -/
def sweepData (r : Request) (s : State) : List Byte :=
  let w := s.sweep
  match r.arg 0 with
  | 0 => [codeByte (sweepOutcomeCode w.outcome)] ++ bytesOf 2 w.skipped ++ bytesOf 2 w.overflow ++ bytesOf 4 s.cal.data.coverage.toNat
  | 1 => bytesOf 4 w.updated.toNat ++ bytesOf 4 w.clamped.toNat
  | p => ((w.counts.toList.drop (8 * (p - 2))).take 8).map codeByte

/-- Part 0 of READ_PEER; the coupling fields are those of the source only (R162, R194). -/
def peerBytes (isSource : Bool) (c : CouplingRecord) (e : PeerEntry) : List Byte :=
  [addressByte e.address,
   packed [(1, flag e.heard), (1, flag e.absent), (1, flag e.synced), (1, flag e.extrapolated), (1, flag e.trusted), (1, flag e.absolute)],
   codeByte (e.axis.getD 0).toNat, packed [(3, (e.nodeState.getD 0).toNat), (3, (e.basis.getD 0).toNat)], e.tag.getD 0,
   packed [(2, (e.tagClass.map tagClassCode).getD 0), (2, (e.faultClass.getD 0).toNat)], codeByte e.age] ++
  (if isSource then [packed [(1, 1), (2, lastAbsoluteCode c.lastAbsolute), (1, flag c.prevMissed)], codeByte c.missCount]
   else [0x00#8, 0x00#8])

/-- The parts of READ_PEER. -/
def peerData (part : Nat) (isSource : Bool) (c : CouplingRecord) (e : PeerEntry) : List Byte :=
  match part with
  | 0 => peerBytes isSource c e
  | _ => bytesOf 4 (e.p.getD 0) ++ bytesOf 4 (e.j.getD 0)

/-- READ_PEER: the address must be a member of the latched setup (R163, R194). -/
def readPeer : Handler := sized 2 fun r s =>
  let a := addressOfByte (byteAt r.args 0)
  if r.arg 1 ≤ 1 ∧ s.setup.latched.members.contains a = true then
    (s, .done (peerData (r.arg 1) (s.setup.latched.source == some a) s.coupling ((s.peers.entry? a).getD (PeerEntry.start a))))
  else refuse .badValue s

/-! ### CAL_READ, SETUP_READ (R104, R107) -/

/-- CAL_READ: BAD_VALUE for an unknown id or an index outside 0..31 (R104). -/
def calRead : Handler := sized 2 fun r s =>
  match calFieldBytes s.cal.data (r.arg 0) (r.arg 1) with
  | none => refuse .badValue s
  | some v =>
    (s, .done ([byteAt r.args 0, byteAt r.args 1,
      packed [(1, flag s.cal.valid), (1, flag s.cal.dirty), (1, flag (calFieldUnset s.cal.data (r.arg 0)))]] ++ v))

/-- SETUP_READ: BAD_VALUE for an unknown id, kind or selector (R107, R163). -/
def setupRead : Handler := sized 3 fun r s =>
  if 1 < r.arg 2 then refuse .badValue s
  else
    match setupFieldBytes (if r.arg 2 = 0 then s.setup.image else s.setup.latched) (r.arg 0) (r.arg 1) with
    | none => refuse .badValue s
    | some v => (s, .done ([byteAt r.args 0, byteAt r.args 1, codeByte (flag s.setup.dirty)] ++ v))

/-! ### Commands -/

/-- IDENTIFY (R192). -/
def execIdentify (s : State) : Host.Outcome State Fault Refusal :=
  .next (conclude s (serve 0x01 (sized 0 (reads identifyData)) s))

/-- READ_STATUS (R192). -/
def execReadStatus (s : State) : Host.Outcome State Fault Refusal :=
  .next (conclude s (serve 0x02 (readsPart 1 statusData) s))

/-- READ_FAULTS (R193). -/
def execReadFaults (s : State) : Host.Outcome State Fault Refusal :=
  .next (conclude s (serve 0x03 (sized 0 (reads faultsData)) s))

/-- READ_RESTORE (R193). -/
def execReadRestore (s : State) : Host.Outcome State Fault Refusal :=
  .next (conclude s (serve 0x04 (readsPart 3 restoreData) s))

/-- READ_HOMING (R193). -/
def execReadHoming (s : State) : Host.Outcome State Fault Refusal :=
  .next (conclude s (serve 0x05 (readsPart 2 homingData) s))

/-- READ_SWEEP (R194). -/
def execReadSweep (s : State) : Host.Outcome State Fault Refusal :=
  .next (conclude s (serve 0x06 (readsPart 5 sweepData) s))

/-- READ_PEER (R194). -/
def execReadPeer (s : State) : Host.Outcome State Fault Refusal := .next (conclude s (serve 0x07 readPeer s))

/-- CAL_READ (R104). -/
def execCalRead (s : State) : Host.Outcome State Fault Refusal := .next (conclude s (serve 0x08 calRead s))

/-- SETUP_READ (R107). -/
def execSetupRead (s : State) : Host.Outcome State Fault Refusal := .next (conclude s (serve 0x09 setupRead s))

/-- A code of the request table (R162). -/
def knownCode (n : Nat) : Bool := (decide (1 ≤ n) && decide (n ≤ 9)) || (decide (0x10 ≤ n) && decide (n ≤ 0x1E))

/-- A request of an unknown code: refused in every state and at every destination, the code echoed
(R163, R188). -/
def serveUnknown (s : State) : State :=
  match takeable s with
  | some r =>
    if knownCode r.code then s else appendReply (replyTo (popRequest s) r (.refused .unknownRequest) false) (popRequest s)
  | none => s

/-- UNKNOWN_REQUEST (R163). -/
def execUnknownRequest (s : State) : Host.Outcome State Fault Refusal := .next (conclude s (serveUnknown s))

end Sys2Proof.Machine
end

