-- ==== Sys2Proof/Machine/Operations.lean ====
section
/-! DEFINITION. The requests that act: faults, grant, homing, zero, restore choice, sweep, calibration and
setup writes, store, restart (R70, R78, R79, R96, R98, R100, R106, R109, R117, R120, R121, R168, R169,
R181, R195, R197). -/

namespace Sys2Proof.Machine

/-! ### Faults and grant -/

/-- CLEAR_FAULTS (R181). -/
def clearFaultsHandler : Handler := sized 0 fun _ s =>
  let s' := moveFaults (clearFaults s.faults) s
  (s', .done (bytesOf 2 s'.faults.active.toNat))

/-- Whether the node is in RESTORING, in any substate. -/
def State.inRestoring (s : State) : Bool :=
  match s.node.state with
  | .restoring _ => true
  | _ => false

/-- The gate's answer after a grant request: the permission judged, then the gate byte (R168, R189). -/
def answerGate (s0 s : State) : State × Verdict :=
  let s' := judgeGate s0 s
  (s', .done [gateByte s'.gate])

/-- A grant: with the RDY level LOW both stay no, with HIGH the grant is yes and jog as carried (R168). -/
def takeGrant (jog : Bool) (g : MotionGate) : MotionGate :=
  match g.rdyLevel with
  | .low => { g with grant := false, jog := false }
  | .high => { g with grant := true, jog := jog }

/-- RELEASE_GRANT (R168, R195). -/
def releaseGrant : Handler := fun r s =>
  if s.inRestoring then refuse .wrongState s
  else if r.args.length ≠ 1 ∨ 1 < r.arg 0 then refuse .badValue s
  else answerGate s (s.setGate (takeGrant (r.arg 0 == 1) s.gate))

/-- RELEASE_WITHDRAW (R169, R195). -/
def releaseWithdraw : Handler := fun r s =>
  if s.inRestoring then refuse .wrongState s
  else if r.args.length ≠ 0 then refuse .badValue s
  else answerGate s (s.setGate { s.gate with grant := false, jog := false })

/-! ### Homing -/

/-- The homing record of an acceptance (R77). -/
def acceptedHoming (mode : HomingMode) (before : StateBefore) (c : CalRecord) : HomingRecord :=
  { HomingRecord.start with mode := mode, before := some before, latch := some ⟨c.thetaH, c.approach, c.guardMin⟩ }

/-- The state before of an acceptance. -/
def State.before (s : State) : StateBefore :=
  if s.node.state = .referenced then .referenced else .unreferenced

/-- HOMING entered at WAIT_PEERS with drift run 0, and the wait set tested at once (R21, R78, R80). -/
def enterHoming (mode : HomingMode) (s : State) : State :=
  let s1 := (s.setHoming (acceptedHoming mode s.before s.cal.data)).setHomingOp HomingOp.start
  testWaitSet ((moveNode { s1.node with state := .homing .waitPeers } s1).setPos { s1.pos with driftRun := 0 })

/-- Whether the node is in HOMING or CALIBRATING. -/
def State.operating (s : State) : Bool := s.inHoming || s.node.state == .calibrating

/-- HOME_ARM (R78). -/
def homeArm : Handler := fun r s =>
  if s.operating then refuse .busy s
  else if s.inRestoring then refuse .wrongState s
  else if r.args.length ≠ 0 then refuse .badValue s
  else if !s.cal.valid then refuse .noCal s
  else if !s.cal.data.learned then refuse .notLearned s
  else (enterHoming .home s, .accepted)

/-- HOME_LEARN (R79). -/
def homeLearn : Handler := fun r s =>
  if s.operating then refuse .busy s
  else if s.node.state ≠ .referenced then refuse .wrongState s
  else if r.args.length ≠ 0 then refuse .badValue s
  else (enterHoming .learn s, .accepted)

/-- HOME_ABORT (R96). -/
def homeAbort : Handler := fun r s =>
  if !s.inHoming then refuse .wrongState s
  else if r.args.length ≠ 0 then refuse .badValue s
  else (endHoming .aborted .none s, .done [])

/-! ### ZERO_HERE and ACCEPT_RESTORE -/

/-- Whether a coupled node's source is not absolute, as last matched, or its coupling is lost (R70,
R98, R138). -/
def State.sourceNotAbsolute (s : State) : Bool :=
  s.coupled && (s.coupling.lastAbsolute != some true || s.active .couplingLost)

/-- Z and Zg of the last coarse evaluation (R98); E is the one formed there, also after a later move of P
by whole turns. Log 42. -/
def zeroedCal (u : PositionUnit) (c : CalRecord) : CalRecord :=
  { c with z := home32 u.lastE, zg := BitVec.ofInt 16 (u.gq.toNat + roundDiv u.lastSj 16) }

/-- The effect of ZERO_HERE (R98). -/
def zeroEffect (s : State) : State :=
  let s1 := setAbsolute (markCal (s.setCal { s.cal with data := zeroedCal s.pos s.cal.data }))
  enterReferenced (s1.setNode { s1.node with basis := .manual, confirmed := false })

/-- ZERO_HERE (R98). -/
def zeroHere : Handler := fun r s =>
  if s.inRestoring || s.operating then refuse .wrongState s
  else if r.args.length ≠ 0 then refuse .badValue s
  else if !s.cal.valid then refuse .noCal s
  else if s.sourceNotAbsolute then refuse .sourceNotAbsolute s
  else if !s.pos.evaluated || !s.pos.usable then refuse .notReady s
  else
    let s' := zeroEffect s
    (s', .done (bytesOf 4 s'.cal.data.z ++ bytesOf 2 s'.cal.data.zg.toNat))

/-- P with the chosen side's turn number at the decide epoch, the motion since kept (R70). -/
def chosenCount (c : ConflictRecord) (retainedSide : Bool) (p : Int) : Int :=
  p + ((if retainedSide then c.retainedSide else c.vernierSide) - c.decideTurn) * 16384

/-- The effect of ACCEPT_RESTORE (R70). -/
def acceptEffect (p : Int) (s : State) : State :=
  let s1 := resolveConflict (setAbsolute (s.setPos { s.pos with p := p }))
  enterReferenced (s1.setNode { s1.node with basis := .chosen })

/-- The choice byte: 1 RETAINED, 2 VERNIER (R162). -/
def choiceOk (r : Request) : Bool := r.args.length == 1 && (r.arg 0 == 1 || r.arg 0 == 2)

/-- ACCEPT_RESTORE (R70); the J of its reply: log 35. -/
def acceptRestore : Handler := fun r s =>
  if s.node.state ≠ .unreferenced then refuse .wrongState s
  else
    match s.node.conflict with
    | none => refuse .noConflict s
    | some c =>
      let p := chosenCount c (r.arg 0 == 1) s.pos.p
      if s.sourceNotAbsolute then refuse .sourceNotAbsolute s
      else if !choiceOk r || !inRange turnMin turnMax (turnOf p) then refuse .badValue s
      else
        let s' := acceptEffect p s
        (s', .done (bytesOf 4 s'.pos.p ++ bytesOf 4 s'.pos.j))

/-! ### Sweep -/

/-- SWEEP_START accepted: the record cleared with outcome RUNNING; the epoch in progress is not
considered (R117). -/
def beginSweep (s : State) : State :=
  ((moveNode { s.node with state := .calibrating } (s.setSweep { SweepRecord.start with outcome := .running })).setPos
    { s.pos with driftRun := 0 }).setWork { s.work with considered := false }

/-- SWEEP_START (R117). -/
def sweepStart : Handler := fun r s =>
  if s.operating then refuse .busy s
  else if s.node.state ≠ .referenced then refuse .wrongState s
  else if r.args.length ≠ 0 then refuse .badValue s
  else (beginSweep s, .accepted)

/-- The working tables of a SWEEP_END: the calibration and the two masks. -/
structure SweepEnd where
  data : CalRecord
  updated : BinMask
  clamped : BinMask
deriving DecidableEq, Repr

/-- One bin of a SWEEP_END (R120). -/
def endBin (w : SweepRecord) (least : Nat) (x : SweepEnd) (b : Nat) : SweepEnd :=
  let n := w.counts.toList.getD b 0
  if least ≤ n then
    let mean := roundDiv (w.sums.toList.getD b 0) n
    { data := { x.data with corr := x.data.corr.setIfInBounds b (clampInt (-2048) 2047 mean),
                            coverage := binMark x.data.coverage b }
      updated := binMark x.updated b
      clamped := if clampInt (-2048) 2047 mean = mean then x.clamped else binMark x.clamped b }
  else x

/-- All bins of a SWEEP_END, from masks of no bin (R116, R120). -/
def endBins (w : SweepRecord) (least : Nat) (c : CalRecord) : SweepEnd :=
  (List.range 32).foldl (endBin w least) ⟨c, 0, 0⟩

/-- The effect of SWEEP_END (R120). -/
def endSweep (s : State) : State :=
  let x := endBins s.sweep s.setup.latched.sweepMin s.cal.data
  let s1 := s.setSweep { s.sweep with outcome := .ended, updated := x.updated, clamped := x.clamped }
  let s2 := if x.updated = 0 then s1 else markCal (s1.setCal { s1.cal with data := x.data })
  enterReferenced s2

/-- SWEEP_END (R120). -/
def sweepEnd : Handler := fun r s =>
  if s.node.state ≠ .calibrating then refuse .wrongState s
  else if r.args.length ≠ 0 then refuse .badValue s
  else
    let s' := endSweep s
    (s', .done (bytesOf 4 s'.sweep.updated.toNat ++ bytesOf 4 s'.sweep.clamped.toNat))

/-- SWEEP_ABORT (R121). -/
def sweepAbort : Handler := fun r s =>
  if s.node.state ≠ .calibrating then refuse .wrongState s
  else if r.args.length ≠ 0 then refuse .badValue s
  else (enterReferenced (dropSweep .aborted s), .done [])

/-! ### CAL_WRITE and SETUP_WRITE -/

/-- The answer of an accepted write: the two bytes of the field, the value as stored (R100, R106). -/
def writtenVerdict (r : Request) (clamped : Bool) (stored : Option (List Byte)) : Verdict :=
  let data := [byteAt r.args 0, byteAt r.args 1] ++ stored.getD []
  if clamped then .clamped data else .done data

/-- The play after an accepted write of L_m, field 06h, whatever the value (R11, R102). Log 16. -/
def playAfterWrite (id : Nat) (s : State) : State := if id = 0x06 then s.setPos (playUnknown s.cal.h s.pos) else s

/-- An accepted CAL_WRITE of field `id` (R100, R102, R112). -/
def storeCalField (id : Nat) (c : CalRecord) (s : State) : State :=
  playAfterWrite id (markCal (s.setCal { s.cal with data := c }))

/-- The form of a CAL_WRITE: a writable field, its value's size, an index of 0..31 for field 05h (R100,
R163). -/
def calWriteForm (r : Request) : Bool :=
  decide (2 ≤ r.args.length) && (calValueSize (r.arg 0)).any (fun n => r.args.length == n + 2) &&
  (r.arg 0 != 0x05 || decide (r.arg 1 ≤ 31))

/-- CAL_WRITE (R100, R101). The form is checked at the first of R100's two BAD_VALUE rows: log 43. -/
def calWrite : Handler := fun r s =>
  if s.inRestoring then refuse .wrongState s
  else if !calWriteForm r then refuse .badValue s
  else if calMechanical (r.arg 0) && s.node.state != .unreferenced then refuse .wrongState s
  else
    match calFieldWrite s.cal.data (r.arg 0) (r.arg 1) (r.args.drop 2) with
    | .refused => refuse .badValue s
    | .stored c clamped => (storeCalField (r.arg 0) c s, writtenVerdict r clamped (calFieldBytes c (r.arg 0) (r.arg 1)))

/-- An accepted SETUP_WRITE: the image only, its dirty flag, and the marker while a write of SETUP runs
(R106, R112, R114). -/
def storeSetupField (image : Setup) (s : State) : State :=
  let s' := s.setSetup { s.setup with image := image, dirty := true }
  if s.store.writing = some .setup then s'.setStore { s.store with setupMarked := true } else s'

/-- The form of a SETUP_WRITE: a known field and kind, its value's size (R106, R163). -/
def setupWriteForm (r : Request) (s : State) : Bool :=
  decide (2 ≤ r.args.length) && (setupFieldBytes s.setup.image (r.arg 0) (r.arg 1)).isSome &&
  setupSizeOk (r.arg 0) (r.args.length - 2)

/-- SETUP_WRITE (R106). -/
def setupWrite : Handler := fun r s =>
  if s.inRestoring then refuse .wrongState s
  else if !setupWriteForm r s then refuse .badValue s
  else
    match setupFieldWrite s.ownAddress s.setup.image (r.arg 0) (r.arg 1) (r.args.drop 2) with
    | .refused => refuse .badValue s
    | .stored image clamped =>
      (storeSetupField image s, writtenVerdict r clamped (setupFieldBytes image (r.arg 0) (r.arg 1)))

/-! ### STORE and RESTART -/

/-- A STORE accepted: the snapshot taken, the marker cleared, WRITING; the area is erased until its CRC
is written (R109, R110, R113). -/
def beginStore (t : StoreTarget) (s : State) : State :=
  match t with
  | .cal =>
    s.setStore { s.store with
      writing := some .cal, crcWritten := false, calSnapshot := s.cal.data, calMarked := false, calArea := .unwritten }
  | .setup =>
    s.setStore { s.store with
      writing := some .setup, crcWritten := false, setupSnapshot := s.setup.image, setupMarked := false, setupArea := .unwritten }

/-- The target byte: 1 CAL, 2 SETUP (R162). -/
def storeTarget (r : Request) : Option StoreTarget :=
  if r.args.length ≠ 1 then none else if r.arg 0 = 1 then some .cal else if r.arg 0 = 2 then some .setup else none

/-- Whether the ratio or the window of the working calibration is UNSET (R109). -/
def calUnset (c : CalRecord) : Bool := c.ratio.isNone || c.window.isNone

/-- STORE (R109). The form is checked at the first of R109's two BAD_VALUE rows: log 43. -/
def storeHandler : Handler := fun r s =>
  if s.inRestoring then refuse .wrongState s
  else
    match storeTarget r with
    | none => refuse .badValue s
    | some t =>
      if s.store.writing.isSome then refuse .storeBusy s
      else if t == .cal && calUnset s.cal.data then refuse .badValue s
      else (beginStore t s, .accepted)

/-- RESTART (R197). -/
def restartHandler : Handler := fun r s =>
  if r.args.length ≠ 0 then refuse .badValue s
  else if s.store.writing.isSome then refuse .storeBusy s
  else (s.setRestartPending true, .accepted)

/-! ### Commands -/

/-- CLEAR_FAULTS. -/
def execClearFaults (s : State) : Host.Outcome State Fault Refusal := .next (conclude s (serve 0x10 clearFaultsHandler s))

/-- RELEASE_GRANT. -/
def execReleaseGrant (s : State) : Host.Outcome State Fault Refusal := .next (conclude s (serve 0x11 releaseGrant s))

/-- RELEASE_WITHDRAW. -/
def execReleaseWithdraw (s : State) : Host.Outcome State Fault Refusal := .next (conclude s (serve 0x12 releaseWithdraw s))

/-- HOME_ARM. -/
def execHomeArm (s : State) : Host.Outcome State Fault Refusal := .next (conclude s (serve 0x13 homeArm s))

/-- HOME_LEARN. -/
def execHomeLearn (s : State) : Host.Outcome State Fault Refusal := .next (conclude s (serve 0x14 homeLearn s))

/-- HOME_ABORT. -/
def execHomeAbort (s : State) : Host.Outcome State Fault Refusal := .next (conclude s (serve 0x15 homeAbort s))

/-- ZERO_HERE. -/
def execZeroHere (s : State) : Host.Outcome State Fault Refusal := .next (conclude s (serve 0x16 zeroHere s))

/-- ACCEPT_RESTORE. -/
def execAcceptRestore (s : State) : Host.Outcome State Fault Refusal := .next (conclude s (serve 0x17 acceptRestore s))

/-- SWEEP_START. -/
def execSweepStart (s : State) : Host.Outcome State Fault Refusal := .next (conclude s (serve 0x18 sweepStart s))

/-- SWEEP_END. -/
def execSweepEnd (s : State) : Host.Outcome State Fault Refusal := .next (conclude s (serve 0x19 sweepEnd s))

/-- SWEEP_ABORT. -/
def execSweepAbort (s : State) : Host.Outcome State Fault Refusal := .next (conclude s (serve 0x1A sweepAbort s))

/-- CAL_WRITE. -/
def execCalWrite (s : State) : Host.Outcome State Fault Refusal := .next (conclude s (serve 0x1B calWrite s))

/-- SETUP_WRITE. -/
def execSetupWrite (s : State) : Host.Outcome State Fault Refusal := .next (conclude s (serve 0x1C setupWrite s))

/-- STORE. -/
def execStore (s : State) : Host.Outcome State Fault Refusal := .next (conclude s (serve 0x1D storeHandler s))

/-- RESTART. -/
def execRestart (s : State) : Host.Outcome State Fault Refusal := .next (conclude s (serve 0x1E restartHandler s))

end Sys2Proof.Machine
end

