-- ==== Sys2Proof/Machine/Dispatch.lean ====
section
/-! DEFINITION. One arm per command, each a direct call of its meaning. -/

namespace Sys2Proof.Machine

def exec (i : Instr) (s : State) : Host.Outcome State Fault Refusal :=
  match i with
  | .smpRisingEdge pins => Sys2Proof.Machine.execSmpRisingEdge pins s
  | .smpFallingEdge => Sys2Proof.Machine.execSmpFallingEdge s
  | .periodTimerExpiry => Sys2Proof.Machine.execPeriodTimerExpiry s
  | .holdExpiry => Sys2Proof.Machine.execHoldExpiry s
  | .sampleLineStuck pins => Sys2Proof.Machine.execSampleLineStuck pins s
  | .freePeriodExpiry pins => Sys2Proof.Machine.execFreePeriodExpiry pins s
  | .rejoinArmed => Sys2Proof.Machine.execRejoinArmed s
  | .syncedRun16 => Sys2Proof.Machine.execSyncedRun16 s
  | .alignmentTimeout => Sys2Proof.Machine.execAlignmentTimeout s
  | .realignment => Sys2Proof.Machine.execRealignment s
  | .encoderReadComplete word => Sys2Proof.Machine.execEncoderReadComplete word s
  | .encoderReadTimeout port ack => Sys2Proof.Machine.execEncoderReadTimeout port ack s
  | .motorFailureRun3 => Sys2Proof.Machine.execMotorFailureRun3 s
  | .motorGoodRun8 => Sys2Proof.Machine.execMotorGoodRun8 s
  | .coarseFailureRun3 => Sys2Proof.Machine.execCoarseFailureRun3 s
  | .coarseGoodRun8 => Sys2Proof.Machine.execCoarseGoodRun8 s
  | .portPresenceTimeout port => Sys2Proof.Machine.execPortPresenceTimeout port s
  | .driftRun3 => Sys2Proof.Machine.execDriftRun3 s
  | .couplingLost => Sys2Proof.Machine.execCouplingLost s
  | .peerAbsent address => Sys2Proof.Machine.execPeerAbsent address s
  | .quietRun64 => Sys2Proof.Machine.execQuietRun64 s
  | .retainEntry cause vbakLow => Sys2Proof.Machine.execRetainEntry cause vbakLow s
  | .trackerReadStart => Sys2Proof.Machine.execTrackerReadStart s
  | .trackerReadGood word => Sys2Proof.Machine.execTrackerReadGood word s
  | .trackerReadFailed ending => Sys2Proof.Machine.execTrackerReadFailed ending s
  | .trackerUnchanged64 => Sys2Proof.Machine.execTrackerUnchanged64 s
  | .trackerFailedRun3 => Sys2Proof.Machine.execTrackerFailedRun3 s
  | .backupCollapse vmainGood => Sys2Proof.Machine.execBackupCollapse vmainGood s
  | .restartDwellExpiry => Sys2Proof.Machine.execRestartDwellExpiry s
  | .retainExit straps => Sys2Proof.Machine.execRetainExit straps s
  | .offReturn how => Sys2Proof.Machine.execOffReturn how s
  | .storeLoadComplete => Sys2Proof.Machine.execStoreLoadComplete s
  | .selfCheckReadback setupMatch calMatch => Sys2Proof.Machine.execSelfCheckReadback setupMatch calMatch s
  | .backupLowRaise => Sys2Proof.Machine.execBackupLowRaise s
  | .backupLowClear => Sys2Proof.Machine.execBackupLowClear s
  | .linkJoin => Sys2Proof.Machine.execLinkJoin s
  | .frameTxStart => Sys2Proof.Machine.execFrameTxStart s
  | .arbitrationLost sent => Sys2Proof.Machine.execArbitrationLost s sent
  | .bitError vbakLow sent => Sys2Proof.Machine.execBitError s vbakLow sent
  | .frameTxComplete vbakLow => Sys2Proof.Machine.execFrameTxComplete s vbakLow
  | .frameReceived bits => Sys2Proof.Machine.execFrameReceived bits s
  | .frameDiscard bits vbakLow => Sys2Proof.Machine.execFrameDiscard bits s vbakLow
  | .intactCount32 => Sys2Proof.Machine.execIntactCount32 s
  | .linkRejoin => Sys2Proof.Machine.execLinkRejoin s
  | .lineStuck => Sys2Proof.Machine.execLineStuck s
  | .beacon => Sys2Proof.Machine.execBeacon s
  | .retryTimerExpiry => Sys2Proof.Machine.execRetryTimerExpiry s
  | .rdyLevelLow => Sys2Proof.Machine.execRdyLevelLow s
  | .rdyLevelHigh => Sys2Proof.Machine.execRdyLevelHigh s
  | .settleExpiry => Sys2Proof.Machine.execSettleExpiry s
  | .biteExpiry => Sys2Proof.Machine.execBiteExpiry s
  | .storeVerify found => Sys2Proof.Machine.execStoreVerify found s
  | .identify => Sys2Proof.Machine.execIdentify s
  | .readStatus => Sys2Proof.Machine.execReadStatus s
  | .readFaults => Sys2Proof.Machine.execReadFaults s
  | .readRestore => Sys2Proof.Machine.execReadRestore s
  | .readHoming => Sys2Proof.Machine.execReadHoming s
  | .readSweep => Sys2Proof.Machine.execReadSweep s
  | .readPeer => Sys2Proof.Machine.execReadPeer s
  | .calRead => Sys2Proof.Machine.execCalRead s
  | .setupRead => Sys2Proof.Machine.execSetupRead s
  | .clearFaults => Sys2Proof.Machine.execClearFaults s
  | .releaseGrant => Sys2Proof.Machine.execReleaseGrant s
  | .releaseWithdraw => Sys2Proof.Machine.execReleaseWithdraw s
  | .homeArm => Sys2Proof.Machine.execHomeArm s
  | .homeLearn => Sys2Proof.Machine.execHomeLearn s
  | .homeAbort => Sys2Proof.Machine.execHomeAbort s
  | .zeroHere => Sys2Proof.Machine.execZeroHere s
  | .acceptRestore => Sys2Proof.Machine.execAcceptRestore s
  | .sweepStart => Sys2Proof.Machine.execSweepStart s
  | .sweepEnd => Sys2Proof.Machine.execSweepEnd s
  | .sweepAbort => Sys2Proof.Machine.execSweepAbort s
  | .calWrite => Sys2Proof.Machine.execCalWrite s
  | .setupWrite => Sys2Proof.Machine.execSetupWrite s
  | .store => Sys2Proof.Machine.execStore s
  | .restart => Sys2Proof.Machine.execRestart s
  | .unknownRequest => Sys2Proof.Machine.execUnknownRequest s
  | .lineIdle => Sys2Proof.Machine.execLineIdle s
  | .lossOfVmainInRetain vbakLow => Sys2Proof.Machine.execLossOfVmainInRetain vbakLow s
  | .retentionStateLoss => Sys2Proof.Machine.execRetentionStateLoss s
  | .storeCrcWritten => Sys2Proof.Machine.execStoreCrcWritten s

end Sys2Proof.Machine
end

