-- ==== Sys2Proof/Safety.lean ====
section
/-! DEFINITION. The vocabulary of the statements: what it means for a command to complete, how an event
settles, what an accepted request leaves, and the invariants that every step keeps. -/

namespace Sys2Proof.Machine

/-- A command completes in a state when `exec` answers a next state. -/
def Completes (c : Instr) (s : State) : Prop := ∃ t, exec c s = .next t

/-- A property that every step keeps. -/
def StepKeeps (inv : State → Prop) : Prop := ∀ s t, inv s → step s = .next t → inv t

/-- The request code of a command that is the execution of a request (R162). -/
def requestCode : Instr → Option Nat
  | .identify => some 0x01
  | .readStatus => some 0x02
  | .readFaults => some 0x03
  | .readRestore => some 0x04
  | .readHoming => some 0x05
  | .readSweep => some 0x06
  | .readPeer => some 0x07
  | .calRead => some 0x08
  | .setupRead => some 0x09
  | .clearFaults => some 0x10
  | .releaseGrant => some 0x11
  | .releaseWithdraw => some 0x12
  | .homeArm => some 0x13
  | .homeLearn => some 0x14
  | .homeAbort => some 0x15
  | .zeroHere => some 0x16
  | .acceptRestore => some 0x17
  | .sweepStart => some 0x18
  | .sweepEnd => some 0x19
  | .sweepAbort => some 0x1A
  | .calWrite => some 0x1B
  | .setupWrite => some 0x1C
  | .store => some 0x1D
  | .restart => some 0x1E
  | _ => none

/-- The bits on the line reach the node: it receives, or it watches the line without a frame of its own on
it (R145, R148, R156). -/
def HearsLine (s : State) : Prop := s.link.receiving = true ∨ (s.link.watching = true ∧ s.link.tx = none)

/-- Whether the event of a command can occur in a state: its timer runs, its read is in progress, its
count stands at its mark, its request waits at the head of the queue. A command whose event cannot occur
is no event and changes nothing: the model's choice, log 1. The two edges of SMP and the fall of VBAK
always occur, since each reports a level. -/
def Occurs (c : Instr) (s : State) : Prop :=
  match c with
  | .smpRisingEdge _ => True
  | .smpFallingEdge => True
  | .periodTimerExpiry => s.epoch.running = true ∧ s.epoch.answers = true ∧ s.epoch.timer = .running
  | .holdExpiry => s.epoch.running = true ∧ s.epoch.holding = true
  | .sampleLineStuck _ => s.epoch.running = true ∧ s.epoch.lowWatch = true ∧ s.epoch.answers = true
  | .freePeriodExpiry _ => s.epoch.running = true ∧ s.epoch.answers = false ∧ s.epoch.timer = .running
  | .rejoinArmed => s.epoch.running = true ∧ s.epoch.answers = false ∧ s.epoch.highWatch = true
  | .syncedRun16 => s.epoch.syncedRun = 16 ∧ s.active .sampleStuck = true
  | .alignmentTimeout => s.epoch.alignment = .aligning ∧ s.epoch.alignEdges = 64
  | .realignment => s.epoch.realignRun = 8
  | .encoderReadComplete (.motor ..) => s.enc.motor.reading = true
  | .encoderReadComplete (.coarse ..) => s.enc.coarse.reading = true
  | .encoderReadTimeout .motor _ => s.enc.motor.reading = true
  | .encoderReadTimeout .coarse _ => s.enc.coarse.reading = true
  | .motorFailureRun3 => s.enc.motor.failRun = 3 ∧ s.noted .motorEncoder = false
  | .motorGoodRun8 => s.enc.motor.goodRun = 8 ∧ s.active .motorEncoder = true
  | .coarseFailureRun3 => s.enc.coarse.failRun = 3 ∧ s.noted .coarseEncoder = false
  | .coarseGoodRun8 => s.enc.coarse.goodRun = 8 ∧ s.active .coarseEncoder = true
  | .portPresenceTimeout .motor => s.epoch.instants = 16 ∧ s.selfCheck.motorPort = .pending
  | .portPresenceTimeout .coarse => s.epoch.instants = 16 ∧ s.selfCheck.coarsePort = .pending
  | .driftRun3 => s.pos.driftRun = 3
  | .couplingLost => s.coupled = true ∧ s.coupling.opened = true ∧ s.coupling.missCount = s.setup.latched.missLimit ∧
      s.active .couplingLost = false
  | .peerAbsent a => ∃ e, s.peers.entry? a = some e ∧ e.absent = false ∧ s.setup.latched.peerTimeout < e.age
  | .quietRun64 => s.peers.quietRun = some 64 ∧ s.active .addressClash = true
  | .retainEntry _ _ => s.mainUp = true
  | .trackerReadStart => s.node.state = .retain ∧ s.ret.tracker.running = true ∧ s.ret.tracker.reading = false
  | .trackerReadGood word => s.node.state = .retain ∧ s.ret.tracker.reading = true ∧ trackerEnding word = .good
  | .trackerReadFailed ending => s.node.state = .retain ∧ s.ret.tracker.reading = true ∧ trackerFails ending = true
  | .trackerUnchanged64 => s.node.state = .retain ∧ s.ret.tracker.unchangedRun = 64
  | .trackerFailedRun3 => s.node.state = .retain ∧ s.ret.tracker.failedRun = 3 ∧ s.ret.record.validity = .valid
  | .backupCollapse _ => True
  | .restartDwellExpiry => s.node.state = .retain
  | .retainExit _ => s.node.state = .retain ∧ s.ret.dwellMet = true
  | .offReturn _ => s.node.state = .off
  | .storeLoadComplete => s.node.state = .startup ∧ strapsValid s.straps = true ∧ s.epoch.running = false
  | .selfCheckReadback _ _ => s.node.state = .startup ∧ s.epoch.running = true ∧ s.link.watching = false
  | .backupLowRaise => s.epoch.running = true
  | .backupLowClear => s.epoch.running = true
  | .linkJoin => s.link.watching = true ∧ s.link.joined = false
  | .frameTxStart => s.link.mayBegin = true ∧ s.link.nextFrame.isSome = true
  | .arbitrationLost sent => ∃ x, s.link.tx = some x ∧ sent ≤ 8 ∧ x.bits.getD sent false = true
  | .bitError _ sent => ∃ x, s.link.tx = some x ∧ sent < x.bits.length ∧ (9 ≤ sent ∨ x.bits.getD sent true = false)
  | .frameTxComplete _ => s.link.tx.isSome = true
  | .frameReceived bits => HearsLine s ∧ ∃ f, receive bits = .intact f
  | .frameDiscard bits _ => HearsLine s ∧ ∃ why, receive bits = .discard why
  | .intactCount32 => s.link.intact = 32
  | .linkRejoin => s.link.detached = true ∧ 64 ≤ s.link.idlePeriods
  | .lineStuck => s.link.watching = true
  | .beacon => s.setup.latched.beacon ≤ s.link.beaconCount ∧ s.link.placing = true
  | .retryTimerExpiry => s.faults.retryTimer = .running
  | .rdyLevelLow => s.mainUp = true ∧ s.gate.rdyLevel = .high
  | .rdyLevelHigh => s.mainUp = true ∧ s.gate.rdyLevel = .low ∧ s.rdyHeld = false
  | .settleExpiry => s.gate.state = .enabling ∧ s.permission = true
  | .biteExpiry => s.gate.state = .engaging
  | .storeVerify found => s.store.crcWritten = true ∧
      ((s.store.writing = some .cal ∧ ∀ a, found ≠ .setup a) ∨ (s.store.writing = some .setup ∧ ∀ a, found ≠ .cal a))
  | .unknownRequest => ∃ r, takeable s = some r ∧ knownCode r.code = false
  | .lineIdle => s.link.joined = true
  | .lossOfVmainInRetain _ => s.node.state = .retain
  | .retentionStateLoss => s.node.state = .off
  | .storeCrcWritten => s.store.writing.isSome = true ∧ s.store.crcWritten = false
  | _ => ∃ r, takeable s = some r ∧ requestCode c = some r.code

/-! ### How an event settles -/

/-- The mirror after an event that began at s0 and whose own effects left s (R43, R44). -/
def mirrorAfter (s0 s : State) : TurnMirror :=
  if s.mainUp = true ∧ s.ret.mirror.held = false ∧
      (s0.ret.mirror.held = true ∨ mirrorView false s0.pos ≠ mirrorView false s.pos) then mirrorView false s.pos
  else s.ret.mirror

/-- The gate after a change that found s0 and left s: the permission judged, and acted on where it has
changed (R166, R170, R171). -/
def gateAfter (s0 s : State) : MotionGate := if s0.permission = s.permission then s.gate else gateOn s.permission s.gate

/-- `t` is the state an event that began at s0 ends in, when its own effects left s: s but for the turn
mirror, the gate, and the STATUS slot with the beacon count, each as its rule gives (R43, R151, R166). -/
structure Settles (s0 s t : State) : Prop where
  rest : t = { s with
    ret := { s.ret with mirror := t.ret.mirror }
    gate := t.gate
    link := { s.link with statusSlot := t.link.statusSlot, beaconCount := t.link.beaconCount } }
  mirror : t.ret.mirror = mirrorAfter s0 s
  gate : t.gate = gateAfter s0 s
  placed : s0.statusTriggers ≠ t.statusTriggers → s.link.placing = true →
    t.link.statusSlot = some (t.ownFrame kindStatus t.statusPayload) ∧ t.link.beaconCount = 0
  kept : s0.statusTriggers = t.statusTriggers ∨ s.link.placing = false →
    t.link.statusSlot = s.link.statusSlot ∧ t.link.beaconCount = s.link.beaconCount

/-! ### Requests -/

/-- The handler may take request r, the head of the queue, with `rest` behind it (R187). -/
structure Waiting (s : State) (r : Request) (rest : List Request) : Prop where
  up : s.mainUp = true
  free : s.restartPending = false
  room : s.link.replies.length < 4
  head : s.link.requests = r :: rest

/-- A request that no step of R188 before its own rule refuses: the node is not in STARTUP, and the
request was not sent to 15 where that is not allowed. -/
structure Judged (s : State) (r : Request) : Prop where
  running : s.node.state ≠ .startup
  single : singleNode r.code = true → r.broadcast = false

/-- The state with request r taken off its queue and its answer at the tail of the REPLY queue (R153,
R187, R189). -/
def answered (s : State) (r : Request) (rest : List Request) (v : Verdict) (restart : Bool := false) : State :=
  { s with link := { s.link with
      requests := rest
      replies := s.link.replies ++
        [⟨⟨kindReply, s.straps.address, r.source, byteAt r.payload 0 :: resultByte v :: verdictData v⟩, restart, false⟩] } }

/-! ### Invariants -/

/-- The gate stands as its permission allows: no permission in APPLIED, and the permission in ENABLING
and RELEASED (R166, R170, R171). -/
def GateFollowsPermission (s : State) : Prop :=
  (s.gate.state = .applied → s.permission = false) ∧
  (s.gate.state = .enabling ∨ s.gate.state = .released → s.permission = true)

/-- P is of the form T·16384 + θ_lastgood with T in its range (R1). -/
def CountFormed (s : State) : Prop :=
  s.pos.p % 16384 = (s.pos.thetaLast.toNat : Int) ∧ -536870912 ≤ s.pos.p ∧ s.pos.p ≤ 536870911

/-- What holds until the Epoch Unit has begun work (R59, R99): the node is not past STARTUP, the
calibration is invalid, no store write and no read runs. -/
def NothingBegun (s : State) : Prop :=
  s.epoch.running = false →
    (s.node.state = .startup ∨ s.node.state = .retain ∨ s.node.state = .off) ∧ s.cal.valid = false ∧
    s.store.writing = none ∧ s.enc.motor.reading = false ∧ s.enc.coarse.reading = false

/-- The play stays within −h..+h (R10). -/
def PlayBounded (s : State) : Prop := |s.pos.s| ≤ s.cal.h ∧ NothingBegun s

/-- The counters and queues of the Link Controller within their ranges, and a DETACHED node silent
(R140, R152, R154, R155). -/
structure LinkBounded (s : State) : Prop where
  health : s.link.health ≤ 224
  intact : s.link.intact < 32
  replies : s.link.replies.length ≤ 4
  requests : s.link.requests.length ≤ 4
  idle : s.link.idlePeriods ≤ 64
  beacon : s.link.beaconCount ≤ 1024
  requestOverrun : s.link.requestOverrun ≤ 255
  publishOverrun : s.link.publishOverrun ≤ 255
  stuckCount : s.link.stuckCount ≤ 255
  silent : s.link.health = 224 → s.link.positionSlot = none ∧ s.link.statusSlot = none ∧ s.link.tx = none ∧
    s.link.replies = [] ∧ s.link.requests = []

/-- The image and the latched setup obey the ranges and rules of R105. -/
def SetupObeysRules (s : State) : Prop :=
  setupRecordOk s.straps.address s.setup.image = true ∧ setupRecordOk s.straps.address s.setup.latched = true

/-- While the main domain is down, stopped by the RETAIN entry (R45), the model holds its records at the
start values that the next start gives them (log 31). -/
def MainIsStopped (s : State) : Prop :=
  s.mainUp = false →
    s.epoch = EpochUnit.start ∧ s.enc = EncoderInterface.start ∧ s.pos = PositionUnit.start ∧ s.work = EpochWork.start ∧
    s.coupling = CouplingRecord.start ∧ s.peers = PeerTable.start [] ∧ s.homing = HomingRecord.start ∧
    s.sweep = SweepRecord.start ∧ s.cal = WorkingCal.start ∧ s.setup = SetupCopies.start ∧ s.store.writing = none ∧
    s.link = LinkController.start ∧ s.faults = FaultSupervisor.start ∧ s.gate = MotionGate.start ∧ s.restartPending = false

/-- A record whose every field is in range, the ratio and the window where they are set (R100). -/
def calInRange (c : CalRecord) : Prop :=
  calRecordOk { c with ratio := some (c.ratio.getD ⟨16, 1⟩), window := some (c.window.getD ⟨0, 1⟩) } = true

/-- The working calibration within its ranges, with ratio and window set while it is valid and while a
write of it runs (R99, R100, R109); no write runs before the load. -/
structure CalibrationInRange (s : State) : Prop where
  begun : NothingBegun s
  ranges : calInRange s.cal.data
  valid : s.cal.valid = true → s.cal.data.ratio.isSome = true ∧ s.cal.data.window.isSome = true
  writing : s.store.writing = some .cal → s.cal.data.ratio.isSome = true ∧ s.cal.data.window.isSome = true

/-- The turn mirror carries the Position Unit's values while the main domain runs and the mirror is not
held (R43). -/
def MirrorFollowsCount (s : State) : Prop :=
  s.mainUp = true → s.ret.mirror.held = false → s.ret.mirror = mirrorView false s.pos

/-- The Peer Table has one entry per member of the latched setup, in its order (R122). -/
def EntriesAreMembers (s : State) : Prop := s.peers.entries.map PeerEntry.address = s.setup.latched.members

/-- The counters outside the link within the ranges their tables give (R1, R23, R36 to R38, R46, R48,
R116, R122, R128, R130, R174). -/
structure CountersInRange (s : State) : Prop where
  failedRun : s.pos.failedRun ≤ 255
  driftRun : s.pos.driftRun ≤ 2
  motorRuns : s.enc.motor.failRun ≤ 255 ∧ s.enc.motor.goodRun ≤ 255
  coarseRuns : s.enc.coarse.failRun ≤ 255 ∧ s.enc.coarse.goodRun ≤ 255
  syncedRun : s.epoch.syncedRun ≤ 16
  alignEdges : s.epoch.alignEdges ≤ 64
  realignRun : s.epoch.realignRun ≤ 7
  realignCount : s.epoch.realignCount ≤ 255
  missCount : s.coupling.missCount ≤ 255
  ages : ∀ e ∈ s.peers.entries, e.age ≤ 255
  quietRun : ∀ n, s.peers.quietRun = some n → n ≤ 64
  tracker : s.ret.tracker.unchangedRun ≤ 64 ∧ s.ret.tracker.failedRun ≤ 3
  reentries : s.ret.record.reentries ≤ 255
  bins : ∀ n ∈ s.sweep.counts.toList, n ≤ 255
  skipped : s.sweep.skipped ≤ 65535 ∧ s.sweep.overflow ≤ 65535
  haltCount : s.faults.haltCount ≤ 255

end Sys2Proof.Machine
end

