-- ==== Sys2Proof/Certificates/Slice0/Obligations.lean ====
section
/-! DEFINITION. The statements for the provers, one per obligation of OBLIGATIONS.json. -/

open Sys2Proof Sys2Proof.Machine

/-! ### The machine -/

/-- One step takes the command at the front of the queue and runs it on the state with the queue's
rest; with nothing waiting the block idles (the model's choice, log 3). -/
def Obligations.StepRunsTheFrontCommand : Prop :=
  (∀ (c : Instr) (s : State) (rest : List Instr), s.pending = c :: rest → step s = exec c { s with pending := rest }) ∧
  ∀ s : State, s.pending = [] → step s = .next s

/-- Every command of every state completes, and none touches the queue of commands. One whose event
cannot occur in the state is no event and leaves the state as it was (the model's choice, log 1); an
edge of SMP while the Epoch Unit does not run and a fall of VBAK outside RETAIN report their level
and do nothing else (log 9). -/
def Obligations.EveryCommandCompletes : Prop :=
  (∀ (c : Instr) (s : State), ∃ t, exec c s = .next t ∧ t.pending = s.pending) ∧
  (∀ (c : Instr) (s : State), ¬Occurs c s → exec c s = .next s) ∧
  (∀ (i : SampleInputs) (s : State), s.epoch.running = false →
    exec (.smpRisingEdge i) s = .next { s with pins := { s.pins with smpHigh := true } } ∧
    exec .smpFallingEdge s = .next { s with pins := { s.pins with smpHigh := false } }) ∧
  ∀ (vmain : Bool) (s : State), s.node.state ≠ .retain →
    exec (.backupCollapse vmain) s = .next { s with pins := { s.pins with vbakLow := true } }

/-- The values the spec gives each record at a start, as the state after reset holds them. (A cold
start: the model's reading of reset, log 5.) The state after reset meets every invariant stated
below. -/
def Obligations.ResetStateAndInvariants : Prop :=
  (let s := State.reset
   s.node.state = .startup ∧ s.node.phase = .initial ∧ s.node.basis = .none ∧ s.node.confirmed = false ∧
   s.node.reason = .none ∧ s.node.continuity = true ∧ s.node.conflict = none ∧ s.node.trusted = false ∧
   s.node.report.kind = .cold ∧ s.node.report.decision = .pending ∧
   s.pos.abs = false ∧ s.pos.deltaLast = 0 ∧ s.pos.failedRun = 0 ∧ s.pos.s = 0 ∧ s.pos.acc = 0 ∧ s.pos.lastDir = .none ∧
   s.pos.j = 0 ∧ s.pos.driftRun = 0 ∧
   s.epoch.count = 0 ∧ s.epoch.sync = .synced ∧ s.epoch.rejoinArmed = false ∧ s.epoch.syncedRun = 0 ∧
   s.epoch.alignment = .aligning ∧ s.epoch.alignEdges = 0 ∧ s.epoch.realignRun = 0 ∧ s.epoch.realignCount = 0 ∧
   s.epoch.epochSynced = false ∧
   s.enc.motor.failRun = 0 ∧ s.enc.motor.goodRun = 0 ∧ s.enc.motor.lastCause = .none ∧
   s.enc.coarse.failRun = 0 ∧ s.enc.coarse.goodRun = 0 ∧ s.enc.coarse.lastCause = .none ∧
   s.ret.record.cause = .none ∧ s.ret.record.anchored = false ∧ s.ret.record.validity = .lost ∧ s.ret.record.reason = .cold ∧
   s.ret.record.tRet = 0 ∧ s.ret.record.qRet = 0 ∧ s.ret.mirror.held = true ∧ s.ret.mirror.abs = false ∧
   s.homing.mode = .home ∧ s.homing.outcome = .none ∧ s.homing.reason = .none ∧ s.sweep.outcome = .none ∧
   s.coupling.opened = false ∧ s.coupling.missCount = 0 ∧ s.coupling.lastAbsolute = none ∧
   s.peers.quietRun = none ∧ s.peers.anyAbsent = false ∧
   s.cal.dirty = false ∧ s.setup.dirty = false ∧ s.store.writing = none ∧ s.store.calOutcome = .none ∧ s.store.setupOutcome = .none ∧
   s.link.joined = false ∧ s.link.health = 0 ∧ s.link.intact = 0 ∧ s.link.positionSlot = none ∧ s.link.statusSlot = none ∧
   s.link.tx = none ∧ s.link.replies = [] ∧ s.link.requests = [] ∧ s.link.beaconCount = 0 ∧
   s.faults.active = 0 ∧ s.faults.latchedSet = 0 ∧ s.faults.first = none ∧ s.faults.last = none ∧
   s.faults.retryTimer = .stopped ∧ s.faults.haltCount = 0 ∧
   s.gate.state = .applied ∧ s.gate.grant = false ∧ s.gate.jog = false ∧ s.gate.rdyLevel = .low ∧ s.gate.travelSide = .inside ∧
   s.restartPending = false ∧ s.pending = []) ∧
  (let s := State.reset
   GateFollowsPermission s ∧ CountFormed s ∧ PlayBounded s ∧ LinkBounded s ∧ MainIsStopped s ∧ SetupObeysRules s ∧
   CalibrationInRange s ∧ MirrorFollowsCount s ∧ EntriesAreMembers s ∧ CountersInRange s)

/-! ### Frames and bytes -/

/-- A receiver reads from the bits of a frame exactly that frame, for every frame a station may
send. -/
def Obligations.ReceiveReadsWhatAFrameSends : Prop :=
  ∀ f : Frame, f.payload.length ≤ 14 → f.lengthOk = true → receive f.wire = .intact f

/-- The bits of a frame before its end field never hold 8 equal bits in a row; after the last of
them the end field follows, four recessive bits. The CRC of the manual, as a division of bits: each
bit shifts the register, and the polynomial is taken away when the bit and the register's highest
bit differ; a received CRC that differs is an error. -/
def Obligations.StuffingAndCrcOfFrames : Prop :=
  (∀ (f : Frame), ∃ region : List Bool, f.wire = region ++ [true, true, true, true] ∧
     ∀ (pre post : List Bool) (b : Bool), region ≠ pre ++ List.replicate 8 b ++ post) ∧
  ((∀ bs : List Byte, ∀ b : Byte, crc8 (bs ++ [b]) = (byteBits b).foldl crc8Bit (crc8 bs)) ∧ crc8 [] = 0xFF#8 ∧
   (∀ (c : BitVec 8) (b : Bool), crc8Bit c b = (c <<< 1) ^^^ (if c.getLsbD 7 = b then 0x00#8 else 0x07#8)) ∧
   (∀ f : Frame, f.payload.length ≤ 14 → ∀ wrong : Byte, wrong ≠ crc8 f.bytes →
     receive (insertBits true 0 (false :: bytesBits (f.bytes ++ [wrong])) ++ endField) = .discard .crc))

/-- Numbers read back from their bytes; every field of a POSITION and of a STATUS payload stands at
the byte and the bits its table gives it, and what an entry of the Peer Table keeps reads back as it
was sent. (A field of one byte is its number: log 17; the store target bit while IDLE: log 44.) -/
def Obligations.PayloadsReadBack : Prop :=
  (∀ x : Int, -2147483648 ≤ x → x ≤ 2147483647 → intOfBytes (bytesOf 4 x) = x) ∧
  (∀ x : Int, -32768 ≤ x → x ≤ 32767 → intOfBytes (bytesOf 2 x) = x) ∧
  (∀ x : Nat, x < 65536 → natOfBytes (bytesOf 2 x) = x) ∧
  (∀ (s : State) (joint : Joint) (trusted : Bool),
    let c := epochCount s.pos s.work.motor
    let bs := s.positionPayload joint trusted
    (-2147483648 ≤ c.1 ∧ c.1 ≤ 2147483647) → -2147483648 ≤ joint.j → joint.j ≤ 2147483647 →
    readPosition bs =
      { tag := s.epoch.count, synced := s.epoch.epochSynced, trusted := trusted, absolute := s.pos.abs
        extrapolated := c.2.2
        nodeState := BitVec.ofNat 3 (nodeStateCode s.node.state), basis := BitVec.ofNat 3 (basisCode s.node.basis)
        p := c.1, j := joint.j } ∧
    bs.length = 13 ∧ (byteAt bs 1).getLsbD 3 = joint.saturated ∧ (byteAt bs 1).getLsbD 2 = s.coupling.prevMissed ∧
    (byteAt bs 1).extractLsb' 0 2 = 0#2 ∧ (byteAt bs 2).extractLsb' 3 2 = BitVec.ofNat 2 (substateCode s.node.state) ∧
    (-32768 ≤ c.2.1 → c.2.1 ≤ 32767 → intOfBytes (bs.drop 11) = c.2.1)) ∧
  ∀ s : State,
    let bs := s.statusPayload
    let at_ := fun (i low width : Nat) => (byteAt bs i).extractLsb' low width
    let code := fun (width n : Nat) => BitVec.ofNat width n
    readStatusFields bs =
      { nodeState := code 3 (nodeStateCode s.node.state), basis := code 3 (basisCode s.node.basis)
        axis := s.straps.axis, faultClass := code 2 s.faultClass } ∧
    bs.length = 11 ∧
    at_ 0 3 2 = code 2 (substateCode s.node.state) ∧
    at_ 1 4 4 = code 4 (decisionCode s.node.report.decision) ∧ at_ 1 1 3 = code 3 (homingOutcomeCode s.homing.outcome) ∧
    (byteAt bs 1).getLsbD 0 = s.node.confirmed ∧
    at_ 2 6 2 = code 2 (gateStateCode s.gate.state) ∧ (byteAt bs 2).getLsbD 5 = s.gate.grant ∧
    (byteAt bs 2).getLsbD 4 = s.gate.jog ∧ at_ 2 2 2 = code 2 (healthStateCode (healthState s.link.health)) ∧
    natOfBytes ((bs.drop 3).take 2) = s.faults.active.toNat ∧
    at_ 5 5 3 = code 3 (unrefReasonCode s.node.reason) ∧ ((byteAt bs 5).getLsbD 4 = true ↔ s.epoch.sync = .synced) ∧
    ((byteAt bs 5).getLsbD 3 = true ↔ s.epoch.alignment = .aligned) ∧ (byteAt bs 5).getLsbD 2 = s.cal.dirty ∧
    (byteAt bs 5).getLsbD 1 = s.setup.dirty ∧ (byteAt bs 5).getLsbD 0 = s.cal.valid ∧
    ((byteAt bs 6).getLsbD 7 = true ↔ s.store.writing ≠ none) ∧
    ((byteAt bs 6).getLsbD 6 = true ↔ s.store.writing = some .setup) ∧
    at_ 6 4 2 = code 2 (storeOutcomeCode s.store.calOutcome) ∧ at_ 6 2 2 = code 2 (storeOutcomeCode s.store.setupOutcome) ∧
    ((byteAt bs 7).getLsbD 4 = true ↔ s.node.phase = .confirmation) ∧
    byteAt bs 8 = BitVec.ofNat 8 s.link.requestOverrun ∧ byteAt bs 9 = BitVec.ofNat 8 s.faults.haltCount ∧
    byteAt bs 10 = s.epoch.count

/-- The codes and the layouts of the replies' data, field by field: a byte that fields share is the
sum of their codes at their places. (The places within a shared byte: log 17; the zeros of fields
that hold nothing: log 18.) -/
def Obligations.ReplyLayouts : Prop :=
  let yes := fun (b : Bool) => if b then 1 else 0
  let byte := fun (n : Nat) => BitVec.ofNat 8 n
  (∀ c : SelfCheck, selfCheckBytes c =
    [byte (64 * recordCheckCode c.setupRecord + 16 * recordCheckCode c.calRecord + 4 * copyCheckCode c.setupCopy +
        copyCheckCode c.calCopy),
     byte (64 * portPresenceCode c.motorPort + 16 * portPresenceCode c.coarsePort)]) ∧
  (∀ s : State, statusCounters s = [byte s.link.health, byte s.link.publishOverrun, byte s.link.stuckCount,
    byte s.epoch.realignCount, byte (32 * readCauseCode s.enc.motor.lastCause + 4 * readCauseCode s.enc.coarse.lastCause),
    s.epoch.count] ++ selfCheckBytes s.selfCheck) ∧
  faultRecordBytes none = [0xFF#8, 0x00#8, 0x00#8] ∧
  (∀ f : FaultRecord, faultRecordBytes (some f) =
    [byte (kindIndex f.kind).val, f.tag, byte (32 * nodeStateCode f.state + 8 * jumpReasonCode f.reason)]) ∧
  (∀ r : RetainedRecord, retainedBytes r =
    [byte (64 * retainedCauseCode r.cause + 32 * yes r.anchored + 4 * validityCode false r.validity),
     byte (retainedReasonCode r.reason)] ++ bytesOf 2 r.tRet ++
    [byte (64 * r.qRet.toNat + 32 * yes r.playKnown + 8 * directionCode r.lastDir)] ++ bytesOf 2 r.s ++
    bytesOf 3 r.netTurns ++ [byte r.reentries]) ∧
  (∀ r : RestoreReport, decisionBytes r =
    [byte (64 * startKindCode r.kind + 32 * restorePhaseCode r.phase + 8 * retainedCauseCode r.cause),
     byte (32 * (if r.live then 4 else validityCode false r.validity) + 4 * retainedReasonCode r.reason)] ++
    bytesOf 2 r.tRet ++
    [byte (64 * r.qRet.toNat + 16 * (r.qNow.getD 0#2).toNat),
     byte (match r.outcome with | some (.unusable why) => unusableCode why | _ => 0)] ++
    bytesOf 2 (match r.outcome with | some (.adjusted n) => n | _ => 0) ++
    [byte (decisionCode r.decision), byte (basisCode r.basis), r.decideTag.getD 0#8]) ∧
  (∀ r : RestoreReport,
    (r.vernier = none → r.guided = false → vernierBytes r = List.replicate 10 0x00#8) ∧
    ∀ v, r.vernier = some v → vernierBytes r =
      [byte (32 * vernierStatusCode v.status + 16 * yes r.guided), byte v.candidates] ++
      bytesOf 4 v.tv ++ bytesOf 2 v.r ++ bytesOf 2 v.margin) ∧
  conflictBytes none = List.replicate 12 0x00#8 ∧
  (∀ c : ConflictRecord, conflictBytes (some c) = [byte (128 + 64 * restorePhaseCode c.kind)] ++ bytesOf 2 c.retainedSide ++
    bytesOf 2 c.vernierSide ++ bytesOf 2 c.decideTurn ++ bytesOf 2 c.r ++ bytesOf 2 c.margin ++ [c.tag]) ∧
  (∀ (s : State) (r : Request),
    let h := s.homing
    let approach := match h.latch with | some l => approachCode l.approach | none => 0
    (r.payload = [0x05#8, 0#8] → homingData r s =
      [byte (128 * homingModeCode h.mode + 16 * homingOutcomeCode h.outcome), byte (homingReasonCode h.reason),
       byte (32 * stateBeforeCode h.before + 16 * approach + 8 * yes h.coarseChecked)] ++
      bytesOf 2 (match h.latch with | some l => (l.thetaH.toNat : Int) | none => 0) ++
      bytesOf 2 (match h.latch with | some l => (l.guardMin : Int) | none => 0) ++
      [h.edgeTag.getD 0#8, h.captureTag.getD 0#8]) ∧
    (r.payload = [0x05#8, 1#8] → homingData r s = bytesOf 4 (h.pFlag.getD 0) ++ bytesOf 4 (h.pCap.getD 0) ++
      bytesOf 2 (h.residual.getD 0) ++ bytesOf 2 (h.coarseDiff.getD 0)) ∧
    (r.payload = [0x05#8, 2#8] → -2147483648 ≤ h.eCap.getD 0 → h.eCap.getD 0 ≤ 2147483647 →
      homingData r s = bytesOf 4 (h.eCap.getD 0) ++ bytesOf 4 (h.tShift.getD 0))) ∧
  (∀ (s : State) (r : Request),
    (r.payload = [0x06#8, 0#8] → sweepData r s = [byte (sweepOutcomeCode s.sweep.outcome)] ++ bytesOf 2 s.sweep.skipped ++
      bytesOf 2 s.sweep.overflow ++ bytesOf 4 s.cal.data.coverage.toNat) ∧
    (r.payload = [0x06#8, 1#8] →
      sweepData r s = bytesOf 4 s.sweep.updated.toNat ++ bytesOf 4 s.sweep.clamped.toNat) ∧
    ∀ part : Byte, 2 ≤ part.toNat → part.toNat ≤ 5 → r.payload = [0x06#8, part] →
      sweepData r s = (List.range 8).map fun i => byte (s.sweep.counts.toList.getD (8 * (part.toNat - 2) + i) 0)) ∧
  (∀ (e : PeerEntry) (c : CouplingRecord) (isSource : Bool),
    peerData 0 isSource c e =
      [byte e.address.toNat,
       byte (128 * yes e.heard + 64 * yes e.absent + 32 * yes e.synced + 16 * yes e.extrapolated + 8 * yes e.trusted +
         4 * yes e.absolute),
       byte (e.axis.getD 0#3).toNat, byte (32 * (e.nodeState.getD 0#3).toNat + 4 * (e.basis.getD 0#3).toNat), e.tag.getD 0#8,
       byte (64 * (match e.tagClass with | some x => tagClassCode x | none => 0) + 16 * (e.faultClass.getD 0#2).toNat),
       byte e.age] ++
      (if isSource then [byte (128 + 32 * lastAbsoluteCode c.lastAbsolute + 16 * yes c.prevMissed), byte c.missCount]
       else [0x00#8, 0x00#8]) ∧
    peerData 1 isSource c e = bytesOf 4 (e.p.getD 0) ++ bytesOf 4 (e.j.getD 0)) ∧
  (∀ (c : CalRecord) (i : Nat),
    calFieldBytes c 0x01 i = some (match c.ratio with | none => [0#8, 0#8, 0#8] | some r => bytesOf 2 r.num ++ [byte r.den]) ∧
    calFieldBytes c 0x02 i = some (bytesOf 4 c.z) ∧ calFieldBytes c 0x03 i = some (bytesOf 2 c.zg.toNat) ∧
    calFieldBytes c 0x04 i = some (bytesOf 2 c.c) ∧
    calFieldBytes c 0x05 i = (if i < 32 then some (bytesOf 2 (c.corr.toList.getD i 0)) else none) ∧
    calFieldBytes c 0x06 i = some (bytesOf 2 c.lm) ∧
    calFieldBytes c 0x07 i = some (match c.window with | none => List.replicate 8 0#8 | some w => bytesOf 4 w.lo ++ bytesOf 4 w.hi) ∧
    calFieldBytes c 0x08 i = some (bytesOf 2 c.m) ∧ calFieldBytes c 0x09 i = some (bytesOf 2 c.v) ∧
    calFieldBytes c 0x0A i = some (bytesOf 2 c.driftLimit) ∧
    calFieldBytes c 0x0B i = some (bytesOf 2 c.thetaH.toNat ++ [byte (approachCode c.approach)]) ∧
    calFieldBytes c 0x0C i = some (bytesOf 4 c.h) ∧ calFieldBytes c 0x0D i = some (bytesOf 2 c.gh.toNat) ∧
    calFieldBytes c 0x0E i = some (bytesOf 2 c.homeCoarseTol) ∧ calFieldBytes c 0x0F i = some (bytesOf 2 c.guardMin) ∧
    calFieldBytes c 0x10 i = some (bytesOf 2 c.homeResidualTol) ∧ calFieldBytes c 0x11 i = some [byte (yes c.learned)] ∧
    calFieldBytes c 0x12 i = some (bytesOf 4 c.coverage.toNat) ∧
    ∀ id : Nat, id = 0 ∨ 0x12 < id → calFieldBytes c id i = none) ∧
  (∀ (x : Setup) (kind : Nat),
    let addresses := fun (l : List Address) => l.map fun a => byte a.toNat
    setupFieldBytes x 0x01 kind = some (addresses x.members) ∧
    setupFieldBytes x 0x02 kind = some [match x.source with | none => 0x0F#8 | some a => byte a.toNat] ∧
    setupFieldBytes x 0x03 kind = some (addresses x.waitSet) ∧ setupFieldBytes x 0x04 kind = some (bytesOf 2 x.period) ∧
    setupFieldBytes x 0x05 kind = some [byte x.hold] ∧ setupFieldBytes x 0x06 kind = some [byte x.peerTimeout] ∧
    setupFieldBytes x 0x07 kind = some [byte x.missLimit] ∧ setupFieldBytes x 0x08 kind = some (bytesOf 2 x.beacon) ∧
    (∀ k : FaultKind, setupFieldBytes x 0x09 (kindIndex k).val = some [byte (actionCode x.actions[kindIndex k])]) ∧
    (15 ≤ kind → setupFieldBytes x 0x09 kind = none) ∧
    setupFieldBytes x 0x0A kind = some [byte (recoveryCode x.recovery)] ∧
    setupFieldBytes x 0x0B kind = some (bytesOf 2 x.retryDelay) ∧ setupFieldBytes x 0x0C kind = some [byte (yes x.retainedAlone)] ∧
    setupFieldBytes x 0x0D kind = some [byte (yes x.vernierAlone)] ∧ setupFieldBytes x 0x0E kind = some (bytesOf 2 x.settle) ∧
    setupFieldBytes x 0x0F kind = some (bytesOf 2 x.bite) ∧ setupFieldBytes x 0x10 kind = some [byte x.sweepMin] ∧
    setupFieldBytes x 0x11 kind = some (bytesOf 2 x.sweepSpeed) ∧ setupFieldBytes x 0x12 kind = some (bytesOf 2 x.jumpLimit) ∧
    ∀ id : Nat, id = 0 ∨ 0x12 < id → setupFieldBytes x id kind = none)

/-- What the write of one field makes of the calibration or of the setup image: stored as it comes,
clamped to the nearer bound, rounded, or refused, row by row of the two field tables. (The yes and
no bytes: log 21; the lists: log 28.) -/
def Obligations.FieldWriteTables : Prop :=
  (∀ (c : CalRecord) (i : Nat) (v : List Byte),
    let n := natOfBytes v
    let x := intOfBytes v
    let clamped := fun (id lo hi : Nat) (put : Nat → CalRecord) =>
      (n < lo → calFieldWrite c id i v = .stored (put lo) true) ∧
      (lo ≤ n → n ≤ hi → calFieldWrite c id i v = .stored (put n) false) ∧
      (hi < n → calFieldWrite c id i v = .stored (put hi) true)
    calFieldWrite c 0x02 i v = .stored { c with z := x } false ∧
    calFieldWrite c 0x03 i v = .stored { c with zg := BitVec.ofNat 16 n } false ∧
    (-8192 ≤ x ∧ x ≤ 8191 → calFieldWrite c 0x04 i v = .stored { c with c := x } false) ∧
    (x < -8192 ∨ 8191 < x → calFieldWrite c 0x04 i v = .refused) ∧
    (∃ c' : CalRecord, calFieldWrite c 0x05 i v = .stored c' (decide (x < -2048 ∨ 2047 < x)) ∧
      c' = { c with corr := c'.corr, coverage := c'.coverage } ∧
      ∀ b < 32, c'.corr.toList.getD b 0 = (if b = i then max (-2048) (min 2047 x) else c.corr.toList.getD b 0) ∧
        c'.coverage.getLsbD b = (c.coverage.getLsbD b && b != i)) ∧
    clamped 0x06 0 4095 (fun k => { c with lm := k }) ∧ clamped 0x08 0 65535 (fun k => { c with m := k }) ∧
    clamped 0x09 256 8191 (fun k => { c with v := k }) ∧ clamped 0x0A 256 65535 (fun k => { c with driftLimit := k }) ∧
    calFieldWrite c 0x0C i v = .stored { c with h := x } false ∧
    calFieldWrite c 0x0D i v = .stored { c with gh := BitVec.ofNat 16 n } false ∧
    clamped 0x0E 16 4096 (fun k => { c with homeCoarseTol := k }) ∧
    clamped 0x0F 256 8191 (fun k => { c with guardMin := k }) ∧
    clamped 0x10 64 4096 (fun k => { c with homeResidualTol := k })) ∧
  (∀ (c : CalRecord) (i : Nat) (a b d : Byte),
    let n := 256 * a.toNat + b.toNat
    let ratio := 16 ≤ n ∧ n ≤ 8000 ∧ 1 ≤ d.toNat ∧ d.toNat ≤ 16 ∧ 4 * d.toNat ≤ n
    (ratio → calFieldWrite c 0x01 i [a, b, d] = .stored { c with ratio := some ⟨n, d.toNat⟩ } false) ∧
    (¬ratio → calFieldWrite c 0x01 i [a, b, d] = .refused) ∧
    (n ≤ 16383 → d = 0#8 →
      calFieldWrite c 0x0B i [a, b, d] = .stored { c with thetaH := BitVec.ofNat 14 n, approach := .pos } false) ∧
    (n ≤ 16383 → d = 1#8 →
      calFieldWrite c 0x0B i [a, b, d] = .stored { c with thetaH := BitVec.ofNat 14 n, approach := .neg } false) ∧
    (16383 < n ∨ (d ≠ 0#8 ∧ d ≠ 1#8) → calFieldWrite c 0x0B i [a, b, d] = .refused)) ∧
  (∀ (c : CalRecord) (i : Nat) (lo hi : Int), -2147483648 ≤ lo → lo ≤ 2147483647 → -2147483648 ≤ hi → hi ≤ 2147483647 →
    (lo < hi ∧ hi - lo ≤ 2097152 →
      calFieldWrite c 0x07 i (bytesOf 4 lo ++ bytesOf 4 hi) = .stored { c with window := some ⟨lo, hi⟩ } false) ∧
    (¬(lo < hi ∧ hi - lo ≤ 2097152) → calFieldWrite c 0x07 i (bytesOf 4 lo ++ bytesOf 4 hi) = .refused)) ∧
  (List.range 19).map calValueSize = [none, some 3, some 4, some 2, some 2, some 2, some 2, some 8, some 2, some 2, some 2, some 3,
    some 4, some 2, some 2, some 2, some 2, none, none] ∧
  (∀ id : Nat, 0x12 < id → calValueSize id = none) ∧
  (∀ id size : Nat, 1 ≤ id → id ≤ 0x12 → (setupSizeOk id size = true ↔
    if id = 1 ∨ id = 3 then size ≤ 8
    else if id = 4 ∨ id = 8 ∨ id = 0x0B ∨ id = 0x0E ∨ id = 0x0F ∨ id = 0x11 ∨ id = 0x12 then size = 2 else size = 1)) ∧
  (∀ (own : Address) (s : Setup) (kind : Nat) (v : List Byte),
    let n := natOfBytes v
    let clamped := fun (id lo hi : Nat) (put : Nat → Setup) =>
      (n < lo → setupFieldWrite own s id kind v = .stored (put lo) true) ∧
      (lo ≤ n → n ≤ hi → setupFieldWrite own s id kind v = .stored (put n) false) ∧
      (hi < n → setupFieldWrite own s id kind v = .stored (put hi) true)
    clamped 0x05 5 40 (fun k => { s with hold := k }) ∧ clamped 0x06 4 64 (fun k => { s with peerTimeout := k }) ∧
    clamped 0x07 1 15 (fun k => { s with missLimit := k }) ∧ clamped 0x08 16 1024 (fun k => { s with beacon := k }) ∧
    clamped 0x0B 10 1000 (fun k => { s with retryDelay := k }) ∧ clamped 0x0E 10 500 (fun k => { s with settle := k }) ∧
    clamped 0x0F 10 500 (fun k => { s with bite := k }) ∧ clamped 0x10 4 64 (fun k => { s with sweepMin := k }) ∧
    clamped 0x11 8 1024 (fun k => { s with sweepSpeed := k }) ∧ clamped 0x12 512 8191 (fun k => { s with jumpLimit := k }) ∧
    (∃ p : Nat, setupFieldWrite own s 0x04 kind v = .stored { s with period := p } (p != n) ∧ p % 50 = 0 ∧
      (n ≤ 250 → p = 250) ∧ (4000 ≤ n → p = 4000) ∧ (250 ≤ n → n ≤ 4000 → p ≤ n + 25 ∧ n < p + 25)) ∧
    (n = 0 → setupFieldWrite own s 0x0A kind v = .stored { s with recovery := .latched } false) ∧
    (n = 1 → setupFieldWrite own s 0x0A kind v = .stored { s with recovery := .retry } false) ∧
    (1 < n → setupFieldWrite own s 0x0A kind v = .refused) ∧
    setupFieldWrite own s 0x0C kind v = .stored { s with retainedAlone := n == 1 } false ∧
    setupFieldWrite own s 0x0D kind v = .stored { s with vernierAlone := n == 1 } false) ∧
  (∀ (own : Address) (s : Setup) (k : FaultKind) (b : Byte),
    let allowed := fun (a : Action) => match k with
      | .motorEncoder | .trackJump | .vernierDrift | .restoreConflict | .couplingLost => a ≠ .report
      | .coarseEncoder | .travelLimit => True
      | .sampleStuck | .memberAbsent => a ≠ .hold
      | .linkDetached | .addressClash => a = .halt
      | .calInvalid => a = .hold
      | .setupInvalid | .storeFailed => a = .report
      | .backupLow => a ≠ .halt
    (∀ a : Action, b.toNat = actionCode a → allowed a → setupFieldWrite own s 0x09 (kindIndex k).val [b] =
      .stored { s with actions := s.actions.set (kindIndex k) a } false) ∧
    (∀ a : Action, b.toNat = actionCode a → ¬allowed a → setupFieldWrite own s 0x09 (kindIndex k).val [b] = .refused) ∧
    (b = 0#8 ∨ 3 < b.toNat → setupFieldWrite own s 0x09 (kindIndex k).val [b] = .refused) ∧
    actionCode .report = 1 ∧ actionCode .hold = 2 ∧ actionCode .halt = 3) ∧
  ∀ (own : Address) (s : Setup) (kind : Nat) (v : List Byte), setupRecordOk own s = true →
    let names := fun (a : Address) => ∃ b ∈ v, b.toNat = a.toNat
    let listOk := v.length ≤ 8 ∧ (∀ b ∈ v, b.toNat < 15 ∧ b.toNat ≠ own.toNat) ∧ v.Nodup ∧
      (∀ a, s.source = some a → names a) ∧ ∀ a ∈ s.waitSet, names a
    (listOk → ∃ l : List Address, setupFieldWrite own s 0x01 kind v = .stored { s with members := l } false ∧
      l.Pairwise (fun a b => a.toNat < b.toNat) ∧ ∀ a, a ∈ l ↔ names a) ∧
    (¬listOk → setupFieldWrite own s 0x01 kind v = .refused) ∧
    (setupFieldWrite own s 0x02 kind [0x0F#8] = .stored { s with source := none } false) ∧
    (∀ a ∈ s.members, setupFieldWrite own s 0x02 kind [BitVec.ofNat 8 a.toNat] = .stored { s with source := some a } false) ∧
    (∀ b : Byte, b ≠ 0x0F#8 → (∀ a ∈ s.members, a.toNat ≠ b.toNat) → setupFieldWrite own s 0x02 kind [b] = .refused) ∧
    (∀ l : List Address, v = l.map (fun a => BitVec.ofNat 8 a.toNat) → (∀ a ∈ l, a ∈ s.members) →
      setupFieldWrite own s 0x03 kind v = .stored { s with waitSet := l } false) ∧
    ((∃ b ∈ v, ∀ a ∈ s.members, a.toNat ≠ b.toNat) → setupFieldWrite own s 0x03 kind v = .refused)

/-- Every writable field of a calibration in range, written back as it reads, is stored unclamped
and changes nothing but the coverage flag of a written bin. -/
def Obligations.CalFieldsWriteBackAsRead : Prop :=
  ∀ (c : CalRecord) (id idx : Nat) (v : List Byte), calRecordOk c = true → (calValueSize id).isSome = true →
    calFieldBytes c id idx = some v →
    calValueSize id = some v.length ∧
    calFieldWrite c id idx v = .stored (if id = 5 then { c with coverage := binUnmark c.coverage idx } else c) false

/-! ### Invariants that every step keeps -/

/-- BRK is released, and ENABLING lasts, only while the permission is yes; the permission in APPLIED
has always begun the sequence. The play keeps within −h..+h. -/
def Obligations.GateAndPlayKept : Prop :=
  (StepKeeps GateFollowsPermission) ∧
  (StepKeeps PlayBounded)

/-- P keeps the form T·16384 + θ_lastgood within its range. The mirror that is not held follows the
Position Unit. -/
def Obligations.CountAndMirrorKept : Prop :=
  (StepKeeps CountFormed) ∧
  (StepKeeps MirrorFollowsCount)

/-- The link's counters and queues keep their ranges, and a DETACHED node stays silent. The counters
keep their ranges. -/
def Obligations.LinkAndCountersKept : Prop :=
  (StepKeeps LinkBounded) ∧
  (StepKeeps CountersInRange)

/-- While the main domain is down its records stand at their start values. (The model's choice, log
31.) -/
def Obligations.MainIsStoppedKept : Prop := StepKeeps MainIsStopped

/-- The setup image always obeys its rules. The Peer Table keeps one entry per member. -/
def Obligations.SetupAndEntriesKept : Prop :=
  (StepKeeps SetupObeysRules) ∧
  (StepKeeps EntriesAreMembers)

/-- The working calibration stays within its ranges. -/
def Obligations.CalibrationInRangeKept : Prop := StepKeeps CalibrationInRange

/-- The validity of the retained record changes only downward, except where an entry with the mirror
not held forms the record anew. -/
def Obligations.RetainedValidityOnlyFalls : Prop :=
  ∀ (c : Instr) (s t : State), MainIsStopped s → exec c s = .next t →
    ¬(s.mainUp = true ∧ t.mainUp = false ∧ s.ret.mirror.held = false) →
    t.ret.record.validity = s.ret.record.validity ∨
    (s.ret.record.validity = .valid ∧ t.ret.record.validity = .doubtful) ∨ t.ret.record.validity = .lost

/-! ### Position arithmetic -/

/-- Rounding takes the nearest integer and a tie away from zero; the two residues lie in their
ranges and differ from their argument by whole turns. The corrected coarse angle by the four steps
of the rule, its correction between the two bins' values. -/
def Obligations.RoundingAndCorrectedCoarseAngle : Prop :=
  ((∀ (a : Int) (b : Nat), 0 < b →
     2 * |a - b * roundDiv a b| ≤ b ∧ (2 * |a - b * roundDiv a b| = b → |a| < |b * roundDiv a b|)) ∧
   roundDiv 5 2 = 3 ∧ roundDiv (-21) 2 = -11 ∧
   (∀ x : Int, -8192 ≤ wrapS x ∧ wrapS x ≤ 8191 ∧ (x - wrapS x) % 16384 = 0) ∧
   ∀ x : Int, -32768 ≤ signed65536 x ∧ signed65536 x ≤ 32767 ∧ (x - signed65536 x) % 65536 = 0) ∧
  (∀ (c : CalRecord) (g : CoarseAngle),
     let u := ((g.toNat : Int) - 64) % 4096
     let b := (u / 128).toNat
     let f := (u % 128).toNat
     let lo := c.corr.toList.getD b 0
     let hi := c.corr.toList.getD ((b + 1) % 32) 0
     let corr := lo + roundDiv ((hi - lo) * f) 128
     b < 32 ∧ f < 128 ∧ correction c g = corr ∧ min lo hi ≤ corr ∧ corr ≤ max lo hi ∧
     ((correctedAngle c g).toNat : Int) = (16 * g.toNat + corr) % 65536 ∧
     -524288 ≤ coarseJoint c (correctedAngle c g) ∧ coarseJoint c (correctedAngle c g) ≤ 524272)

/-- The candidates are counted within the widened window, and a guide chooses the nearest, the lower
of two equally near. -/
def Obligations.CandidatesWithinTheWindow : Prop :=
  ∀ (c : CalRecord) (w : Window) (base : Int) (guide : Option Int), c.window = some w →
    (∃ lo hi : Int,
      (∀ k : Int, lo ≤ k ∧ k ≤ hi ↔ w.lo - c.m ≤ base + k * 1048576 ∧ base + k * 1048576 ≤ w.hi + c.m) ∧
      (candidates c base guide).count = (hi - lo + 1).toNat) ∧
    (windowOk w = true → c.m ≤ 65535 → (candidates c base guide).count ≤ 3) ∧
    ((candidates c base guide).count = 0 → (candidates c base guide).chosen = none) ∧
    (2 ≤ (candidates c base guide).count → guide = none → (candidates c base guide).chosen = none) ∧
    (∀ x : Int, (candidates c base guide).chosen = some x →
      w.lo - c.m ≤ x ∧ x ≤ w.hi + c.m ∧ (x - base) % 1048576 = 0 ∧
      ∀ (g k : Int), guide = some g → w.lo - c.m ≤ base + k * 1048576 → base + k * 1048576 ≤ w.hi + c.m →
        |x - g| < |base + k * 1048576 - g| ∨ (|x - g| = |base + k * 1048576 - g| ∧ x ≤ base + k * 1048576)) ∧
    ((candidates c base guide).count = 1 ∨ (2 ≤ (candidates c base guide).count ∧ guide.isSome = true) →
      (candidates c base guide).chosen.isSome = true)

/-- The vernier turn number gives the count nearest P_g, and r is what is left. The vernier result
by the table of its rule, row by row. (The candidate count of an UNAVAILABLE result is the model's,
log 20.) -/
def Obligations.VernierTurnAndStatus : Prop :=
  (∀ (c : CalRecord) (ratio : Ratio) (jc k : Int) (θ : Theta), c.ratio = some ratio → ratioOk ratio = true →
     let pg := c.z + roundDiv (jc * ratio.num) (64 * ratio.den) + k
     let v := vernierTurn c jc k θ
     v.1 = roundDiv (pg - θ.toNat) 16384 ∧ pg = v.1 * 16384 + θ.toNat + v.2 ∧ -8192 ≤ v.2 ∧ v.2 ≤ 8192 ∧
     (∀ t : Int, |v.2| ≤ |pg - (t * 16384 + θ.toNat)|) ∧
     (v.2 = -8192 → 0 < pg - θ.toNat) ∧ (v.2 = 8192 → pg - θ.toNat < 0)) ∧
  (∀ (cal : WorkingCal) (usable playKnown : Bool) (base k : Int) (θ : Theta) (guide : Option Int),
     let cs := candidates cal.data base guide
     let res := vernier cal usable playKnown base k θ guide
     let veff : Int := if playKnown then cal.data.v else min 8191 (cal.data.v + cal.h)
     (usable = false → res = ⟨.unavailable, 0, 0, 0, 0⟩) ∧
     (usable = true → cs.count = 0 → res = ⟨.outside, 0, 0, 0, 0⟩) ∧
     (usable = true → 2 ≤ cs.count → guide = none → res = ⟨.ambiguous, 0, 0, 0, cs.count⟩) ∧
     (∀ jc : Int, usable = true → cs.chosen = some jc →
       let v := vernierTurn cal.data jc k θ
       res.tv = v.1 ∧ res.r = v.2 ∧ res.margin = 8192 - |v.2| ∧ res.candidates = cs.count ∧
       (v.1 < -32768 ∨ 32767 < v.1 → res.status = .outside) ∧
       (-32768 ≤ v.1 → v.1 ≤ 32767 → |v.2| ≤ veff → res.status = .clear) ∧
       (-32768 ≤ v.1 → v.1 ≤ 32767 → veff < |v.2| → res.status = .weak)) ∧
     (cal.data.v ≤ 8191 → veff ≤ 8191))

/-- The drift of an epoch is at most half a joint revolution, and its run counts usable epochs past
the limit; the third raises VERNIER_DRIFT and sends a REFERENCED node to UNREFERENCED. -/
def Obligations.DriftMonitorRule : Prop :=
  (∀ j base : Int, -524288 < driftOf j base ∧ driftOf j base ≤ 524288 ∧ (j - driftOf j base - base) % 1048576 = 0) ∧
  ∀ (joint : Joint) (base : Int) (usable : Bool) (s : State),
    let drift := driftOf joint.j base
    let t := driftMonitor joint base usable s
    let runs := usable = true ∧ (∀ px, s.work.motor ≠ .extrapolated px) ∧
      (s.node.state = .referenced ∨ (s.inHoming = true ∧ s.pos.abs = true))
    (¬runs → t = s) ∧
    (runs → |drift| ≤ s.cal.data.driftLimit → t = { s with pos := { s.pos with driftRun := 0 } }) ∧
    (runs → s.cal.data.driftLimit < |drift| → s.pos.driftRun ≠ 2 →
      t = { s with pos := { s.pos with driftRun := s.pos.driftRun + 1 } }) ∧
    (runs → s.cal.data.driftLimit < |drift| → s.pos.driftRun = 2 →
      kindHas t.faults.active .vernierDrift = true ∧ t.pos = { s.pos with abs := false, driftRun := 0 } ∧
      (s.node.state = .referenced → s.pos.abs = true →
        t.node = { s.node with state := .unreferenced, reason := .fault, basis := .none, confirmed := false }))

/-- The count update of a good read: first read, re-base after a failed run of 3, jump test passed
with or without saturation, jump test failed. (Δ = 0 at the first good read is the model's reading,
log 23.) -/
def Obligations.CountUpdateOfAGoodRead : Prop :=
  ∀ (h : Int) (jumpLimit : Nat) (θ : Theta) (u : PositionUnit),
    u.p % 16384 = (u.thetaLast.toNat : Int) → -536870912 ≤ u.p → u.p ≤ 536870911 →
    let n := u.failedRun + 1
    let d := wrapS (θ.toNat - u.thetaLast.toNat)
    let limit : Int := min 8191 (jumpLimit * n : Nat)
    let x := countGood h jumpLimit θ u
    let direction := if 0 < d then Direction.forward else if d < 0 then .backward else u.lastDir
    let moved := if 536870911 < u.p + d then 32767 * 16384 + (θ.toNat : Int)
      else if u.p + d < -536870912 then -32768 * 16384 + (θ.toNat : Int) else u.p + d
    let ranged := if 536870911 < u.p + d ∨ u.p + d < -536870912 then JumpReason.range else .none
    x.pos.thetaLast = θ ∧ x.pos.failedRun = 0 ∧ x.pos.abs = u.abs ∧ x.pos.p % 16384 = (θ.toNat : Int) ∧
    (u.established = false →
      x.pos.established = true ∧ x.pos.p = θ.toNat ∧ x.pos.deltaLast = 0 ∧ x.delta = 0 ∧ x.jump = .none ∧
      x.pos.lastDir = .none ∧ x.pos.s = 0 ∧ x.pos.acc = 0 ∧ (x.pos.playKnown = true ↔ h = 0)) ∧
    (u.established = true → 3 ≤ u.failedRun →
      x.pos.p = moved ∧ x.jump = ranged ∧ x.delta = d ∧ x.pos.deltaLast = 0 ∧ x.pos.lastDir = direction ∧
      x.pos.s = 0 ∧ x.pos.acc = 0 ∧ (x.pos.playKnown = true ↔ h = 0)) ∧
    (u.established = true → u.failedRun < 3 → |d| ≤ limit →
      x.pos.p = moved ∧ x.jump = ranged ∧ x.delta = d ∧ x.pos.deltaLast = roundDiv d n ∧ x.pos.lastDir = direction ∧
      x.pos.s = (playUpdate h d u).s ∧ x.pos.acc = (playUpdate h d u).acc ∧
      x.pos.playKnown = (playUpdate h d u).playKnown) ∧
    (u.established = true → u.failedRun < 3 → limit < |d| →
      x.pos.p = (u.p / 16384) * 16384 + θ.toNat ∧ x.jump = .jump ∧ x.delta = 0 ∧ x.pos.deltaLast = 0 ∧
      x.pos.lastDir = u.lastDir ∧ x.pos.s = 0 ∧ x.pos.acc = 0 ∧ (x.pos.playKnown = true ↔ h = 0))

/-- The count update of a failed read: the failed run counted, the rest of the record kept, an
extrapolated epoch with its P_x, formed at the read, at a run of 1 or 2 and no count from 3 on;
nothing before the first good read. The epoch then reports that P_x, whatever P has become. The play
of a counted epoch: clamped motion while known, learned once the accumulator has run through the
backlash. J of an epoch by its formula, saturated at 32 bits, and 0 without E while the calibration
of a coupled node is invalid. (That no E is formed then: log 19.) -/
def Obligations.FailedReadPlayAndJoint : Prop :=
  (∀ u : PositionUnit,
     (u.established = false → countFailed u = (u, .noCount)) ∧
     (u.established = true → u.failedRun + 1 ≤ 2 →
       countFailed u = ({ u with failedRun := u.failedRun + 1 },
         .extrapolated (max (-536870912) (min 536870911 (u.p + u.deltaLast))))) ∧
     (u.established = true → 3 ≤ u.failedRun + 1 →
       (countFailed u).2 = .noCount ∧ (countFailed u).1 = { u with failedRun := min 255 (u.failedRun + 1) }) ∧
     (∀ px : Int, epochCount u (.extrapolated px) = (px, u.deltaLast, true)) ∧
     ∀ d : Int, epochCount u (.counted d) = (u.p, d, false)) ∧
  (∀ (h d : Int) (u : PositionUnit), 0 ≤ h →
     let a := u.acc + d
     (u.playKnown = true → playUpdate h d u = { u with s := max (-h) (min h (u.s + d)) }) ∧
     (u.playKnown = false → |a| < 2 * h → playUpdate h d u = { u with s := 0, acc := a }) ∧
     (u.playKnown = false → 2 * h ≤ |a| →
       playUpdate h d u = { u with s := if 0 < a then h else -h, playKnown := true, acc := 0 })) ∧
  (∀ (cal : WorkingCal) (coupled : Bool) (count k : Int) (ratio : Ratio),
     let exact := roundDiv ((count - k - cal.data.z) * 64 * ratio.den) ratio.num
     let x := formJoint cal coupled count k
     (cal.valid = true → cal.data.ratio = some ratio →
       x.j = max (-2147483648) (min 2147483647 exact) ∧ x.e = some (count - k) ∧ x.k = k ∧
       (x.saturated = true ↔ exact < -2147483648 ∨ 2147483647 < exact)) ∧
     (cal.valid = false → x.j = 0 ∧ x.k = 0 ∧ x.saturated = false ∧ (coupled = true → x.e = none)) ∧
     (∀ pSrc : Int, couplingTerm cal.data pSrc = roundDiv (cal.data.c * pSrc) 4096))

/-! ### Restore -/

/-- The retained outcome by the table of its rule. The restore decision by its table, and the
confirmation by its own. -/
def Obligations.RestoreTables : Prop :=
  (∀ (r : RetainedRecord) (q : Quadrant),
     (∀ continuity : Bool, r.validity ≠ .valid → retainedOutcome r continuity q = .unusable .validity) ∧
     (r.validity = .valid → retainedOutcome r false q = .unusable .continuity) ∧
     (r.validity = .valid → (q.toNat + 4 - r.qRet.toNat) % 4 = 2 → retainedOutcome r true q = .unusable .twoQuadrant) ∧
     (r.validity = .valid → (q.toNat + 4 - r.qRet.toNat) % 4 ≠ 2 →
       let t := if r.qRet = 3#2 ∧ q = 0#2 then r.tRet + 1 else if r.qRet = 0#2 ∧ q = 3#2 then r.tRet - 1 else r.tRet
       retainedOutcome r true q = if t < -32768 ∨ 32767 < t then .unusable .range else .adjusted t)) ∧
  ((∀ (v : VernierResult) (alone other : Bool) (t : Int),
     (v.status = .clear → v.tv = t → initialDecision alone other (.adjusted t) v = (.confirmed, some t)) ∧
     (v.status = .clear → v.tv ≠ t → initialDecision alone other (.adjusted t) v = (.conflict, none)) ∧
     (v.status ≠ .clear → initialDecision true other (.adjusted t) v = (.retainedAlone, some t)) ∧
     (v.status ≠ .clear → initialDecision false other (.adjusted t) v = (.insufficient, none))) ∧
   (∀ (v : VernierResult) (alone : Bool) (why : Unusable),
     (v.status = .clear → initialDecision alone true (.unusable why) v = (.vernierAlone, some v.tv)) ∧
     initialDecision alone false (.unusable why) v = (.insufficient, none) ∧
     (v.status ≠ .clear → initialDecision alone true (.unusable why) v = (.insufficient, none))) ∧
   ∀ (v : VernierResult) (t : Int),
     (v.status = .clear → v.tv = t → confirmDecision t v = .reconfirmed) ∧
     (v.status = .clear → v.tv ≠ t → confirmDecision t v = .conflict) ∧
     (v.status ≠ .clear → confirmDecision t v = .kept))

/-! ### Views, gate, faults -/

/-- The permission is yes exactly when the four conditions of its rule hold, and DEN and BRK follow
the gate state. The fault class is the strongest action among the active kinds, and RDY is held low
in STARTUP, in RETAIN and while a HALT kind is active. -/
def Obligations.PermissionFaultClassAndRdy : Prop :=
  ((∀ s : State, s.permission = true ↔
     s.gate.grant = true ∧ s.gate.rdyLevel = .high ∧
     (∀ k : FaultKind, s.active k = true → s.actionOf k ≠ .report →
       k = .restoreConflict ∧ s.homing.mode = .home ∧
         (s.node.state = .homing .armed ∨ s.node.state = .homing .capture)) ∧
     (s.node.state = .referenced ∨ s.node.state = .calibrating ∨ s.node.state = .homing .armed ∨
       s.node.state = .homing .capture ∨ (s.node.state = .unreferenced ∧ s.gate.jog = true))) ∧
   (∀ s : State, (s.brk = true ↔ s.gate.state = .released) ∧ (s.den = false ↔ s.gate.state = .applied)) ∧
   (∀ s : State, s.brk = true → s.den = true) ∧
   ∀ g : MotionGate,
     (g.state = .applied → gateOn true g = { g with state := .enabling } ∧ gateOn false g = g) ∧
     (g.state = .enabling →
       gateOn false g = { g with state := .applied, grant := false, jog := false } ∧ gateOn true g = g) ∧
     (g.state = .released →
       gateOn false g = { g with state := .engaging, grant := false, jog := false } ∧ gateOn true g = g) ∧
     (g.state = .engaging → gateOn false g = g ∧ gateOn true g = g)) ∧
  (∀ s : State,
     (s.faultClass = 3 ↔ ∃ k, s.active k = true ∧ s.actionOf k = .halt) ∧
     (s.faultClass = 2 ↔ (∀ k, s.active k = true → s.actionOf k ≠ .halt) ∧ ∃ k, s.active k = true ∧ s.actionOf k = .hold) ∧
     (s.faultClass = 1 ↔ (∃ k, s.active k = true) ∧ ∀ k, s.active k = true → s.actionOf k = .report) ∧
     (s.faultClass = 0 ↔ ∀ k, s.active k = false) ∧
     (s.rdyHeld = true ↔ s.node.state = .startup ∨ s.node.state = .retain ∨
       (s.node.state ≠ .off ∧ ∃ k, s.active k = true ∧ s.actionOf k = .halt)))

/-- A handover builds its frame with the trusted flag of its rule, keeps the flag in the node
record, and judges a trusted J against the travel window. -/
def Obligations.TrustedFlagAtHandover : Prop :=
  ∀ (joint : Joint) (src : Option SourceFrame) (s : State),
    let t := handover joint src s
    (s.trustedNow src = true ↔ s.pos.abs = true ∧
      (s.node.state = .referenced ∨ s.inHoming = true ∨ s.node.state = .calibrating) ∧ s.cal.valid = true ∧
      (s.setup.latched.source = none ∨
        ∃ f, src = some f ∧ f.absolute = true ∧ s.coupling.missCount < s.setup.latched.missLimit)) ∧
    (s.epoch.alignment = .aligning → t = s) ∧
    (s.epoch.alignment = .aligned → t.node.trusted = s.trustedNow src ∧ t.pos.p = s.pos.p ∧
      (s.link.placing = true →
        t.link.positionSlot = some ⟨kindPosition, s.straps.address, 15#4, s.positionPayload joint (s.trustedNow src)⟩)) ∧
    (s.epoch.alignment = .aligned → s.trustedNow src = false → t.gate = s.gate ∧ t.faults = s.faults) ∧
    ∀ w : Window, s.epoch.alignment = .aligned → s.trustedNow src = true → s.cal.data.window = some w →
      (w.lo - s.cal.data.m ≤ joint.j ∧ joint.j ≤ w.hi + s.cal.data.m →
        t.gate = { s.gate with travelSide := .inside } ∧ t.faults = s.faults) ∧
      (¬(w.lo - s.cal.data.m ≤ joint.j ∧ joint.j ≤ w.hi + s.cal.data.m) →
        let g := { s.gate with travelSide := .outside }
        (s.gate.travelSide = .inside → kindHas t.faults.active .travelLimit = true ∧
          (s.active .travelLimit = true ∨ s.actionOf .travelLimit = .report → t.gate = g) ∧
          (s.active .travelLimit = false → s.actionOf .travelLimit ≠ .report → t.permission = false ∧
            t.gate = if s.permission then gateOn false g else g)) ∧
        (s.gate.travelSide = .outside → t.gate = g ∧ t.faults = s.faults))

/-- The class of a stored frame's tag, and the part a frame with synced = no takes in alignment and
realignment: none. The alignment: the first synced frame of a member sets the count, each sample
instant while ALIGNING counts one edge from link join, 64 edges end it with the own count, and
ALIGNED stays until the next start. -/
def Obligations.TagClassesOfStoredFrames : Prop :=
  (∀ tag count : Tag, classOf tag count = if tag = count then .current else if tag + 1#8 = count then .late else .misaligned) ∧
  classOf 255#8 0#8 = .late ∧
  (∀ (a : Address) (p : PositionFields) (s : State) (e : PeerEntry), s.peers.entry? a = some e →
    ((takePosition a p s).peers.entry? a).map PeerEntry.tagClass =
      some (some (classOf p.tag (alignOn p s).epoch.count))) ∧
  (∀ (p : PositionFields) (s : State), s.epoch.alignment = .aligned ∨ p.synced = false → alignOn p s = s) ∧
  (∀ (p : PositionFields) (s : State), s.epoch.alignment = .aligning → s.link.joined = true → p.synced = true →
    (alignOn p s).epoch = { s.epoch with count := p.tag, alignment := .aligned } ∧
    classOf p.tag (alignOn p s).epoch.count = .current) ∧
  (∀ (p : PositionFields) (cls : TagClass) (s : State), p.synced = false → summarise p cls s = s) ∧
  (∀ s : State,
    let n := if s.epoch.alignEdges < 64 then s.epoch.alignEdges + 1 else 64
    (s.epoch.alignment = .aligned ∨ s.link.joined = false → alignmentEdge s = s) ∧
    (s.epoch.alignment = .aligning → s.link.joined = true → n < 64 →
      alignmentEdge s = { s with epoch := { s.epoch with alignEdges := n } }) ∧
    (s.epoch.alignment = .aligning → s.link.joined = true → n = 64 →
      (alignmentEdge s).epoch = { s.epoch with alignEdges := 64, alignment := .aligned })) ∧
  ∀ (c : Instr) (s t : State), exec c s = .next t → s.epoch.running = true → t.epoch.running = true →
    s.epoch.alignment = .aligned → t.epoch.alignment = .aligned

/-- A notice of a kind: the entry into the active and latched sets with its record, or the repeat of
an active kind; the event kinds stand GONE from the notice on. A notice of MOTOR_ENCODER, TRACK_JUMP
or VERNIER_DRIFT takes the absolute count, P kept, and moves the node by its state; with ABS no
already, only an entry ends a homing, in UNREFERENCED, and otherwise the reason alone changes (the
model's reading of R74, R95 and R177: log 25). Another HOLD or HALT entry ends a homing and returns
the node. (That the restore phase stays is log 49, and that the reason stays before the INITIAL
decision is log 54.) -/
def Obligations.NoticesOfFaults : Prop :=
  (∀ (k : FaultKind) (why : JumpReason) (s : State),
     let t := noticeWith k why s
     let gone := k = .trackJump ∨ k = .vernierDrift ∨ k = .travelLimit ∨ k = .storeFailed
     let rec0 : FaultRecord := ⟨k, s.epoch.count, s.node.state, why⟩
     kindHas t.faults.active k = true ∧ (kindHas t.faults.present k = true ↔ ¬gone) ∧
     (∀ j, j ≠ k → kindHas t.faults.active j = s.active j ∧ kindHas t.faults.present j = kindHas s.faults.present j ∧
       kindHas t.faults.latchedSet j = kindHas s.faults.latchedSet j) ∧
     (s.active k = false → kindHas t.faults.latchedSet k = true ∧ t.faults.last = some rec0 ∧
       t.faults.first = if s.faults.first = none then some rec0 else s.faults.first) ∧
     (s.active k = true → t.faults.active = s.faults.active ∧ t.faults.latchedSet = s.faults.latchedSet ∧
       t.faults.first = s.faults.first ∧ t.faults.last = s.faults.last) ∧
     t.faults.retryTimer =
       (if k = .motorEncoder ∧ s.setup.latched.recovery = .retry then .running else s.faults.retryTimer) ∧
     t.faults.haltCount = s.faults.haltCount) ∧
  (∀ (k : FaultKind) (why : JumpReason) (s : State),
     let t := noticeWith k why s
     let demoted := { s.node with state := .unreferenced, reason := .fault, basis := .none, confirmed := false }
     let removes := k = .motorEncoder ∨ k = .trackJump ∨ k = .vernierDrift
     (removes → t.pos = if s.pos.abs then { s.pos with abs := false, driftRun := 0 } else s.pos) ∧
     (removes → s.pos.abs = true → s.node.state = .referenced → t.node = demoted) ∧
     (removes → s.pos.abs = true → s.inHoming = true →
       t.node = demoted ∧ t.homing = { s.homing with outcome := .failed, reason := .fault }) ∧
     (removes → s.pos.abs = true → s.node.state = .calibrating →
       t.node = demoted ∧ t.sweep.outcome = .discarded ∧ t.sweep.counts = Vector.replicate 32 0) ∧
     (removes → s.pos.abs = true → s.node.phase = .confirmation →
       (s.node.state = .restoring .waitSource ∨ s.node.state = .restoring .decide) → t.node = demoted) ∧
     (removes → s.pos.abs = true → s.node.state = .unreferenced →
       t.node = { s.node with basis := .none, reason := .fault }) ∧
     (removes → s.pos.abs = false → s.node.state = .unreferenced → t.node = { s.node with reason := .fault }) ∧
     (removes → s.node.state = .startup ∨
         (s.node.phase = .initial ∧ (s.node.state = .restoring .waitSource ∨ s.node.state = .restoring .decide)) →
       t.node = { s.node with continuity := s.node.continuity && !s.pos.established }) ∧
     (removes → s.pos.abs = false → s.inHoming = true → s.active k = false →
       t.node = demoted ∧ t.homing = { s.homing with outcome := .failed, reason := .fault }) ∧
     (removes → s.pos.abs = false → s.inHoming = true → s.active k = true →
       t.node = { s.node with reason := .fault } ∧ t.homing = s.homing) ∧
     (¬removes → t.pos.abs = s.pos.abs) ∧
     (¬removes → k ≠ .couplingLost → s.actionOf k ≠ .report → s.active k = false → s.inHoming = true →
       t.homing = { s.homing with outcome := .failed, reason := .fault } ∧
       t.node.state = if s.homing.before = some .referenced then .referenced else .unreferenced) ∧
     (¬removes → s.inHoming = false → t.node = s.node))

/-- What the notice that a condition has gone does: the departure of the kinds that leave with it,
with the permission judged at it, nothing to an inactive kind, and for MOTOR_ENCODER and
ADDRESS_CLASH only the condition. CLEAR_FAULTS on the supervisor's record: which kinds leave, the
latched set, the two records. -/
def Obligations.ConditionGoneAndClearFaults : Prop :=
  (∀ (k : FaultKind) (s : State),
     let t := conditionGone k s
     let gone := { s with faults := { s.faults with present := kindRemove s.faults.present k } }
     let left := { s with faults := { s.faults with
       active := kindRemove s.faults.active k, present := kindRemove s.faults.present k } }
     (s.active k = false → t = s) ∧
     (s.active k = true → k ≠ .motorEncoder → k ≠ .addressClash → eventKind k = false →
       t = { left with gate := gateAfter s left }) ∧
     (s.active k = true → k = .addressClash ∨ (k = .motorEncoder ∧ s.setup.latched.recovery = .latched) → t = gone) ∧
     (s.active k = true → k = .motorEncoder → s.setup.latched.recovery = .retry → s.faults.retryTimer = .expired →
       8 ≤ s.enc.motor.goodRun → kindHas t.faults.active k = false ∧ t.faults.retryTimer = .stopped) ∧
     (k = .trackJump ∨ k = .vernierDrift ∨ k = .travelLimit ∨ k = .storeFailed → t = s) ∧
     (∀ j, j ≠ k → kindHas t.faults.active j = s.active j)) ∧
  (∀ f : FaultSupervisor,
     let t := clearFaults f
     (∀ k : FaultKind, kindHas t.active k = true ↔ kindHas f.active k = true ∧
       ¬(k = .trackJump ∨ k = .vernierDrift ∨ k = .travelLimit ∨ k = .storeFailed ∨
         ((k = .motorEncoder ∨ k = .addressClash) ∧ kindHas f.present k = false))) ∧
     t.latchedSet = t.active ∧
     (t.active = 0 → t.first = none ∧ t.last = none) ∧
     (t.active ≠ 0 → t.first = f.first ∧ t.last = f.last) ∧
     (∀ k : FaultKind, kindHas t.active k = true → kindHas t.present k = kindHas f.present k) ∧
     t.haltCount = f.haltCount)

/-! ### Homing and sweep -/

/-- The tests of a counted epoch of CAPTURE, in their order: reversal, crossing with its margin,
flag, and the base moved on; after the capture epoch no epoch is tested. A homing that ends FAILED
or ABORTED returns the node as it came, its record kept but for outcome and reason; one that loses
its source goes on from REFERENCED into RESTORING/WAIT_SOURCE with phase CONFIRMATION. -/
def Obligations.CaptureTests : Prop :=
  (∀ (d pFlag : Int) (l : HomingLatch) (s : State),
    s.node.state = .homing .capture → s.homing.latch = some l → s.homing.pFlag = some pFlag →
    let t := homingCounted d s
    let back := if l.approach = .pos then d < -8 else 8 < d
    let dist : Int := if l.approach = .pos then ((l.thetaH.toNat : Int) - s.homingOp.thetaPrev.toNat) % 16384
      else ((s.homingOp.thetaPrev.toNat : Int) - l.thetaH.toNat) % 16384
    let crossed := 0 < dist ∧ dist ≤ (if l.approach = .pos then d else -d)
    let pCap := if l.approach = .pos then s.homingOp.pPrev + dist else s.homingOp.pPrev - dist
    let captured := { s.homing with captureTag := some s.epoch.count, pCap := some pCap }
    let returned := t.node.state = if s.homing.before = some .referenced then .referenced else .unreferenced
    (s.homingOp.captured = true → t = s) ∧
    (s.homingOp.captured = false → back → t.homing = { s.homing with outcome := .failed, reason := .reversed } ∧ returned) ∧
    (s.homingOp.captured = false → ¬back → crossed → |pCap - pFlag| < l.guardMin →
      t.homing = { captured with outcome := .failed, reason := .margin } ∧ returned) ∧
    (s.homingOp.captured = false → ¬back → crossed → l.guardMin ≤ |pCap - pFlag| →
      t = { s with homing := captured, homingOp := { s.homingOp with captured := true } }) ∧
    (s.homingOp.captured = false → ¬back → ¬crossed → s.enc.homeLevel = some false →
      t.homing = { s.homing with outcome := .failed, reason := .flagLost } ∧ returned) ∧
    (s.homingOp.captured = false → ¬back → ¬crossed → s.enc.homeLevel ≠ some false →
      t = { s with homingOp := { s.homingOp with pPrev := s.pos.p, thetaPrev := s.pos.thetaLast } }) ∧
    (s.homingOp.pPrev % 16384 = (s.homingOp.thetaPrev.toNat : Int) → pCap % 16384 = (l.thetaH.toNat : Int))) ∧
  ∀ s : State, s.inHoming = true →
    let back := { s.node with
      state := if s.homing.before = some .referenced then NodeState.referenced else .unreferenced }
    let rest := { s.pos with driftRun := if s.homing.before = some .referenced then 0 else s.pos.driftRun }
    (∀ (o : HomingOutcome) (why : HomingReason), (endHoming o why s).node = back ∧ (endHoming o why s).pos = rest ∧
      (endHoming o why s).homing = { s.homing with outcome := o, reason := why }) ∧
    (trustLoss s).pos = rest ∧ (trustLoss s).homing = { s.homing with outcome := .failed, reason := .peerLost } ∧
    (trustLoss s).node = if s.homing.before = some .referenced then
      { s.node with state := .restoring .waitSource, phase := .confirmation } else back

/-- A qualified HOME edge in ARMED enters CAPTURE with its tag, P_flag and the crossing base;
another is ignored. The completion of a capture in mode HOME: the residual and its two failures, the
coarse check, and the success that makes the count absolute. The completion of a capture in mode
LEARN: H and Gh learned from a usable coarse result, and no learning without one. (That E_cap is
recorded then too: log 34.) -/
def Obligations.HomeEdgeAndCapture : Prop :=
  (∀ (d : Int) (l : HomingLatch) (s : State), s.node.state = .homing .armed → s.homing.latch = some l →
     let qualified := s.enc.homeEdge = true ∧ (if l.approach = .pos then 0 ≤ d else d ≤ 0)
     (¬qualified → homingCounted d s = s) ∧
     (qualified → homingCounted d s = { s with
       node := { s.node with state := .homing .capture }
       homing := { s.homing with edgeTag := some s.epoch.count, pFlag := some s.pos.p }
       homingOp := { s.homingOp with pPrev := s.pos.p, thetaPrev := s.pos.thetaLast } })) ∧
  (∀ (k pCap : Int) (usable : Bool) (s : State) (ratio : Ratio),
     s.homing.mode = .home → s.homing.pCap = some pCap → s.node.state = .homing .capture → s.cal.data.ratio = some ratio →
     let t := completeCapture k usable s
     let eCap := pCap - k
     let shift := roundDiv (s.cal.data.h - eCap) 16384
     let residual := (s.cal.data.h - eCap) - 16384 * shift
     let moved := s.pos.p + 16384 * shift
     let gq : Int := s.pos.gq.toNat - roundDiv ((s.pos.p - pCap) * 4 * ratio.den) ratio.num
     let diff := signed65536 (gq - s.cal.data.gh.toNat)
     t.homing.eCap = some eCap ∧ t.homing.tShift = some shift ∧ t.homing.residual = some residual ∧
     (s.cal.data.homeResidualTol < |residual| →
       t.homing.outcome = .failed ∧ t.homing.reason = .residual ∧ t.pos.p = s.pos.p) ∧
     (|residual| ≤ s.cal.data.homeResidualTol → (moved < -536870912 ∨ 536870911 < moved) →
       t.homing.outcome = .failed ∧ t.homing.reason = .range ∧ t.pos.p = s.pos.p) ∧
     (|residual| ≤ s.cal.data.homeResidualTol → -536870912 ≤ moved → moved ≤ 536870911 →
       usable = true → s.cal.data.homeCoarseTol < |diff| →
       t.homing.outcome = .failed ∧ t.homing.reason = .coarseMismatch ∧ t.homing.coarseDiff = some diff ∧
       t.homing.coarseChecked = true ∧ t.pos.p = s.pos.p) ∧
     (|residual| ≤ s.cal.data.homeResidualTol → -536870912 ≤ moved → moved ≤ 536870911 →
       (usable = true → |diff| ≤ s.cal.data.homeCoarseTol) →
       t.homing.outcome = .success ∧ t.homing.reason = .none ∧ t.homing.coarseChecked = usable ∧
       t.pos = { s.pos with p := moved, abs := true, driftRun := 0 } ∧
       t.node = { s.node with state := .referenced, reason := .none, basis := .homed, confirmed := false, conflict := none } ∧
       t.ret.mirror.held = false ∧ kindHas t.faults.active .restoreConflict = false)) ∧
  (∀ (k pCap : Int) (usable : Bool) (s : State) (ratio : Ratio),
     s.homing.mode = .learn → s.homing.pCap = some pCap → s.node.state = .homing .capture → s.cal.data.ratio = some ratio →
     let t := completeCapture k usable s
     let gq : Int := s.pos.gq.toNat - roundDiv ((s.pos.p - pCap) * 4 * ratio.den) ratio.num
     t.homing.eCap = some (pCap - k) ∧ t.pos.p = s.pos.p ∧ t.pos.abs = s.pos.abs ∧ t.node.basis = s.node.basis ∧
     (usable = false → t.homing.outcome = .failed ∧ t.homing.reason = .noCoarse ∧ t.cal = s.cal) ∧
     (usable = true → t.homing.outcome = .learned ∧ t.node.state = .referenced ∧ t.pos.driftRun = 0 ∧
       t.cal.dirty = true ∧ t.cal.valid = s.cal.valid ∧
       (-2147483648 ≤ pCap - k → pCap - k ≤ 2147483647 → t.cal.data.h = pCap - k) ∧
       t.cal.data = { s.cal.data with h := t.cal.data.h, gh := BitVec.ofInt 16 gq, learned := true }))

/-- The sample of an epoch, the conditions that take it, and its bin, overflow or skip. -/
def Obligations.SweepSampleRule : Prop :=
  ∀ (joint : Joint) (sj : Int) (usable : Bool) (g : CoarseAngle) (s : State), s.work.coarse = .good g →
    let t := judgeSample joint sj usable s
    let bin := g.toNat / 128
    let expected := (s.cal.data.zg.toNat + roundDiv (joint.j - sj) 16) % 65536
    let e := signed65536 (expected - 16 * g.toNat)
    let taken := usable = true ∧ (∃ d, s.work.motor = .counted d ∧ |d| ≤ s.setup.latched.sweepSpeed) ∧
      s.pos.playKnown = true ∧ |s.pos.s| = s.cal.h ∧ joint.saturated = false
    (¬taken → t = { s with sweep := { s.sweep with skipped := min 65535 (s.sweep.skipped + 1) } }) ∧
    (taken → s.sweep.counts.toList.getD bin 0 < 255 →
      t = { s with sweep := { s.sweep with
        sums := s.sweep.sums.setIfInBounds bin (s.sweep.sums.toList.getD bin 0 + e)
        counts := s.sweep.counts.setIfInBounds bin (s.sweep.counts.toList.getD bin 0 + 1) } }) ∧
    (taken → 255 ≤ s.sweep.counts.toList.getD bin 0 →
      t = { s with sweep := { s.sweep with overflow := min 65535 (s.sweep.overflow + 1) } })

/-! ### Commands: the Epoch Unit -/

/-- The edges and timers of SMP that mark no sample instant: what each does to the Epoch Unit, and
that nothing else changes. The counts that stand at their mark: the synced run, the alignment edges,
the realignment run and the beacon count. (That they are commands of their own: log 2.) The
realignment run at a SYNCED sample instant while ALIGNED, by the table of its rule. -/
def Obligations.SampleLineAndEpochMarks : Prop :=
  (∀ s : State, s.epoch.running = true →
     ((s.epoch.sync = .synced ∨ s.epoch.rejoinArmed = true) →
       exec .smpFallingEdge s = .next { s with
         pins := { s.pins with smpHigh := false }
         epoch := { s.epoch with highWatch := false, lowWatch := true, driveLow := true, holding := true } }) ∧
     (s.epoch.sync = .free → s.epoch.rejoinArmed = false →
       exec .smpFallingEdge s = .next { s with
         pins := { s.pins with smpHigh := false }, epoch := { s.epoch with highWatch := false, lowWatch := true } }) ∧
     (s.epoch.sync = .free → s.epoch.rejoinArmed = false → ∀ i : SampleInputs,
       exec (.smpRisingEdge i) s = .next { s with
         pins := { s.pins with smpHigh := true }, epoch := { s.epoch with highWatch := true, lowWatch := false } }) ∧
     ((s.epoch.sync = .synced ∨ s.epoch.rejoinArmed = true) → s.epoch.timer = .running →
       exec .periodTimerExpiry s = .next { s with
         epoch := { s.epoch with timer := .expired, driveLow := s.epoch.driveLow || s.pins.smpHigh } }) ∧
     (s.epoch.holding = true →
       exec .holdExpiry s = .next { s with epoch := { s.epoch with holding := false, driveLow := false } }) ∧
     (s.epoch.sync = .free → s.epoch.rejoinArmed = false → s.epoch.highWatch = true →
       exec .rejoinArmed s = .next { s with epoch := { s.epoch with rejoinArmed := true } })) ∧
  (∀ s : State,
     (s.epoch.syncedRun = 16 → s.active .sampleStuck = true →
       ∃ t, exec .syncedRun16 s = .next t ∧ Settles s { s with faults := { s.faults with
         active := kindRemove s.faults.active .sampleStuck, present := kindRemove s.faults.present .sampleStuck } } t) ∧
     (s.epoch.alignment = .aligning → s.epoch.alignEdges = 64 →
       ∃ t, exec .alignmentTimeout s = .next t ∧ Settles s { s with
         epoch := { s.epoch with alignment := .aligned }
         coupling := { s.coupling with
           opened := s.coupling.opened || (s.setup.latched.source.isSome && s.pos.established) } } t) ∧
     (s.epoch.realignRun = 8 →
       exec .realignment s = .next { s with epoch := { s.epoch with
         count := s.epoch.count + s.epoch.realignOffset, realignRun := 0
         realignCount := if s.epoch.realignCount < 255 then s.epoch.realignCount + 1 else 255 } }) ∧
     (s.setup.latched.beacon ≤ s.link.beaconCount → s.link.placing = true →
       exec .beacon s = .next { s with link := { s.link with
         statusSlot := some ⟨kindStatus, s.straps.address, 15#4, s.statusPayload⟩, beaconCount := 0 } })) ∧
  (∀ u : EpochUnit,
     (u.alignment = .aligned → u.frames = .none → realignStep true u = u) ∧
     (u.alignment = .aligned → u.frames = .mixed → realignStep true u = { u with realignRun := 0 }) ∧
     (∀ tag : Tag, u.alignment = .aligned → u.frames = .misaligned tag → u.realignRun ≠ 0 → tag - u.count = u.realignOffset →
       realignStep true u = { u with realignRun := u.realignRun + 1 }) ∧
     (∀ tag : Tag, u.alignment = .aligned → u.frames = .misaligned tag → u.realignRun = 0 ∨ tag - u.count ≠ u.realignOffset →
       realignStep true u = { u with realignRun := 1, realignOffset := tag - u.count }) ∧
     (u.alignment = .aligning → realignStep true u = u) ∧ realignStep false u = { u with realignRun := 0 } ∧
     (∀ (cls : TagClass) (tag : Tag), cls ≠ .misaligned → ∀ f, noteFrame cls tag f = .mixed) ∧
     ∀ tag tag' : Tag, noteFrame .misaligned tag .none = .misaligned tag ∧
       noteFrame .misaligned tag (.misaligned tag') = if tag' = tag then .misaligned tag' else .mixed)

/-- What every sample instant leaves: the period timer restarted, the count moved on, both reads
begun, HOME latched, nothing yet known of the new epoch, every entry one epoch older; and what it
keeps. (The order of what happens at the instant is the model's, log 14.) -/
def Obligations.SampleInstants : Prop :=
  ∀ (i : SampleInputs) (s : State), s.epoch.running = true →
    let instant := fun (synced : Bool) (t : State) =>
      t.epoch.timer = .running ∧ t.epoch.epochSynced = synced ∧
      t.enc.motor.reading = true ∧ t.enc.coarse.reading = true ∧ t.enc.homeLevel = some i.home ∧
      t.enc.homeEdge = (s.enc.homeLevel == some false && i.home) ∧
      t.work.motor = .pending ∧ t.work.coarse = .pending ∧ t.work.joint = none ∧ t.work.evaluated = false ∧
      t.coupling.own = false ∧ t.coupling.source = none ∧ t.coupling.matched = false ∧
      t.peers.entries.map PeerEntry.age = s.peers.entries.map (fun e => if e.age < 255 then e.age + 1 else 255) ∧
      t.straps = s.straps ∧ t.setup = s.setup ∧ t.restartPending = s.restartPending ∧ t.pending = s.pending ∧
      (s.enc.motor.reading = false → s.enc.coarse.reading = false →
        t.pos = { s.pos with driftRun := t.pos.driftRun } ∧ t.cal = s.cal ∧ t.store = s.store ∧
        t.ret.record = s.ret.record)
    let u := realignStep true s.epoch
    let counted := fun (t : State) =>
      (u.realignRun = 8 → t.epoch.count = s.epoch.count + 1#8 + u.realignOffset ∧ t.epoch.realignRun = 0 ∧
        t.epoch.realignCount = min 255 (s.epoch.realignCount + 1)) ∧
      (u.realignRun ≠ 8 → t.epoch.count = s.epoch.count + 1#8 ∧ t.epoch.realignRun = u.realignRun)
    (s.epoch.sync = .synced → ∃ t, exec (.smpRisingEdge i) s = .next t ∧ instant true t ∧ counted t ∧
      t.epoch.sync = .synced ∧ t.epoch.syncedRun = min 16 (s.epoch.syncedRun + 1) ∧ t.epoch.lowWatch = false) ∧
    (s.epoch.sync = .free → s.epoch.rejoinArmed = true →
      ∃ t, exec (.smpRisingEdge i) s = .next t ∧ instant true t ∧ counted t ∧
      t.epoch.sync = .synced ∧ t.epoch.rejoinArmed = false ∧ t.epoch.syncedRun = min 16 (s.epoch.syncedRun + 1)) ∧
    (s.epoch.sync = .free → s.epoch.rejoinArmed = false → s.epoch.timer = .running →
      ∃ t, exec (.freePeriodExpiry i) s = .next t ∧ instant false t ∧
      t.epoch.count = s.epoch.count + 1#8 ∧ t.epoch.sync = .free ∧ t.epoch.realignRun = 0) ∧
    (s.epoch.lowWatch = true → (s.epoch.sync = .synced ∨ s.epoch.rejoinArmed = true) →
      ∃ t, exec (.sampleLineStuck i) s = .next t ∧ instant false t ∧
      t.epoch.count = s.epoch.count + 1#8 ∧ t.epoch.sync = .free ∧ t.epoch.rejoinArmed = false ∧
      t.epoch.driveLow = false ∧ t.epoch.holding = false ∧ t.epoch.highWatch = false ∧ t.epoch.syncedRun = 0 ∧
      t.epoch.realignRun = 0 ∧ kindHas t.faults.active .sampleStuck = true ∧ kindHas t.faults.present .sampleStuck = true)

/-- What a sample instant of any kind counts and hands on: the alignment edge, the beacon count with
its STATUS frame, the quiet run, the instants and the ports at 16, the sweep epoch left without an
evaluation, and the reads still pending, ended as SUPERSEDED. (The order at the instant: log 14.) -/
def Obligations.SampleInstantHandsOn : Prop :=
  ∀ (c : Instr) (i : SampleInputs) (s : State), s.epoch.running = true →
    let answers := s.epoch.sync = .synced ∨ s.epoch.rejoinArmed = true
    (c = .smpRisingEdge i ∧ answers) ∨ (c = .freePeriodExpiry i ∧ ¬answers ∧ s.epoch.timer = .running) ∨
      (c = .sampleLineStuck i ∧ answers ∧ s.epoch.lowWatch = true) →
    let edges := if s.epoch.alignEdges < 64 then s.epoch.alignEdges + 1 else 64
    let beacon := if s.link.beaconCount < 1024 then s.link.beaconCount + 1 else 1024
    let ended := fun (p : PortRecord) => if p.reading then
        { reading := true, goodRun := 0, lastCause := .superseded, failRun := if p.failRun < 255 then p.failRun + 1 else 255 }
      else { p with reading := true }
    let port := fun (p : PortRecord) (ack : Bool) (was : PortPresence) =>
      let now := if p.reading = true ∧ ack = true then PortPresence.present else was
      if now = .pending ∧ 15 ≤ s.epoch.instants then PortPresence.notFound else now
    ∃ t, exec c s = .next t ∧
      (s.epoch.alignment = .aligned → t.epoch.alignment = .aligned ∧ t.epoch.alignEdges = s.epoch.alignEdges) ∧
      (s.epoch.alignment = .aligning → s.link.joined = false →
        t.epoch.alignment = .aligning ∧ t.epoch.alignEdges = s.epoch.alignEdges) ∧
      (s.epoch.alignment = .aligning → s.link.joined = true →
        t.epoch.alignEdges = edges ∧ t.epoch.alignment = if edges = 64 then .aligned else .aligning) ∧
      (s.link.placing = false → t.link = s.link) ∧
      (s.link.placing = true → s.setup.latched.beacon ≤ beacon → t.link.beaconCount = 0 ∧
        ∃ p, t.link.statusSlot = some ⟨kindStatus, s.straps.address, 15#4, p⟩ ∧ byteAt p 10 = t.epoch.count ∧
          (s.statusTriggers ≠ t.statusTriggers → p = t.statusPayload)) ∧
      (s.link.placing = true → beacon < s.setup.latched.beacon → s.statusTriggers = t.statusTriggers →
        t.link.beaconCount = beacon ∧ t.link.statusSlot = s.link.statusSlot) ∧
      (s.peers.quietRun = none → t.peers.quietRun = none) ∧
      (∀ n, s.peers.quietRun = some n → t.peers.quietRun = some (if n < 64 then n + 1 else n) ∧
        (n = 63 → s.active .addressClash = true →
          kindHas t.faults.active .addressClash = true ∧ kindHas t.faults.present .addressClash = false)) ∧
      t.epoch.instants = (if s.epoch.instants < 16 then s.epoch.instants + 1 else 16) ∧
      t.selfCheck = { s.selfCheck with
        motorPort := port s.enc.motor i.motorAck s.selfCheck.motorPort
        coarsePort := port s.enc.coarse i.coarseAck s.selfCheck.coarsePort } ∧
      t.enc.motor = ended s.enc.motor ∧ t.enc.coarse = ended s.enc.coarse ∧
      (s.enc.motor.reading = true → t.pos.failedRun = (countFailed s.pos).1.failedRun) ∧
      (s.enc.motor.reading = true → s.enc.motor.failRun = 2 → kindHas t.faults.active .motorEncoder = true) ∧
      (s.enc.coarse.reading = true → s.enc.coarse.failRun = 2 → kindHas t.faults.active .coarseEncoder = true) ∧
      (s.enc.motor.reading = false → s.enc.coarse.reading = false → s.node.state = .calibrating →
        t.sweep.skipped = if s.work.considered = true ∧ s.work.evaluated = false then min 65535 (s.sweep.skipped + 1)
          else s.sweep.skipped) ∧
      (s.enc.motor.reading = false → s.enc.coarse.reading = false → s.node.state ≠ .calibrating → t.sweep = s.sweep) ∧
      t.work.considered = (t.node.state == .calibrating)

/-! ### Commands: the encoders -/

/-- A complete motor word, while the coarse read of the epoch is still to end: a good one runs the
count update and what follows it; a bad one fails with its cause. The check bits of a word: C1 over
the odd positions of the angle, C0 over the even ones with the error bit, each making the count of
ones even. -/
def Obligations.MotorWordAndCheckBits : Prop :=
  (∀ (θ : Theta) (error c1 c0 : Bool) (s : State), s.enc.motor.reading = true → s.work.coarse = .pending →
     let x := countGood s.cal.h s.setup.latched.jumpLimit θ s.pos
     let kept := fun (t : State) =>
       t.pins = s.pins ∧ t.straps = s.straps ∧ t.epoch = s.epoch ∧ t.cal = s.cal ∧ t.setup = s.setup ∧ t.store = s.store ∧
       t.peers = s.peers ∧ t.selfCheck = { s.selfCheck with motorPort := .present } ∧ t.enc.coarse = s.enc.coarse ∧
       t.restartPending = s.restartPending ∧ t.pending = s.pending
     (checkBitsRight θ error c1 c0 = true → error = false →
       ∃ t, exec (.encoderReadComplete (.motor θ error c1 c0)) s = .next t ∧ kept t ∧
         t.enc.motor = { s.enc.motor with reading := false, failRun := 0
                                          goodRun := if s.enc.motor.goodRun < 255 then s.enc.motor.goodRun + 1 else 255 } ∧
         t.pos.p = x.pos.p ∧ t.pos.thetaLast = θ ∧ t.pos.deltaLast = x.pos.deltaLast ∧ t.pos.failedRun = 0 ∧
         t.pos.s = x.pos.s ∧ t.pos.playKnown = x.pos.playKnown ∧ t.pos.acc = x.pos.acc ∧ t.pos.lastDir = x.pos.lastDir ∧
         t.work.motor = .counted x.delta ∧
         (x.jump = .none → t.pos.abs = s.pos.abs) ∧
         (x.jump ≠ .none → t.pos.abs = false ∧ kindHas t.faults.active .trackJump = true) ∧
         (s.setup.latched.source = none → t.work.joint = some (formJoint s.cal false x.pos.p 0) ∧
           t.pos.j = (formJoint s.cal false x.pos.p 0).j)) ∧
     (∀ cause : ReadCause,
       (checkBitsRight θ error c1 c0 = false ∧ cause = .check) ∨
         (checkBitsRight θ error c1 c0 = true ∧ error = true ∧ cause = .encoderError) →
       ∃ t, exec (.encoderReadComplete (.motor θ error c1 c0)) s = .next t ∧ kept t ∧
         t.enc.motor = { reading := false, goodRun := 0, lastCause := cause
                         failRun := if s.enc.motor.failRun < 255 then s.enc.motor.failRun + 1 else 255 } ∧
         t.pos.p = s.pos.p ∧ t.pos.thetaLast = s.pos.thetaLast ∧ t.pos.deltaLast = s.pos.deltaLast ∧
         t.pos.failedRun = (countFailed s.pos).1.failedRun ∧ t.work.motor = (countFailed s.pos).2 ∧
         (s.enc.motor.failRun = 2 → kindHas t.faults.active .motorEncoder = true ∧ t.pos.abs = false))) ∧
  (∀ (angle : BitVec 14) (error c1 c0 : Bool), checkBitsRight angle error c1 c0 = true ↔
     (((List.range 14).filter fun i => i % 2 == 1 && angle.getLsbD i).length + (if c1 then 1 else 0)) % 2 = 0 ∧
     (((List.range 14).filter fun i => i % 2 == 0 && angle.getLsbD i).length + (if error then 1 else 0) +
       (if c0 then 1 else 0)) % 2 = 0)

/-- A good motor word that comes after the coarse read has ended, on an uncoupled node with a valid
calibration: J is formed and the coarse evaluation runs at once, with the drift monitor behind it;
and the end of STARTUP, which a good motor read alone brings, with the node joined and ALIGNED. -/
def Obligations.MotorWordComesSecond : Prop :=
  (∀ (θ : Theta) (c1 c0 : Bool) (s : State), s.enc.motor.reading = true → checkBitsRight θ false c1 c0 = true →
    s.setup.latched.source = none → s.cal.valid = true → s.work.evaluated = false →
    s.node.state = .referenced ∨ s.node.state = .unreferenced →
    let x := countGood s.cal.h s.setup.latched.jumpLimit θ s.pos
    let joint := formJoint s.cal false x.pos.p 0
    let sj := playJoint s.cal.data x.pos.s
    x.jump = .none →
    let formed := fun (t : State) =>
      t.work.motor = .counted x.delta ∧ t.work.joint = some joint ∧ t.work.evaluated = true ∧ t.pos.p = x.pos.p ∧
      t.pos.thetaLast = θ ∧ t.pos.j = joint.j ∧ t.pos.evaluated = true ∧ t.pos.lastE = x.pos.p ∧ t.pos.lastSj = sj
    (s.work.coarse = .failed ∨ (∃ g, s.work.coarse = .good g ∧ s.active .coarseEncoder = true) →
      ∃ t, exec (.encoderReadComplete (.motor θ false c1 c0)) s = .next t ∧ formed t ∧ t.pos.usable = false ∧
        t.pos.gq = s.pos.gq ∧ t.pos.jg = s.pos.jg ∧ t.pos.driftRun = s.pos.driftRun ∧ t.pos.abs = s.pos.abs ∧
        t.node.state = s.node.state) ∧
    (∀ g, s.work.coarse = .good g → s.active .coarseEncoder = false →
      let jg := coarseJoint s.cal.data (correctedAngle s.cal.data g)
      let drift := driftOf joint.j (jg + sj)
      ∃ t, exec (.encoderReadComplete (.motor θ false c1 c0)) s = .next t ∧ formed t ∧ t.pos.usable = true ∧
        t.pos.gq = correctedAngle s.cal.data g ∧ t.pos.jg = jg ∧
        (s.node.state = .unreferenced → t.pos.driftRun = s.pos.driftRun ∧ t.node.state = .unreferenced) ∧
        (s.node.state = .referenced → |drift| ≤ s.cal.data.driftLimit →
          t.pos.driftRun = 0 ∧ t.node.state = .referenced ∧ t.pos.abs = s.pos.abs) ∧
        (s.node.state = .referenced → s.cal.data.driftLimit < |drift| → s.pos.driftRun ≠ 2 →
          t.pos.driftRun = s.pos.driftRun + 1 ∧ t.node.state = .referenced ∧ t.pos.abs = s.pos.abs) ∧
        (s.node.state = .referenced → s.cal.data.driftLimit < |drift| → s.pos.driftRun = 2 →
          kindHas t.faults.active .vernierDrift = true ∧ t.pos.driftRun = 0 ∧ t.pos.abs = false ∧
          (s.pos.abs = true → t.node.state = .unreferenced ∧ t.node.reason = .fault ∧ t.node.basis = .none)))) ∧
  (∀ (θ : Theta) (c1 c0 : Bool) (s : State), s.node.state = .startup → s.enc.motor.reading = true →
    checkBitsRight θ false c1 c0 = true → s.work.coarse = .pending →
    (countGood s.cal.h s.setup.latched.jumpLimit θ s.pos).jump = .none →
    let ready := s.link.joined = true ∧ s.epoch.alignment = .aligned
    ∃ t, exec (.encoderReadComplete (.motor θ false c1 c0)) s = .next t ∧
      (¬ready → t.node.state = .startup) ∧
      (ready → s.cal.valid = false → t.node.state = .unreferenced ∧ t.node.reason = .noCal ∧ t.node.basis = s.node.basis ∧
        t.node.report = { s.node.report with
          decision := .noCal, cause := t.ret.record.cause, validity := t.ret.record.validity
          reason := t.ret.record.reason, tRet := t.ret.record.tRet, qRet := t.ret.record.qRet }) ∧
      (ready → s.cal.valid = true → s.setup.latched.source = none →
        t.node = { s.node with state := .restoring .decide, phase := .initial, trusted := false }) ∧
      (ready → s.cal.valid = true → s.setup.latched.source.isSome = true → s.coupling.source = none →
        t.node = { s.node with state := .restoring .waitSource, phase := .initial })) ∧
  ∀ (θ : Theta) (error c1 c0 : Bool) (s : State), s.node.state = .startup → s.enc.motor.reading = true →
    checkBitsRight θ error c1 c0 = false ∨ error = true →
    ∃ t, exec (.encoderReadComplete (.motor θ error c1 c0)) s = .next t ∧ t.node.state = .startup

/-- A read that times out fails with TIMEOUT, its port noted as the acknowledge shows; a port still
PENDING after 16 sample instants is NOT_FOUND. (That this last is a command of its own: log 2.) The
runs that stand at their mark: the third failure of a port, the eighth good read, the third drift
epoch. (That they are commands of their own: log 2.) -/
def Obligations.ReadTimeoutsAndMarks : Prop :=
  ((∀ (ack : Bool) (s : State), s.enc.motor.reading = true → s.work.coarse = .pending →
     ∃ t, exec (.encoderReadTimeout .motor ack) s = .next t ∧
       t.enc.motor = { reading := false, goodRun := 0, lastCause := .timeout
                       failRun := if s.enc.motor.failRun < 255 then s.enc.motor.failRun + 1 else 255 } ∧
       t.enc.coarse = s.enc.coarse ∧ t.pos.p = s.pos.p ∧ t.pos.thetaLast = s.pos.thetaLast ∧
       t.pos.failedRun = (countFailed s.pos).1.failedRun ∧ t.work.motor = (countFailed s.pos).2 ∧
       t.selfCheck.motorPort = (if ack then .present else s.selfCheck.motorPort) ∧ t.epoch = s.epoch ∧ t.store = s.store) ∧
   (∀ (ack : Bool) (s : State), s.enc.coarse.reading = true →
     ∃ t, exec (.encoderReadTimeout .coarse ack) s = .next t ∧
       t.enc.coarse = { reading := false, goodRun := 0, lastCause := .timeout
                        failRun := if s.enc.coarse.failRun < 255 then s.enc.coarse.failRun + 1 else 255 } ∧
       t.enc.motor = s.enc.motor ∧ t.work.coarse = .failed ∧
       (s.enc.coarse.failRun = 2 → kindHas t.faults.active .coarseEncoder = true) ∧
       t.selfCheck.coarsePort = (if ack then .present else s.selfCheck.coarsePort) ∧ t.epoch = s.epoch ∧ t.peers = s.peers) ∧
   ∀ s : State, s.epoch.instants = 16 →
     (s.selfCheck.motorPort = .pending →
       exec (.portPresenceTimeout .motor) s = .next { s with selfCheck := { s.selfCheck with motorPort := .notFound } }) ∧
     (s.selfCheck.coarsePort = .pending →
       exec (.portPresenceTimeout .coarse) s = .next { s with selfCheck := { s.selfCheck with coarsePort := .notFound } })) ∧
  (∀ s : State,
     (s.enc.motor.failRun = 3 → s.active .motorEncoder = false →
       ∃ t, exec .motorFailureRun3 s = .next t ∧ kindHas t.faults.active .motorEncoder = true ∧
         kindHas t.faults.present .motorEncoder = true ∧
         t.pos = (if s.pos.abs then { s.pos with abs := false, driftRun := 0 } else s.pos) ∧
         t.faults.last = some ⟨.motorEncoder, s.epoch.count, s.node.state, .none⟩ ∧
         t.enc = s.enc ∧ t.epoch = s.epoch ∧ t.cal = s.cal ∧ t.setup = s.setup ∧ t.coupling = s.coupling ∧ t.peers = s.peers) ∧
     (s.enc.motor.goodRun = 8 → s.active .motorEncoder = true → s.setup.latched.recovery = .latched →
       exec .motorGoodRun8 s = .next { s with faults := { s.faults with
         present := kindRemove s.faults.present .motorEncoder } }) ∧
     (s.enc.motor.goodRun = 8 → s.active .motorEncoder = true → s.setup.latched.recovery = .retry →
       s.faults.retryTimer = .expired →
       ∃ t, exec .motorGoodRun8 s = .next t ∧ Settles s { s with faults := { s.faults with
         active := kindRemove s.faults.active .motorEncoder, present := kindRemove s.faults.present .motorEncoder
         retryTimer := .stopped } } t) ∧
     (s.enc.coarse.failRun = 3 → s.active .coarseEncoder = false → s.actionOf .coarseEncoder = .report →
       ∃ t, exec .coarseFailureRun3 s = .next t ∧ Settles s { s with faults := { s.faults with
         active := kindAdd s.faults.active .coarseEncoder, present := kindAdd s.faults.present .coarseEncoder
         latchedSet := kindAdd s.faults.latchedSet .coarseEncoder
         first := some (s.faults.first.getD ⟨.coarseEncoder, s.epoch.count, s.node.state, .none⟩)
         last := some ⟨.coarseEncoder, s.epoch.count, s.node.state, .none⟩ } } t) ∧
     (s.enc.coarse.goodRun = 8 → s.active .coarseEncoder = true →
       ∃ t, exec .coarseGoodRun8 s = .next t ∧ Settles s { s with faults := { s.faults with
         active := kindRemove s.faults.active .coarseEncoder, present := kindRemove s.faults.present .coarseEncoder } } t) ∧
     (s.pos.driftRun = 3 →
       ∃ t, exec .driftRun3 s = .next t ∧ kindHas t.faults.active .vernierDrift = true ∧
         t.pos = { s.pos with abs := false, driftRun := 0 } ∧ t.enc = s.enc ∧ t.epoch = s.epoch ∧ t.cal = s.cal ∧
         (s.node.state = .referenced → s.pos.abs = true →
           t.node = { s.node with state := .unreferenced, reason := .fault, basis := .none, confirmed := false })))

/-- The coarse word that decides an INITIAL restore: play set, vernier evaluated, decision taken,
and the node, the count and the mirror as the decision gives them. -/
def Obligations.CoarseWordDecidesTheRestore : Prop :=
  ∀ (g : CoarseAngle) (c1 c0 : Bool) (joint : Joint) (e : Int) (s : State),
    s.enc.coarse.reading = true → checkBitsRight (g.zeroExtend 14) false c1 c0 = true →
    s.node.state = .restoring .decide → s.node.phase = .initial → s.cal.valid = true → s.pos.abs = false →
    s.work.joint = some joint → joint.e = some e → s.work.evaluated = false → s.active .coarseEncoder = false →
    MirrorFollowsCount s →
    let c := s.cal.data
    let r := s.ret.record
    let θ := s.pos.thetaLast
    let q := quadrantOf θ
    let kept := r.playKnown = true ∧ q = r.qRet
    let play : Int := if kept then max (-s.cal.h) (min s.cal.h r.s) else 0
    let known := if kept then true else (s.cal.h == 0)
    let o := retainedOutcome r s.node.continuity q
    let base := coarseJoint c (correctedAngle c g) + playJoint c play
    let guide := match o with
      | .adjusted t => some (jointExact c (t * 16384 + θ.toNat - joint.k))
      | .unusable _ => none
    let v := vernier s.cal true known base joint.k θ guide
    let d := initialDecision s.setup.latched.retainedAlone s.setup.latched.vernierAlone o v
    ∃ t, exec (.encoderReadComplete (.coarse g false c1 c0)) s = .next t ∧
      t.pos.s = play ∧ t.pos.playKnown = known ∧ t.pos.acc = 0 ∧ t.pos.thetaLast = θ ∧
      t.pos.p = (match d.2 with
        | some n => n * 16384 + (θ.toNat : Int)
        | none => s.pos.p) ∧
      t.pos.abs = d.2.isSome ∧ t.pos.gq = correctedAngle c g ∧ t.pos.usable = true ∧
      t.ret.mirror = mirrorView false t.pos ∧ t.ret.record = r ∧
      t.node.report.decision = d.1 ∧ t.node.report.vernier = some v ∧ t.node.report.outcome = some o ∧
      t.node.report.decideTag = some s.epoch.count ∧
      (d.1 = .confirmed → t.node.state = .referenced ∧ t.node.basis = .retained ∧ t.node.confirmed = true) ∧
      (d.1 = .retainedAlone → t.node.state = .referenced ∧ t.node.basis = .retained ∧ t.node.confirmed = false) ∧
      (d.1 = .vernierAlone → t.node.state = .referenced ∧ t.node.basis = .vernier ∧ t.node.confirmed = false) ∧
      (d.1 = .insufficient → t.node.state = .unreferenced ∧ t.node.reason = .insufficient ∧ t.node.basis = .none) ∧
      (d.1 = .conflict → t.node.state = .unreferenced ∧ t.node.reason = .conflict ∧ t.node.basis = .none ∧
        kindHas t.faults.active .restoreConflict = true ∧
        ∃ x, t.node.conflict = some x ∧ x.kind = .initial ∧ x.vernierSide = v.tv ∧ x.decideTurn = s.pos.p / 16384 ∧
          x.r = v.r ∧ x.margin = v.margin ∧ x.tag = s.epoch.count ∧ o = .adjusted x.retainedSide)

/-- The other ends of a coarse read: an INITIAL decision without a usable coarse read, the decision
of a CONFIRMATION, and the coarse read of a node that decides nothing. (The candidate count 0 of an
UNAVAILABLE result is the model's, log 20.) -/
def Obligations.CoarseReadElsewhere : Prop :=
  let failing := fun (c : Instr) =>
    (∃ ack, c = .encoderReadTimeout .coarse ack) ∨ ∃ g error c1 c0, c = .encoderReadComplete (.coarse g error c1 c0) ∧
      (checkBitsRight (g.zeroExtend 14) error c1 c0 = false ∨ error = true)
  (∀ (c : Instr) (joint : Joint) (s : State), failing c → s.enc.coarse.reading = true →
    s.node.state = .restoring .decide → s.node.phase = .initial → s.cal.valid = true → s.pos.abs = false →
    s.work.joint = some joint → s.work.evaluated = false → MirrorFollowsCount s →
    let o := retainedOutcome s.ret.record s.node.continuity (quadrantOf s.pos.thetaLast)
    let taken := s.setup.latched.retainedAlone = true ∧ ∃ n, o = .adjusted n
    ∃ t, exec c s = .next t ∧ t.pos.usable = false ∧ t.ret.mirror = mirrorView false t.pos ∧ t.ret.record = s.ret.record ∧
      t.node.report.vernier = some ⟨.unavailable, 0, 0, 0, 0⟩ ∧ t.node.report.outcome = some o ∧
      t.node.report.decideTag = some s.epoch.count ∧
      (∀ n, o = .adjusted n → taken → t.node.report.decision = .retainedAlone ∧ t.node.state = .referenced ∧
        t.node.basis = .retained ∧ t.node.confirmed = false ∧ t.pos.abs = true ∧
        t.pos.p = n * 16384 + (s.pos.thetaLast.toNat : Int)) ∧
      (¬taken → t.node.report.decision = .insufficient ∧ t.node.state = .unreferenced ∧ t.node.reason = .insufficient ∧
        t.node.basis = .none ∧ t.pos.abs = false ∧ t.pos.p = s.pos.p)) ∧
  (∀ (c : Instr) (joint : Joint) (s : State), s.enc.coarse.reading = true →
    s.node.state = .restoring .decide → s.node.phase = .confirmation → s.cal.valid = true → s.pos.abs = true →
    s.work.joint = some joint → joint.e.isSome = true → s.work.evaluated = false →
    let live := s.pos.p / 16384
    let went := fun (d : RestoreDecision) (v : VernierResult) (t : State) =>
      t.node.report.decision = d ∧ t.node.report.phase = .confirmation ∧ t.node.report.live = true ∧
      t.node.report.tRet = live ∧ t.node.report.vernier = some v ∧ t.node.report.decideTag = some s.epoch.count ∧
      t.pos.p = s.pos.p ∧ t.pos.driftRun = 0 ∧
      (d ≠ .conflict → t.node.state = .referenced ∧ t.node.reason = .none ∧ t.node.basis = s.node.basis ∧
        t.node.confirmed = s.node.confirmed ∧ t.node.conflict = s.node.conflict ∧ t.pos.abs = true) ∧
      (d = .conflict → t.node.state = .unreferenced ∧ t.node.reason = .conflict ∧ t.node.basis = .none ∧
        t.node.confirmed = false ∧ t.pos.abs = false ∧ kindHas t.faults.active .restoreConflict = true ∧
        t.node.conflict = some ⟨.confirmation, live, v.tv, live, v.r, v.margin, s.epoch.count⟩)
    (failing c → ∃ t, exec c s = .next t ∧ went .kept ⟨.unavailable, 0, 0, 0, 0⟩ t) ∧
    (∀ g c1 c0, c = .encoderReadComplete (.coarse g false c1 c0) → checkBitsRight (g.zeroExtend 14) false c1 c0 = true →
      s.active .coarseEncoder = false →
      let base := coarseJoint s.cal.data (correctedAngle s.cal.data g) + playJoint s.cal.data s.pos.s
      let v := vernier s.cal true s.pos.playKnown base joint.k s.pos.thetaLast (some joint.j)
      ∃ t, exec c s = .next t ∧
        (v.status = .clear → v.tv = live → went .reconfirmed v t) ∧
        (v.status = .clear → v.tv ≠ live → went .conflict v t) ∧ (v.status ≠ .clear → went .kept v t))) ∧
  ∀ (g : CoarseAngle) (c1 c0 : Bool) (s : State), s.enc.coarse.reading = true →
    checkBitsRight (g.zeroExtend 14) false c1 c0 = true → s.active .coarseEncoder = false →
    s.node.state = .referenced ∨ s.node.state = .unreferenced →
    let heard := fun (t : State) => t.work.coarse = .good g ∧ t.enc.motor = s.enc.motor ∧
      t.enc.coarse = { s.enc.coarse with
        reading := false, failRun := 0, goodRun := if s.enc.coarse.goodRun < 255 then s.enc.coarse.goodRun + 1 else 255 } ∧
      t.selfCheck = { s.selfCheck with coarsePort := .present } ∧ t.pos.p = s.pos.p
    (s.work.joint = none ∨ s.cal.valid = false ∨ s.work.evaluated = true →
      ∃ t, exec (.encoderReadComplete (.coarse g false c1 c0)) s = .next t ∧ heard t ∧ t.pos = s.pos ∧ t.node = s.node) ∧
    (∀ (joint : Joint) (e : Int), s.work.joint = some joint → joint.e = some e → s.cal.valid = true →
      s.work.evaluated = false →
      let jg := coarseJoint s.cal.data (correctedAngle s.cal.data g)
      let sj := playJoint s.cal.data s.pos.s
      let u := { s.pos with
        evaluated := true, usable := true, gq := correctedAngle s.cal.data g, jg := jg, lastE := e, lastSj := sj }
      let runs := s.node.state = .referenced ∧ ∀ px, s.work.motor ≠ .extrapolated px
      let past := s.cal.data.driftLimit < |driftOf joint.j (jg + sj)|
      ∃ t, exec (.encoderReadComplete (.coarse g false c1 c0)) s = .next t ∧ heard t ∧ t.work.evaluated = true ∧
        (¬runs → t.pos = u ∧ t.node = s.node) ∧
        (runs → ¬past → t.pos = { u with driftRun := 0 } ∧ t.node = s.node) ∧
        (runs → past → s.pos.driftRun ≠ 2 → t.pos = { u with driftRun := s.pos.driftRun + 1 } ∧ t.node = s.node) ∧
        (runs → past → s.pos.driftRun = 2 → t.pos = { u with driftRun := 0, abs := false } ∧
          kindHas t.faults.active .vernierDrift = true ∧ (s.pos.abs = true → t.node.state = .unreferenced)))

/-! ### Commands: coupling and peers -/

/-- COUPLING_LOST, an entry past its timeout, and the end of the quiet run. (That they are commands
of their own: log 2.) -/
def Obligations.CouplingAndPeerLosses : Prop :=
  ∀ s : State,
    (s.setup.latched.source.isSome = true → s.coupling.opened = true → s.coupling.missCount = s.setup.latched.missLimit →
      s.active .couplingLost = false →
      ∃ t, exec .couplingLost s = .next t ∧ kindHas t.faults.active .couplingLost = true ∧
        t.faults.last = some ⟨.couplingLost, s.epoch.count, s.node.state, .none⟩ ∧
        t.pos.p = s.pos.p ∧ t.pos.abs = s.pos.abs ∧ t.coupling = s.coupling ∧ t.peers = s.peers ∧ t.cal = s.cal ∧
        (s.node.state = .referenced →
          t.node = { s.node with state := .restoring .waitSource, phase := .confirmation }) ∧
        (s.node.state = .calibrating →
          t.node = { s.node with state := .restoring .waitSource, phase := .confirmation } ∧ t.sweep.outcome = .discarded) ∧
        (s.inHoming = true → t.homing.outcome = .failed ∧ t.homing.reason = .peerLost) ∧
        (s.node.state = .unreferenced → t.node = s.node)) ∧
    (∀ (a : Address) (e : PeerEntry), s.peers.entry? a = some e → e.absent = false → s.setup.latched.peerTimeout < e.age →
      ∃ t, exec (.peerAbsent a) s = .next t ∧
        t.peers = { s.peers with
          entries := s.peers.entries.map fun x => if x.address == a then { x with absent := true } else x } ∧
        (s.peers.anyAbsent = false → kindHas t.faults.active .memberAbsent = true) ∧
        (s.peers.anyAbsent = true → t.faults = s.faults) ∧
        t.pos.p = s.pos.p ∧ t.pos.abs = s.pos.abs ∧ t.coupling = s.coupling ∧ t.epoch = s.epoch ∧ t.cal = s.cal) ∧
    (s.peers.quietRun = some 64 → s.active .addressClash = true →
      exec .quietRun64 s = .next { s with faults := { s.faults with
        present := kindRemove s.faults.present .addressClash } })

/-- The match of an epoch: the frame handed over with its K, its trusted flag judged with the miss
count before the match, the misses forgotten, COUPLING_LOST gone, and the Reference Controller told.
The miss of an epoch that closes unmatched: counted, remembered for the next frame, COUPLING_LOST at
missLimit, and a capture epoch ended with SOURCE_MISSED. (That the flag is kept where no frame is:
log 48.) -/
def Obligations.MatchAndMiss : Prop :=
  (∀ (f : SourceFrame) (s : State), s.setup.latched.source.isSome = true → s.coupling.opened = true →
    s.coupling.own = true → s.coupling.matched = false → s.coupling.source = some f → s.work.coarse = .pending →
    let t := tryMatch s
    let k := if s.cal.valid then couplingTerm s.cal.data f.p else 0
    let joint := formJoint s.cal true (epochCount s.pos s.work.motor).1 k
    let trusted := s.pos.abs && (s.node.state == .referenced || s.inHoming || s.node.state == .calibrating) &&
      s.cal.valid && f.absolute && decide (s.coupling.missCount < s.setup.latched.missLimit)
    t.coupling = { s.coupling with matched := true, lastAbsolute := some f.absolute, missCount := 0 } ∧
    t.work.joint = some joint ∧ t.pos.j = joint.j ∧ t.pos.p = s.pos.p ∧
    (s.epoch.alignment = .aligned → t.node.trusted = trusted ∧
      (s.link.placing = true → t.link.positionSlot =
        some ⟨kindPosition, s.straps.address, 15#4, s.positionPayload joint trusted⟩)) ∧
    kindHas t.faults.active .couplingLost = false ∧
    (f.absolute = false → s.node.state = .referenced → t.node.state = .restoring .waitSource ∧ t.node.phase = .confirmation) ∧
    (f.absolute = true → s.node.state = .restoring .waitSource → (∃ d, s.work.motor = .counted d) →
      t.node.state = .restoring .decide) ∧
    (∀ px, f.absolute = true → s.node.state = .restoring .waitSource → s.work.motor = .extrapolated px →
      t.node.state = .restoring .waitSource)) ∧
  ∀ s : State, s.setup.latched.source.isSome = true → s.coupling.opened = true → s.coupling.matched = false →
    let t := closeCoupling s
    t.coupling = { s.coupling with prevMissed := true, missCount := if s.coupling.missCount < 255 then s.coupling.missCount + 1 else 255 } ∧
    t.pos.p = s.pos.p ∧ t.work = s.work ∧
    (s.node.state = .homing .capture → s.homingOp.captured = true →
      t.homing.outcome = .failed ∧ t.homing.reason = .sourceMissed) ∧
    (t.coupling.missCount = s.setup.latched.missLimit → kindHas t.faults.active .couplingLost = true) ∧
    (t.coupling.missCount ≠ s.setup.latched.missLimit → t.faults = s.faults)

/-! ### Commands: retention -/

/-- Entry to RETAIN from STARTUP or any later state: the record formed from the mirror or kept while
it is held, the tracker begun, every record of the main domain at its start values. -/
def Obligations.RetainEntry : Prop :=
  ∀ (cause : EntryCause) (low : Bool) (s : State), s.mainUp = true →
    let why : RetainedCause := match cause with
      | .powerLoss => .powerLoss
      | .reset => .reset
    let m := s.ret.mirror
    let formed : RetainedRecord :=
      { cause := why, anchored := m.abs, validity := if m.abs then .valid else .unanchored, reason := .none
        tRet := m.t, qRet := m.quadrant, s := m.s, playKnown := m.playKnown, lastDir := m.lastDir, netTurns := 0, reentries := 0 }
    let keptRec := { s.ret.record with
      cause := why, reentries := if s.ret.record.reentries < 255 then s.ret.record.reentries + 1 else 255 }
    let base := if m.held then keptRec else formed
    let record := if low = true ∧ base.validity ≠ .lost then { base with validity := .lost, reason := .backup } else base
    let off := low = true ∧ (cause = .powerLoss ∨ s.pins.vmainGood = false)
    ∃ t, exec (.retainEntry cause low) s = .next t ∧ t.ret.record = record ∧ t.ret.mirror = m ∧
      t.ret.tracker = { interval := .fast, unchangedRun := 0, failedRun := 0, running := record.validity != .lost
                        reading := record.validity != .lost } ∧
      t.ret.dwellMet = true ∧ t.ret.stateLost = s.ret.stateLost ∧
      (off → t.node.state = .off) ∧ (¬off → t.node.state = .retain) ∧
      t.brk = false ∧ t.den = false ∧ t.gate = MotionGate.start ∧ t.epoch = EpochUnit.start ∧ t.enc = EncoderInterface.start ∧
      t.pos = PositionUnit.start ∧ t.link = LinkController.start ∧ t.faults = FaultSupervisor.start ∧
      t.homing = HomingRecord.start ∧ t.homingOp = HomingOp.start ∧ t.sweep = SweepRecord.start ∧
      t.coupling = CouplingRecord.start ∧ t.peers = PeerTable.start [] ∧ t.restartPending = false ∧
      t.work = EpochWork.start ∧ t.cal = WorkingCal.start ∧ t.setup = SetupCopies.start ∧ t.selfCheck = SelfCheck.start ∧
      t.store.calArea = s.store.calArea ∧ t.store.setupArea = s.store.setupArea ∧ t.store.writing = none ∧
      t.store.crcWritten = false ∧ t.store.calOutcome = .none ∧ t.store.setupOutcome = .none ∧
      t.store.calMarked = false ∧ t.store.setupMarked = false ∧
      t.straps = s.straps ∧ t.pending = s.pending ∧ t.free = s.free

/-- The tracker's reads in RETAIN: begun, good with the quadrant table and the interval, failed with
the run of three, and the two counts that stand at their mark; nothing else of the node changes. A
word is good with both check bits right and the error bit 0, and any other word fails. (That the two
counts are commands of their own: log 2.) -/
def Obligations.TrackerReads : Prop :=
  ∀ s : State, s.node.state = .retain →
    let r := s.ret.record
    let k := s.ret.tracker
    (k.running = true → k.reading = false →
      exec .trackerReadStart s = .next { s with ret := { s.ret with tracker := { k with reading := true } } }) ∧
    (k.reading = true → ∀ θ : Theta, ∀ c1 c0 : Bool, checkBitsRight θ false c1 c0 = true →
      let q := quadrantOf θ
      let step := (q.toNat + 4 - r.qRet.toNat) % 4
      let run := if k.unchangedRun < 64 then k.unchangedRun + 1 else 64
      let turn : Int := if r.qRet = 3#2 ∧ q = 0#2 then 1 else if r.qRet = 0#2 ∧ q = 3#2 then -1 else 0
      let inside := -32768 ≤ r.tRet + turn ∧ r.tRet + turn ≤ 32767
      ∃ t, exec (.trackerReadGood ⟨θ, false, c1, c0⟩) s = .next t ∧ t = { s with ret := t.ret } ∧
        t.ret = { s.ret with record := t.ret.record, tracker := t.ret.tracker } ∧
        (step = 0 → t.ret.record = r ∧ t.ret.tracker =
          { k with reading := false, failedRun := 0, unchangedRun := run, interval := if run = 64 then .slow else k.interval }) ∧
        (step ≠ 0 → t.ret.tracker = { k with reading := false, failedRun := 0, unchangedRun := 0, interval := .fast } ∧
          t.ret.record.qRet = q ∧ t.ret.record.playKnown = false ∧ t.ret.record.s = 0 ∧ t.ret.record.cause = r.cause ∧
          t.ret.record.anchored = r.anchored ∧ t.ret.record.reentries = r.reentries) ∧
        (step = 1 → t.ret.record.lastDir = .forward) ∧ (step = 3 → t.ret.record.lastDir = .backward) ∧
        (step = 2 → t.ret.record.lastDir = r.lastDir ∧ t.ret.record.tRet = r.tRet ∧
          (r.validity = .valid → t.ret.record.validity = .doubtful ∧ t.ret.record.reason = .step) ∧
          (r.validity ≠ .valid → t.ret.record.validity = r.validity ∧ t.ret.record.reason = r.reason)) ∧
        (step = 1 ∨ step = 3 → turn = 0 ∨ inside →
          t.ret.record.tRet = r.tRet + turn ∧ t.ret.record.netTurns = r.netTurns + turn ∧
          t.ret.record.validity = r.validity ∧ t.ret.record.reason = r.reason) ∧
        (step = 1 ∨ step = 3 → turn ≠ 0 → ¬inside → t.ret.record.tRet = r.tRet ∧
          (r.validity = .valid → t.ret.record.validity = .doubtful ∧ t.ret.record.reason = .range) ∧
          (r.validity ≠ .valid → t.ret.record.validity = r.validity))) ∧
    (k.reading = true → ∀ ending : TrackerFailure,
      (ending = .timeout ∨ ∃ w : TrackerWord, ending = .word w ∧
        (w.error = true ∨ checkBitsRight w.angle w.error w.c1 w.c0 = false)) →
      let run := if k.failedRun < 3 then k.failedRun + 1 else 3
      exec (.trackerReadFailed ending) s = .next { s with ret := { s.ret with
        tracker := { k with reading := false, failedRun := run, unchangedRun := 0, interval := .fast }
        record := if run = 3 ∧ r.validity = .valid then { r with validity := .doubtful, reason := .encoder } else r } }) ∧
    (k.unchangedRun = 64 →
      exec .trackerUnchanged64 s = .next { s with ret := { s.ret with tracker := { k with interval := .slow } } }) ∧
    (k.failedRun = 3 → r.validity = .valid →
      exec .trackerFailedRun3 s = .next { s with ret := { s.ret with
        record := { r with validity := .doubtful, reason := .encoder } } })

/-- The supplies in RETAIN and in OFF, the RESTART dwell, and the backup comparison of the main
domain. (The supply levels are kept as last reported: log 9; the fields of a stopped tracker are
kept: log 38.) -/
def Obligations.SuppliesAndDwell : Prop :=
  ∀ s : State,
    let stopped := { s.ret.tracker with running := false, reading := false }
    let lost := if s.ret.record.validity = .lost then s.ret.record else { s.ret.record with validity := .lost, reason := .backup }
    (s.node.state = .retain → ∀ vmain : Bool,
      exec (.backupCollapse vmain) s = .next { s with
        pins := { s.pins with vbakLow := true, vmainGood := vmain }
        ret := { s.ret with record := lost, tracker := stopped }
        node := { s.node with state := if vmain then .retain else .off } }) ∧
    (s.node.state = .retain →
      exec (.lossOfVmainInRetain true) s = .next { s with
        pins := { s.pins with vmainGood := false, vbakLow := true }
        ret := { s.ret with record := lost, tracker := stopped }
        node := { s.node with state := .off } } ∧
      exec (.lossOfVmainInRetain false) s = .next { s with pins := { s.pins with vmainGood := false, vbakLow := false } }) ∧
    (s.node.state = .retain → exec .restartDwellExpiry s = .next { s with ret := { s.ret with dwellMet := true } }) ∧
    (s.node.state = .off → exec .retentionStateLoss s = .next { s with ret := { s.ret with stateLost := true } }) ∧
    (s.epoch.running = true → s.active .backupLow = false → s.actionOf .backupLow = .report →
      ∃ t, exec .backupLowRaise s = .next t ∧ Settles s { s with faults := { s.faults with
        active := kindAdd s.faults.active .backupLow, present := kindAdd s.faults.present .backupLow
        latchedSet := kindAdd s.faults.latchedSet .backupLow
        first := some (s.faults.first.getD ⟨.backupLow, s.epoch.count, s.node.state, .none⟩)
        last := some ⟨.backupLow, s.epoch.count, s.node.state, .none⟩ } } t) ∧
    (s.epoch.running = true → s.active .backupLow = true →
      ∃ t, exec .backupLowClear s = .next t ∧ Settles s { s with
        pins := { s.pins with vbakLow := false }
        faults := { s.faults with
          active := kindRemove s.faults.active .backupLow, present := kindRemove s.faults.present .backupLow } } t)

/-- The starts: the exit from RETAIN once the dwell is met, and the three returns from OFF, with the
domain's state kept or lost. (The fields of a stopped tracker are kept: log 38.) -/
def Obligations.StartsOfTheMainDomain : Prop :=
  let started := fun (t : State) (r : RetainedRecord) (straps : Straps) =>
    t.node = NodeRecord.start r ∧ t.straps = straps ∧ t.ret.record = r ∧
    t.ret.mirror = { t := r.tRet, quadrant := r.qRet, abs := r.validity == .valid, s := r.s, playKnown := r.playKnown
                     lastDir := r.lastDir, held := true } ∧
    t.ret.tracker.running = false ∧ t.ret.tracker.reading = false ∧ t.pos = PositionUnit.start ∧ t.epoch = EpochUnit.start ∧
    t.link = LinkController.start ∧ t.faults = FaultSupervisor.start ∧ t.gate = MotionGate.start ∧
    t.homing = HomingRecord.start ∧ t.sweep = SweepRecord.start ∧ t.coupling = CouplingRecord.start ∧
    t.rdyHeld = true
  let cold : RetainedRecord := ⟨.none, false, .lost, .cold, 0, 0, 0, false, .none, 0, 0⟩
  ∀ s : State,
    let r := if s.ret.stateLost then cold else s.ret.record
    (s.node.state = .retain → s.ret.dwellMet = true → ∀ straps : Straps,
      ∃ t, exec (.retainExit straps) s = .next t ∧ started t s.ret.record straps ∧
        t.ret.tracker = { s.ret.tracker with running := false, reading := false } ∧
        t.store.calArea = s.store.calArea ∧ t.store.setupArea = s.store.setupArea ∧ t.pending = s.pending) ∧
    (s.node.state = .off → ∀ straps : Straps,
      ∃ t, exec (.offReturn (.startup straps)) s = .next t ∧ started t r straps ∧ t.ret.stateLost = false ∧
        t.store.calArea = s.store.calArea ∧ t.store.setupArea = s.store.setupArea ∧ t.pending = s.pending) ∧
    (s.node.state = .off → ∀ how : OffReturn, (∀ straps, how ≠ .startup straps) →
      ∃ t, exec (.offReturn how) s = .next t ∧ t.node.state = .retain ∧ t.ret.record = r ∧ t.ret.stateLost = false ∧
        t.ret.tracker.running = false ∧ t.ret.dwellMet = true ∧ t.store.calArea = s.store.calArea ∧ t.pending = s.pending)

/-! ### Commands: the store -/

/-- The load in STARTUP with valid straps: good records copied, bad ones replaced by defaults or
blanks with their fault; the Epoch Unit and the entries begun. And the read-back after it. The
judgement of a stored area: GOOD only with its CRC and with every field in range. (The byte order
under the CRC is the model's, log 15.) -/
def Obligations.LoadAndJudgeRecords : Prop :=
  ((∀ s : State, s.node.state = .startup → s.straps.address ≠ 15#4 → s.straps.axis ≠ 0#3 → s.epoch.running = false →
     let setup := judgeSetup s.straps.address s.store.setupArea
     let cal := judgeCal s.store.calArea
     ∃ t, exec .storeLoadComplete s = .next t ∧
       t.setup = (match setup.2 with
         | some x => ⟨x, x, false⟩
         | none => ⟨Setup.defaults, Setup.defaults, false⟩) ∧
       t.cal = (match cal.2 with
         | some x => ⟨x, true, false⟩
         | none => ⟨CalRecord.blank, false, false⟩) ∧
       t.selfCheck = { s.selfCheck with setupRecord := setup.1, calRecord := cal.1 } ∧
       t.peers = ⟨t.setup.latched.members.map PeerEntry.start, none⟩ ∧
       t.epoch.running = true ∧ t.epoch.timer = .running ∧ t.epoch.sync = .synced ∧ t.epoch.count = 0#8 ∧
       t.epoch.epochSynced = false ∧ t.epoch.lowWatch = !s.pins.smpHigh ∧ t.epoch.driveLow = false ∧
       t.node.state = .startup ∧ t.ret.record = s.ret.record ∧ t.store = s.store ∧ t.pos.p = s.pos.p ∧
       (setup.1 ≠ .good → kindHas t.faults.active .setupInvalid = true) ∧
       (cal.1 ≠ .good → kindHas t.faults.active .calInvalid = true) ∧
       (setup.1 = .good → cal.1 = .good → t.faults = s.faults)) ∧
   ∀ (setupMatch calMatch : Bool) (s : State),
     s.node.state = .startup → s.epoch.running = true → s.link.watching = false →
     let found := fun (record : RecordCheck) (same : Bool) =>
       if record = .good then (if same then CopyCheck.isMatch else .mismatch) else .notApplicable
     exec (.selfCheckReadback setupMatch calMatch) s = .next { s with
       selfCheck := { s.selfCheck with
         setupCopy := found s.selfCheck.setupRecord setupMatch, calCopy := found s.selfCheck.calRecord calMatch }
       link := { s.link with watching := true } }) ∧
  ((judgeCal .unwritten = (.badCrc, none) ∧
     ∀ (c : CalRecord) (crc : BitVec 16),
       (crc ≠ crc16 (calRecordBytes c) → judgeCal (.written c crc) = (.badCrc, none)) ∧
       (crc = crc16 (calRecordBytes c) → calRecordOk c = false → judgeCal (.written c crc) = (.badContent, none)) ∧
       (crc = crc16 (calRecordBytes c) → calRecordOk c = true → judgeCal (.written c crc) = (.good, some c))) ∧
   ∀ own : Address, judgeSetup own .unwritten = (.badCrc, none) ∧
     ∀ (x : Setup) (crc : BitVec 16),
       (crc ≠ crc16 (setupRecordBytes x) → judgeSetup own (.written x crc) = (.badCrc, none)) ∧
       (crc = crc16 (setupRecordBytes x) → setupRecordOk own x = false → judgeSetup own (.written x crc) = (.badContent, none)) ∧
       (crc = crc16 (setupRecordBytes x) → setupRecordOk own x = true → judgeSetup own (.written x crc) = (.good, some x)))

/-- The end of a store write: the CRC written, then the verify with its match or its mismatch. (The
byte order under the CRC is the model's, log 15, and so is that the cells take the write, log 51.)
-/
def Obligations.StoreWriteEnds : Prop :=
  ∀ s : State,
    (s.store.crcWritten = false → s.store.writing = some .cal →
      exec .storeCrcWritten s = .next { s with store := { s.store with
        calArea := .written s.store.calSnapshot (crc16 (calRecordBytes s.store.calSnapshot)), crcWritten := true } }) ∧
    (s.store.crcWritten = false → s.store.writing = some .setup →
      exec .storeCrcWritten s = .next { s with store := { s.store with
        setupArea := .written s.store.setupSnapshot (crc16 (setupRecordBytes s.store.setupSnapshot)), crcWritten := true } }) ∧
    (s.store.crcWritten = true → s.store.writing = some .cal →
      ∃ t, exec (.storeVerify .asWritten) s = .next t ∧ t.store.writing = none ∧ t.store.calOutcome = .verified ∧
        t.store.setupOutcome = s.store.setupOutcome ∧ t.store.calArea = s.store.calArea ∧
        t.cal = { s.cal with valid := true, dirty := s.cal.dirty && s.store.calMarked } ∧
        kindHas t.faults.active .calInvalid = false ∧ t.node = s.node ∧ t.setup = s.setup ∧
        (s.cal.valid = true → t.pos = s.pos) ∧
        (s.cal.valid = false → t.pos = { s.pos with s := 0, acc := 0, playKnown := s.cal.data.lm / 2 == 0 })) ∧
    (s.store.crcWritten = true → s.store.writing = some .setup →
      ∃ t, exec (.storeVerify .asWritten) s = .next t ∧ t.store.writing = none ∧ t.store.setupOutcome = .verified ∧
        t.store.calOutcome = s.store.calOutcome ∧ t.store.setupArea = s.store.setupArea ∧
        t.setup = { s.setup with dirty := s.setup.dirty && s.store.setupMarked } ∧
        kindHas t.faults.active .setupInvalid = false ∧ t.node = s.node ∧ t.cal = s.cal ∧ t.pos = s.pos) ∧
    (s.store.crcWritten = true → s.store.writing = some .cal → ∀ found : Area CalRecord,
      found ≠ .written s.store.calSnapshot (crc16 (calRecordBytes s.store.calSnapshot)) →
      ∃ t, exec (.storeVerify (.cal found)) s = .next t ∧ t.store.writing = none ∧ t.store.calOutcome = .failed ∧
        t.store.calArea = found ∧ t.cal = s.cal ∧ kindHas t.faults.active .storeFailed = true ∧
        kindHas t.faults.present .storeFailed = false ∧ s.active .calInvalid = kindHas t.faults.active .calInvalid) ∧
    (s.store.crcWritten = true → s.store.writing = some .setup → ∀ found : Area Setup,
      found ≠ .written s.store.setupSnapshot (crc16 (setupRecordBytes s.store.setupSnapshot)) →
      ∃ t, exec (.storeVerify (.setup found)) s = .next t ∧ t.store.writing = none ∧ t.store.setupOutcome = .failed ∧
        t.store.setupArea = found ∧ t.setup = s.setup ∧ kindHas t.faults.active .storeFailed = true)

/-! ### Commands: the link -/

/-- The line and the link's marks: join, idle, stuck, the count of 32 intact frames, and the rejoin.
(That LINK_REJOIN and INTACT_COUNT_32 are commands of their own: log 2; the run lengths of the line
at a command's end are the model's: log 22; so are the idle periods after a rejoin: log 46.) The
health state by its table, the counter's moves within 0..224, frozen while DETACHED, and the entry
to DETACHED with what it empties. -/
def Obligations.LineMarksAndHealth : Prop :=
  (∀ s : State,
     let run := if s.link.recessiveRun < 11 then 11 else s.link.recessiveRun + 11
     let idle := { s.link with recessiveRun := run, dominantRun := 0, stuck := false, awaitIdle := false }
     (s.link.watching = true → s.link.joined = false → s.link.health < 224 →
       exec .linkJoin s = .next { s with link := { idle with
         joined := true, beaconCount := 0, statusSlot := some ⟨kindStatus, s.straps.address, 15#4, s.statusPayload⟩ } }) ∧
     (s.link.joined = true → s.link.health < 224 → exec .lineIdle s = .next { s with link := idle }) ∧
     (s.link.joined = true → s.link.health = 224 → s.link.idlePeriods < 63 →
       exec .lineIdle s = .next { s with link := { idle with idlePeriods := s.link.idlePeriods + 1 } }) ∧
     (s.link.joined = true → s.link.health = 224 → s.link.idlePeriods = 63 →
       ∃ t, exec .lineIdle s = .next t ∧ t.link.health = 0 ∧ t.link.intact = 0 ∧ t.link.idlePeriods = 0 ∧
         kindHas t.faults.active .linkDetached = false ∧
         t.link.statusSlot = some (t.ownFrame kindStatus t.statusPayload) ∧ t.link.beaconCount = 0) ∧
     (s.link.joined = true → s.link.health = 224 → 64 ≤ s.link.idlePeriods →
       ∃ t, exec .linkRejoin s = .next t ∧ t.link.health = 0 ∧ t.link.intact = 0 ∧ t.link.idlePeriods = 0 ∧
         kindHas t.faults.active .linkDetached = false ∧
         t.link.statusSlot = some (t.ownFrame kindStatus t.statusPayload) ∧ t.link.beaconCount = 0 ∧ t.node = s.node) ∧
     (s.link.watching = true →
       exec .lineStuck s = .next { s with link := { s.link with
         stuck := true, dominantRun := 41, recessiveRun := 0
         stuckCount := if s.link.stuckCount < 255 then s.link.stuckCount + 1 else 255 } }) ∧
     (s.link.intact = 32 → s.link.health < 224 →
       ∃ t, exec .intactCount32 s = .next t ∧
         Settles s { s with link := { s.link with intact := 0, health := s.link.health - 1 } } t)) ∧
  ((∀ n : Nat, (healthState n = .engaged ↔ n ≤ 95) ∧ (healthState n = .caution ↔ 96 ≤ n ∧ n ≤ 159) ∧
     (healthState n = .listen ↔ 160 ≤ n ∧ n ≤ 223) ∧ (healthState n = .detached ↔ 224 ≤ n)) ∧
   (∀ s : State, (s.link.health = 224 → easeHealth s = s) ∧
     (s.link.health < 224 → easeHealth s = { s with link := { s.link with health := s.link.health - 1 } })) ∧
   ∀ (n : Nat) (low : Bool) (s : State),
     (s.link.health = 224 → worsenHealth n low s = s) ∧
     (s.link.health + n < 224 →
       worsenHealth n low s = { s with link := { s.link with health := s.link.health + n } }) ∧
     (s.link.health < 224 → 224 ≤ s.link.health + n → (∀ r ∈ s.link.replies, r.restart = false) →
       let t := worsenHealth n low s
       kindHas t.faults.active .linkDetached = true ∧
       t.link = { s.link with
         health := 224, positionSlot := none, statusSlot := none, replies := [], requests := [], idlePeriods := 0 }) ∧
     (s.link.health < 224 → 224 ≤ s.link.health + n → (∃ r ∈ s.link.replies, r.restart = true) →
       (worsenHealth n low s).ret.record.cause = .restart ∧ (worsenHealth n low s).link = LinkController.start ∧
       (low = true → (worsenHealth n low s).ret.record.validity = .lost)))

/-- The transmitter: which frame begins, what a lost arbitration gives back, and what completion and
a bit error cost; after a bit error the receiver waits for the next idle, and the RESTART reply's
end enters RETAIN with VBAK as the command reports it. (The run lengths of the line are the model's,
log 22; the place of the misread bit is what the command reports, log 10.) -/
def Obligations.TransmissionBeginsAndEnds : Prop :=
  (∀ s : State, s.link.joined = true → s.link.tx = none → s.link.stuck = false → 11 ≤ s.link.recessiveRun →
    s.link.health ≤ 159 →
    let begun := fun (f : Frame) (o : TxOrigin) =>
      { s.link with tx := some ⟨f, o, f.wire⟩, recessiveRun := 0, dominantRun := 1 }
    (∀ f, s.link.positionSlot = some f →
      exec .frameTxStart s = .next { s with link := { begun f .position with positionSlot := none } }) ∧
    (∀ f, s.link.positionSlot = none → s.link.statusSlot = some f →
      exec .frameTxStart s = .next { s with link := { begun f .status with statusSlot := none } }) ∧
    (∀ (r : Reply) (rest : List Reply), s.link.positionSlot = none → s.link.statusSlot = none → s.link.replies = r :: rest →
      exec .frameTxStart s = .next { s with link := { begun r.frame .reply with
        replies := { r with inTx := true } :: rest } })) ∧
  (∀ (x : Transmission) (s : State), s.link.tx = some x →
    ∀ sent : Nat, sent ≤ 8 → x.bits.getD sent false = true →
    let off := { s.link with tx := none, recessiveRun := 0, dominantRun := trailingDominant (x.bits.take sent) + 1 }
    (x.origin = .position → s.link.positionSlot = none →
      exec (.arbitrationLost sent) s = .next { s with link := { off with positionSlot := some x.frame } }) ∧
    (x.origin = .position → s.link.positionSlot.isSome = true →
      exec (.arbitrationLost sent) s = .next { s with link := { off with
        publishOverrun := if s.link.publishOverrun < 255 then s.link.publishOverrun + 1 else 255 } }) ∧
    (x.origin = .status → s.link.statusSlot = none →
      exec (.arbitrationLost sent) s = .next { s with link := { off with statusSlot := some x.frame } }) ∧
    (x.origin = .status → s.link.statusSlot.isSome = true → exec (.arbitrationLost sent) s = .next { s with link := off }) ∧
    (∀ (r : Reply) (rest : List Reply), x.origin = .reply → s.link.replies = r :: rest →
      exec (.arbitrationLost sent) s = .next { s with link := { off with replies := { r with inTx := false } :: rest } })) ∧
  ∀ (x : Transmission) (s : State), s.link.tx = some x → s.link.health < 224 →
    let left := if x.origin = .reply then s.link.replies.tail else s.link.replies
    let restarts := x.origin = .reply ∧ ∃ r, s.link.replies.head? = some r ∧ r.restart = true
    (¬restarts → ∀ low : Bool, ∃ t, exec (.frameTxComplete low) s = .next t ∧ Settles s { s with link := { s.link with
      tx := none, recessiveRun := trailingRecessive x.bits, dominantRun := trailingDominant x.bits
      health := s.link.health - 1, replies := left } } t) ∧
    ∀ sent : Nat, sent < x.bits.length → 9 ≤ sent ∨ x.bits.getD sent true = false →
    let recessive := x.bits.getD sent true
    (¬restarts → s.link.health < 220 → ∀ low : Bool, ∃ t, exec (.bitError low sent) s = .next t ∧
      Settles s { s with link := { s.link with
      tx := none, awaitIdle := true, health := s.link.health + 4, replies := left
      recessiveRun := if recessive then 0 else trailingRecessive (x.bits.take sent) + 1
      dominantRun := if recessive then trailingDominant (x.bits.take sent) + 1 else 0 } } t) ∧
    (¬restarts → 220 ≤ s.link.health → (∀ r ∈ s.link.replies, r.restart = false) → ∀ low : Bool,
      ∃ t, exec (.bitError low sent) s = .next t ∧ t.link.health = 224 ∧ t.link.tx = none ∧ t.link.positionSlot = none ∧
        t.link.statusSlot = none ∧ t.link.replies = [] ∧ t.link.requests = [] ∧ kindHas t.faults.active .linkDetached = true) ∧
    (restarts → s.mainUp = true → s.pins.vmainGood = true → ∀ low : Bool,
      let again := fun (t : State) =>
        t.node.state = .retain ∧ t.ret.record.cause = .restart ∧ t.ret.dwellMet = false ∧ t.link = LinkController.start ∧
        (low = true → t.ret.record.validity = .lost) ∧
        (low = false → s.ret.mirror.held = false →
          t.ret.record.validity = if s.ret.mirror.abs then .valid else .unanchored) ∧
        (low = false → s.ret.mirror.held = true → t.ret.record.validity = s.ret.record.validity)
      (∃ t, exec (.frameTxComplete low) s = .next t ∧ again t) ∧ ∃ t, exec (.bitError low sent) s = .next t ∧ again t)

/-- The receiver: every intact frame counted and handled by its kind, and a discard counted in the
health counter. (The run lengths of the line are the model's, log 22, and so is the reception of a
frame with no idle before it, log 45.) -/
def Obligations.ReceptionByKind : Prop :=
  (∀ (bits : List Bool) (f : Frame) (s : State), receive bits = .intact f → s.link.joined = true → s.link.health < 224 →
    s.link.stuck = false → s.link.tx = none → s.link.awaitIdle = false → s.link.intact < 31 →
    let heard := { s.link with
      intact := s.link.intact + 1, recessiveRun := trailingRecessive bits, dominantRun := trailingDominant bits }
    let mine := (f.dest = s.straps.address ∨ f.dest = 15#4) ∧ 1 ≤ f.payload.length
    (f.kind ≠ kindPosition → f.kind ≠ kindStatus → (f.kind = kindRequest → ¬mine) →
      exec (.frameReceived bits) s = .next { s with link := heard }) ∧
    (f.kind = kindRequest → mine → s.link.requests.length < 4 →
      exec (.frameReceived bits) s = .next { s with link := { heard with
        requests := s.link.requests ++ [⟨f.source, f.dest == 15#4, f.payload⟩] } }) ∧
    (f.kind = kindRequest → mine → 4 ≤ s.link.requests.length →
      exec (.frameReceived bits) s = .next { s with link := { heard with
        requestOverrun := if s.link.requestOverrun < 255 then s.link.requestOverrun + 1 else 255 } }) ∧
    (f.kind = kindPosition ∨ f.kind = kindStatus → f.source ≠ s.straps.address →
      s.setup.latched.members.contains f.source = false →
      exec (.frameReceived bits) s = .next { s with link := heard }) ∧
    (f.kind = kindPosition ∨ f.kind = kindStatus → f.source = s.straps.address →
      ∃ t, exec (.frameReceived bits) s = .next t ∧ t.peers = { s.peers with quietRun := some 0 } ∧
        kindHas t.faults.active .addressClash = true ∧ kindHas t.faults.present .addressClash = true ∧ t.pos.p = s.pos.p) ∧
    (f.kind = kindPosition → f.source ≠ s.straps.address → s.setup.latched.members.contains f.source = true →
      s.epoch.alignment = .aligned →
      let p := readPosition f.payload
      ∃ t, exec (.frameReceived bits) s = .next t ∧
        t.peers = { s.peers with entries := s.peers.entries.map fun e => if e.address == f.source then
          { e with heard := true, nodeState := some p.nodeState, basis := some p.basis, trusted := p.trusted
                   absolute := p.absolute, tag := some p.tag, tagClass := some (classOf p.tag s.epoch.count)
                   synced := p.synced, extrapolated := p.extrapolated, p := some p.p, j := some p.j, age := 0
                   absent := false } else e } ∧
        t.epoch.count = s.epoch.count ∧ t.epoch.alignment = .aligned) ∧
    (f.kind = kindPosition → f.source ≠ s.straps.address → s.setup.latched.members.contains f.source = true →
      s.epoch.alignment = .aligning → (readPosition f.payload).synced = true →
      ∃ t, exec (.frameReceived bits) s = .next t ∧ t.epoch.count = (readPosition f.payload).tag ∧
        t.epoch.alignment = .aligned ∧ t.epoch.realignCount = s.epoch.realignCount) ∧
    (f.kind = kindStatus → f.source ≠ s.straps.address → s.setup.latched.members.contains f.source = true →
      let p := readStatusFields f.payload
      ∃ t, exec (.frameReceived bits) s = .next t ∧
        t.peers = { s.peers with entries := s.peers.entries.map fun e => if e.address == f.source then
          { e with heard := true, nodeState := some p.nodeState, basis := some p.basis, axis := some p.axis
                   faultClass := some p.faultClass, age := 0, absent := false
                   trusted := e.trusted && !(p.nodeState == 1#3 || p.nodeState == 2#3 || p.nodeState == 3#3)
                   absolute := e.absolute && p.basis != 0#3 } else e } ∧
        t.epoch = s.epoch)) ∧
  ∀ (bits : List Bool) (why : Discard) (s : State), receive bits = .discard why → s.link.joined = true →
    s.link.health < 223 → s.link.stuck = false → s.link.tx = none → s.link.awaitIdle = false → ∀ low : Bool,
    ∃ t, exec (.frameDiscard bits low) s = .next t ∧ Settles s { s with link := { s.link with
      health := s.link.health + 1, recessiveRun := trailingRecessive bits, dominantRun := trailingDominant bits
      awaitIdle := decide (trailingRecessive bits < 11) } } t

/-- The rest of the reception: the 32nd intact frame eases the health counter; a node that is
unjoined, DETACHED, stuck or waiting for an idle receives nothing, and only the runs of the line
follow; the discard that brings the counter to 224 detaches the node; a stored frame that clears the
last ABSENT entry ends MEMBER_ABSENT; a frame with synced = no is stored but aligns nothing; a
qualifying frame of the source meets the source side, and makes the match when the own side is met.
(The run lengths of the line are the model's, log 22, and so is the reception of a frame with no
idle before it, log 45; VBAK is what the command reports, log 10.) -/
def Obligations.ReceptionEffects : Prop :=
  (∀ (bits : List Bool) (f : Frame) (s : State), receive bits = .intact f → s.link.joined = true → s.link.health < 224 →
    s.link.stuck = false → s.link.tx = none → s.link.awaitIdle = false → s.link.intact = 31 →
    ∃ t, exec (.frameReceived bits) s = .next t ∧ t.link.intact = 0 ∧ t.link.health = s.link.health - 1 ∧
      (f.kind ≠ kindPosition → f.kind ≠ kindStatus → f.kind ≠ kindRequest → Settles s { s with link := { s.link with
        intact := 0, health := s.link.health - 1, recessiveRun := trailingRecessive bits
        dominantRun := trailingDominant bits } } t)) ∧
  (∀ (bits : List Bool) (s : State), s.link.watching = true → s.link.tx = none →
    s.link.joined = false ∨ s.link.health = 224 ∨ s.link.stuck = true ∨ s.link.awaitIdle = true →
    let passed := { s with link := { s.link with
      recessiveRun := trailingRecessive bits, dominantRun := trailingDominant bits } }
    (∀ f, receive bits = .intact f → exec (.frameReceived bits) s = .next passed) ∧
    ∀ (why : Discard) (low : Bool), receive bits = .discard why → exec (.frameDiscard bits low) s = .next passed) ∧
  (∀ (bits : List Bool) (why : Discard) (low : Bool) (s : State), receive bits = .discard why → s.link.joined = true →
    s.link.health = 223 → s.link.stuck = false → s.link.tx = none → s.link.awaitIdle = false →
    ((∀ r ∈ s.link.replies, r.restart = false) →
      ∃ t, exec (.frameDiscard bits low) s = .next t ∧ t.link.health = 224 ∧ t.link.positionSlot = none ∧
        t.link.statusSlot = none ∧ t.link.replies = [] ∧ t.link.requests = [] ∧ t.link.idlePeriods = 0 ∧
        kindHas t.faults.active .linkDetached = true ∧ kindHas t.faults.present .linkDetached = true) ∧
    ((∃ r ∈ s.link.replies, r.restart = true) → s.mainUp = true → s.pins.vmainGood = true →
      ∃ t, exec (.frameDiscard bits low) s = .next t ∧ t.node.state = .retain ∧ t.ret.record.cause = .restart ∧
        (low = true → t.ret.record.validity = .lost))) ∧
  ∀ (bits : List Bool) (f : Frame) (s : State), receive bits = .intact f → s.link.joined = true → s.link.health < 224 →
    s.link.stuck = false → s.link.tx = none → s.link.awaitIdle = false → f.source ≠ s.straps.address →
    s.setup.latched.members.contains f.source = true →
    let p := readPosition f.payload
    let aligned := s.epoch.alignment = .aligned ∨ p.synced = false
    let qualifies := s.setup.latched.source = some f.source ∧ p.tag = s.epoch.count ∧ p.synced = true ∧
      s.epoch.epochSynced = true ∧ s.coupling.source = none
    (f.kind = kindPosition ∨ f.kind = kindStatus → s.peers.anyAbsent = true →
      (∀ e ∈ s.peers.entries, e.absent = true → e.address = f.source) →
      ∃ t, exec (.frameReceived bits) s = .next t ∧ kindHas t.faults.active .memberAbsent = false ∧ t.peers.anyAbsent = false) ∧
    (f.kind = kindPosition ∨ f.kind = kindStatus → (∃ e ∈ s.peers.entries, e.absent = true ∧ e.address ≠ f.source) →
      ∃ t, exec (.frameReceived bits) s = .next t ∧ kindHas t.faults.active .memberAbsent = s.active .memberAbsent ∧
        t.peers.anyAbsent = true) ∧
    (f.kind = kindPosition → s.epoch.alignment = .aligning → p.synced = false →
      ∃ t, exec (.frameReceived bits) s = .next t ∧ t.epoch = s.epoch ∧
        t.peers = { s.peers with entries := s.peers.entries.map fun e => if e.address == f.source then
          { e with heard := true, nodeState := some p.nodeState, basis := some p.basis, trusted := p.trusted
                   absolute := p.absolute, tag := some p.tag, tagClass := some (classOf p.tag s.epoch.count)
                   synced := false, extrapolated := p.extrapolated, p := some p.p, j := some p.j, age := 0
                   absent := false } else e }) ∧
    (f.kind = kindPosition → aligned → ¬qualifies →
      ∃ t, exec (.frameReceived bits) s = .next t ∧ t.coupling = s.coupling) ∧
    (f.kind = kindPosition → aligned → qualifies →
      s.coupling.opened = false ∨ s.coupling.own = false ∨ s.coupling.matched = true →
      ∃ t, exec (.frameReceived bits) s = .next t ∧
        t.coupling = { s.coupling with source := some ⟨p.p, p.absolute, p.extrapolated⟩ }) ∧
    (f.kind = kindPosition → aligned → qualifies →
      s.coupling.opened = true → s.coupling.own = true → s.coupling.matched = false →
      ∃ t, exec (.frameReceived bits) s = .next t ∧
        t.coupling = { s.coupling with source := some ⟨p.p, p.absolute, p.extrapolated⟩, matched := true
                                       lastAbsolute := some p.absolute, missCount := 0 } ∧
        kindHas t.faults.active .couplingLost = false)

/-! ### Commands: gate and retry timer -/

/-- The RDY level, the settle and bite timers, and the retry timer. -/
def Obligations.GateAndRetryTimers : Prop :=
  ∀ s : State,
    (s.mainUp = true → s.gate.rdyLevel = .high →
      ∃ t, exec .rdyLevelLow s = .next t ∧ t.gate.grant = false ∧ t.gate.jog = false ∧ t.gate.rdyLevel = .low ∧
        t.permission = false ∧ t.faults = { s.faults with
          haltCount := if s.faults.haltCount < 255 then s.faults.haltCount + 1 else 255 } ∧
        (s.permission = true → s.gate.state = .released → t.gate.state = .engaging) ∧
        (s.permission = true → s.gate.state = .enabling → t.gate.state = .applied) ∧ t.node = s.node ∧ t.pos = s.pos) ∧
    (s.mainUp = true → s.gate.rdyLevel = .low → s.rdyHeld = false →
      ∃ t, exec .rdyLevelHigh s = .next t ∧ Settles s { s with gate := { s.gate with rdyLevel := .high } } t ∧
        t.gate.grant = s.gate.grant) ∧
    (s.gate.state = .enabling → s.permission = true →
      ∃ t, exec .settleExpiry s = .next t ∧ t.gate = { s.gate with state := .released } ∧ t.brk = true ∧
        Settles s { s with gate := { s.gate with state := .released } } t) ∧
    (s.gate.state = .engaging →
      ∃ t, exec .biteExpiry s = .next t ∧
        t.gate = { s.gate with state := if s.permission then .enabling else .applied } ∧ t.brk = false ∧
        Settles s { s with gate := { s.gate with state := if s.permission then .enabling else .applied } } t) ∧
    (s.faults.retryTimer = .running → s.setup.latched.recovery = .retry → s.active .motorEncoder = true →
      8 ≤ s.enc.motor.goodRun →
      ∃ t, exec .retryTimerExpiry s = .next t ∧ Settles s { s with faults := { s.faults with
        active := kindRemove s.faults.active .motorEncoder, present := kindRemove s.faults.present .motorEncoder
        retryTimer := .stopped } } t) ∧
    (s.faults.retryTimer = .running → s.enc.motor.goodRun < 8 →
      exec .retryTimerExpiry s = .next { s with faults := { s.faults with retryTimer := .expired } })

/-! ### Commands: requests -/

/-- The reads: each is answered DONE with the fields it names and changes nothing else. (The bytes
of the packed fields are the model's, log 17 and 18, and so is the code 1 of 5 Mbit/s, log 47.)
CAL_READ and SETUP_READ: the field as the working calibration or the selected copy holds it, with
the flags; BAD_VALUE for what does not exist. (The byte of the packed flags is the model's, log 17.)
-/
def Obligations.ReadRequests : Prop :=
  (∀ (s : State) (r : Request) (rest : List Request), Waiting s r rest →
     (r.payload = [0x01#8] → exec .identify s = .next (answered s r rest (.done
       ([0x41#8, BitVec.ofNat 8 s.straps.address.toNat, BitVec.ofNat 8 s.straps.axis.toNat,
         if s.straps.fast then 1#8 else 0#8] ++ selfCheckBytes s.selfCheck)))) ∧
     (r.payload = [0x02#8, 0#8] → exec .readStatus s = .next (answered s r rest (.done s.statusPayload))) ∧
     (r.payload = [0x02#8, 1#8] → exec .readStatus s = .next (answered s r rest (.done (statusCounters s)))) ∧
     (Judged s r →
       (r.payload = [0x03#8] → exec .readFaults s = .next (answered s r rest (.done
         (bytesOf 2 s.faults.active.toNat ++ bytesOf 2 s.faults.latchedSet.toNat ++
           faultRecordBytes s.faults.first ++ faultRecordBytes s.faults.last)))) ∧
       (r.payload = [0x04#8, 0#8] → exec .readRestore s = .next (answered s r rest (.done (retainedBytes s.ret.record)))) ∧
       (r.payload = [0x04#8, 1#8] → exec .readRestore s = .next (answered s r rest (.done (decisionBytes s.node.report)))) ∧
       (r.payload = [0x04#8, 2#8] → exec .readRestore s = .next (answered s r rest (.done (vernierBytes s.node.report)))) ∧
       (r.payload = [0x04#8, 3#8] → exec .readRestore s = .next (answered s r rest (.done (conflictBytes s.node.conflict)))) ∧
       (∀ part : Byte, part.toNat ≤ 2 → r.payload = [0x05#8, part] →
         exec .readHoming s = .next (answered s r rest (.done (homingData r s)))) ∧
       (∀ part : Byte, part.toNat ≤ 5 → r.payload = [0x06#8, part] →
         exec .readSweep s = .next (answered s r rest (.done (sweepData r s)))) ∧
       (∀ (a part : Byte) (e : PeerEntry), part.toNat ≤ 1 → a.toNat < 15 → r.payload = [0x07#8, a, part] →
         s.setup.latched.members.contains (BitVec.ofNat 4 a.toNat) = true →
         s.peers.entry? (BitVec.ofNat 4 a.toNat) = some e →
         exec .readPeer s = .next (answered s r rest (.done
           (peerData part.toNat (s.setup.latched.source == some (BitVec.ofNat 4 a.toNat)) s.coupling e)))) ∧
       (∀ a part : Byte, a.toNat < 15 → r.payload = [0x07#8, a, part] →
         s.setup.latched.members.contains (BitVec.ofNat 4 a.toNat) = false →
         exec .readPeer s = .next (answered s r rest (.refused .badValue))))) ∧
  (∀ (s : State) (r : Request) (rest : List Request), Waiting s r rest →
     (∀ id idx : Byte, r.payload = [0x08#8, id, idx] →
       (s.node.state = .startup → exec .calRead s = .next (answered s r rest (.refused .notReady))) ∧
       (s.node.state ≠ .startup → calFieldBytes s.cal.data id.toNat idx.toNat = none →
         exec .calRead s = .next (answered s r rest (.refused .badValue))) ∧
       (∀ v, s.node.state ≠ .startup → calFieldBytes s.cal.data id.toNat idx.toNat = some v →
         exec .calRead s = .next (answered s r rest (.done
           ([id, idx, packed [(1, flag s.cal.valid), (1, flag s.cal.dirty), (1, flag (calFieldUnset s.cal.data id.toNat))]] ++ v))))) ∧
     (∀ id kind sel : Byte, r.payload = [0x09#8, id, kind, sel] →
       (s.node.state = .startup → exec .setupRead s = .next (answered s r rest (.refused .notReady))) ∧
       (s.node.state ≠ .startup → (1 < sel.toNat ∨ setupFieldBytes s.setup.image id.toNat kind.toNat = none) →
         exec .setupRead s = .next (answered s r rest (.refused .badValue))) ∧
       (∀ v, s.node.state ≠ .startup → sel = 0#8 → setupFieldBytes s.setup.image id.toNat kind.toNat = some v →
         exec .setupRead s = .next (answered s r rest (.done ([id, kind, if s.setup.dirty then 1#8 else 0#8] ++ v)))) ∧
       (∀ v, s.node.state ≠ .startup → sel = 1#8 → setupFieldBytes s.setup.latched id.toNat kind.toNat = some v →
         exec .setupRead s = .next (answered s r rest (.done ([id, kind, if s.setup.dirty then 1#8 else 0#8] ++ v))))))

/-- The refusals that come before a request's own values: an unknown code, STARTUP, destination 15,
the node states that do not take the request, an argument size that is not the request's own, and a
part that a read does not have. A refused request changes nothing but the queues. (READ_RESTORE in
STARTUP is log 39; that STORE's size is judged before STORE_BUSY is log 43.) -/
def Obligations.RefusalsByCodeAndState : Prop :=
  ∀ (s : State) (r : Request) (rest : List Request), Waiting s r rest →
    let refused := fun (c : Instr) (why : RefusalReason) => exec c s = .next (answered s r rest (.refused why))
    (knownCode r.code = false → refused .unknownRequest .unknownRequest) ∧
    ∀ (c : Instr) (code : Nat), requestCode c = some code → r.code = code →
      (s.node.state = .startup → code ≠ 0x01 → code ≠ 0x02 → refused c .notReady) ∧
      (s.node.state ≠ .startup → r.broadcast = true →
        code = 0x16 ∨ code = 0x17 ∨ code = 0x1B ∨ code = 0x1C ∨ code = 0x1D → refused c .broadcastNotAllowed) ∧
      (Judged s r →
        (s.inRestoring = true → 0x11 ≤ code → code ≤ 0x1D → refused c .wrongState) ∧
        (s.operating = true → code = 0x13 ∨ code = 0x14 ∨ code = 0x18 → refused c .busy) ∧
        (s.operating = true → code = 0x16 → refused c .wrongState) ∧
        (s.node.state = .unreferenced → code = 0x14 ∨ code = 0x18 → refused c .wrongState) ∧
        (s.inHoming = false → code = 0x15 → refused c .wrongState) ∧
        (s.node.state ≠ .unreferenced → code = 0x17 → refused c .wrongState) ∧
        (s.node.state ≠ .calibrating → code = 0x19 ∨ code = 0x1A → refused c .wrongState) ∧
        (s.node.state = .unreferenced → s.node.conflict = none → code = 0x17 → refused c .noConflict)) ∧
      (r.payload.length ≠ 1 + (if code ∈ [0x02, 0x04, 0x05, 0x06, 0x11, 0x17, 0x1D] then 1
          else if code ∈ [0x07, 0x08] then 2 else if code = 0x09 then 3 else 0) →
        (code ≤ 0x02 → refused c .badValue) ∧
        (Judged s r →
          (code ≤ 0x10 ∨ code = 0x1E → refused c .badValue) ∧
          (s.inRestoring = false → code = 0x11 ∨ code = 0x12 ∨ code = 0x1D → refused c .badValue) ∧
          (s.inRestoring = false → s.operating = false → code = 0x13 ∨ code = 0x16 → refused c .badValue) ∧
          (s.node.state = .referenced → code = 0x14 ∨ code = 0x18 → refused c .badValue) ∧
          (s.inHoming = true → code = 0x15 → refused c .badValue) ∧
          (s.node.state = .unreferenced → s.node.conflict.isSome = true →
            s.setup.latched.source = none ∨ (s.coupling.lastAbsolute = some true ∧ s.active .couplingLost = false) →
            code = 0x17 → refused c .badValue) ∧
          (s.node.state = .calibrating → code = 0x19 ∨ code = 0x1A → refused c .badValue))) ∧
      ∀ part : Byte,
        (r.payload.drop 1 = [part] → code = 0x02 → 1 < part.toNat → refused c .badValue) ∧
        (Judged s r → r.payload.drop 1 = [part] →
          (if code = 0x04 then 3 else if code = 0x05 then 2 else 5) < part.toNat →
          code = 0x04 ∨ code = 0x05 ∨ code = 0x06 → refused c .badValue) ∧
        (Judged s r → ∀ a : Byte, r.payload.drop 1 = [a, part] → code = 0x07 → 1 < part.toNat → refused c .badValue)

/-- CLEAR_FAULTS, RELEASE_GRANT and RELEASE_WITHDRAW: the supervisor's and the gate's record, and
the reply that shows what stands after it. -/
def Obligations.FaultAndGrantRequests : Prop :=
  ∀ (s : State) (r : Request) (rest : List Request), Waiting s r rest → Judged s r →
    let judged := fun (g : MotionGate) =>
      let p := ({ s with gate := g } : State).permission
      if s.permission = p then g else gateOn p g
    (r.payload = [0x10#8] →
      let f := clearFaults s.faults
      ∃ t, exec .clearFaults s = .next t ∧
        Settles s { answered s r rest (.done (bytesOf 2 f.active.toNat)) with faults := f } t ∧
        t.pos = s.pos ∧ t.node = s.node ∧ t.gate.travelSide = s.gate.travelSide) ∧
    (∀ jog : Byte, r.payload = [0x11#8, jog] → s.inRestoring = false → jog.toNat ≤ 1 →
      let g := judged (if s.gate.rdyLevel = .low then { s.gate with grant := false, jog := false }
        else { s.gate with grant := true, jog := jog == 1#8 })
      ∃ t, exec .releaseGrant s = .next t ∧ t.gate = g ∧
        Settles s { answered s r rest (.done [gateByte g]) with gate := g } t) ∧
    (∀ jog : Byte, r.payload = [0x11#8, jog] → s.inRestoring = false → 1 < jog.toNat →
      exec .releaseGrant s = .next (answered s r rest (.refused .badValue))) ∧
    (r.payload = [0x12#8] → s.inRestoring = false →
      let g := judged { s.gate with grant := false, jog := false }
      ∃ t, exec .releaseWithdraw s = .next t ∧ t.gate = g ∧ t.gate.grant = false ∧
        Settles s { answered s r rest (.done [gateByte g]) with gate := g } t)

/-- HOME_ARM, HOME_LEARN and HOME_ABORT complete in every state whose gate stands as its permission
allows; an acceptance stands in WAIT_PEERS, where the permission is judged, before the wait set is
tested. (That every step keeps the premise on the gate is GateAndPlayKept.) -/
def Obligations.HomingRequests : Prop :=
  ∀ (s : State) (r : Request) (rest : List Request), Waiting s r rest → Judged s r → GateFollowsPermission s →
    let before := if s.node.state = .referenced then StateBefore.referenced else .unreferenced
    let ready := ∀ a ∈ s.setup.latched.waitSet ++ s.setup.latched.source.toList, s.peerReady a = true
    let waiting := { s with node := { s.node with state := .homing .waitPeers } }
    let opened := fun (mode : HomingMode) (t : State) =>
      (ready → t.node = { s.node with state := .homing .armed }) ∧
      (¬ready → t.node = { s.node with state := .homing .waitPeers }) ∧
      Settles s { answered s r rest .accepted with
        node := t.node, homingOp := t.homingOp, gate := gateAfter s waiting, pos := { s.pos with driftRun := 0 }
        homing := { mode := mode, outcome := .none, reason := .none, before := some before
                    latch := some ⟨s.cal.data.thetaH, s.cal.data.approach, s.cal.data.guardMin⟩
                    edgeTag := none, pFlag := none, captureTag := none, pCap := none, eCap := none, tShift := none
                    residual := none, coarseDiff := none, coarseChecked := false } } t
    (r.payload = [0x13#8] → s.node.state = .unreferenced ∨ s.node.state = .referenced →
      (s.cal.valid = false → exec .homeArm s = .next (answered s r rest (.refused .noCal))) ∧
      (s.cal.valid = true → s.cal.data.learned = false →
        exec .homeArm s = .next (answered s r rest (.refused .notLearned))) ∧
      (s.cal.valid = true → s.cal.data.learned = true → ∃ t, exec .homeArm s = .next t ∧ opened .home t)) ∧
    (r.payload = [0x14#8] → s.node.state = .referenced → ∃ t, exec .homeLearn s = .next t ∧ opened .learn t) ∧
    (r.payload = [0x15#8] → s.inHoming = true →
      ∃ t, exec .homeAbort s = .next t ∧
        Settles s { answered s r rest (.done []) with
          homing := { s.homing with outcome := .aborted, reason := .none }, homingOp := t.homingOp, pos := t.pos
          node := { s.node with state := if s.homing.before = some .referenced then .referenced else .unreferenced } } t ∧
        t.homingOp.captured = false ∧ t.pos = { s.pos with driftRun := t.pos.driftRun } ∧
        (s.homing.before = some .referenced → t.pos.driftRun = 0))

/-- ZERO_HERE and ACCEPT_RESTORE. (A Z outside 32 bits is free, log 24; the J of the reply, log 35.)
-/
def Obligations.ZeroAndAccept : Prop :=
  ∀ (s : State) (r : Request) (rest : List Request), Waiting s r rest → Judged s r →
    let blocked := s.setup.latched.source.isSome = true ∧ (s.coupling.lastAbsolute ≠ some true ∨ s.active .couplingLost = true)
    let zg : Sixteenths := BitVec.ofInt 16 (s.pos.gq.toNat + roundDiv s.pos.lastSj 16)
    (r.payload = [0x16#8] → s.node.state = .unreferenced ∨ s.node.state = .referenced →
      (s.cal.valid = false → exec .zeroHere s = .next (answered s r rest (.refused .noCal))) ∧
      (s.cal.valid = true → blocked → exec .zeroHere s = .next (answered s r rest (.refused .sourceNotAbsolute))) ∧
      (s.cal.valid = true → ¬blocked → s.pos.evaluated = false ∨ s.pos.usable = false →
        exec .zeroHere s = .next (answered s r rest (.refused .notReady))) ∧
      (s.cal.valid = true → ¬blocked → s.pos.evaluated = true → s.pos.usable = true →
        ∃ t, exec .zeroHere s = .next t ∧
          t.cal.data = { s.cal.data with z := t.cal.data.z, zg := zg } ∧ t.cal.dirty = true ∧ t.cal.valid = true ∧
          (-2147483648 ≤ s.pos.lastE → s.pos.lastE ≤ 2147483647 → t.cal.data.z = s.pos.lastE) ∧
          t.pos = { s.pos with abs := true, driftRun := 0 } ∧
          t.node = { s.node with state := .referenced, reason := .none, basis := .manual, confirmed := false } ∧
          t.ret.mirror.held = false ∧ t.faults = s.faults ∧ t.homing = s.homing ∧
          t.link.requests = rest ∧ t.link.replies = s.link.replies ++ [⟨⟨kindReply, s.straps.address, r.source,
            0x16#8 :: 0x00#8 :: (bytesOf 4 t.cal.data.z ++ bytesOf 2 zg.toNat)⟩, false, false⟩] ∧
          (s.store.writing = some .cal → t.store = { s.store with calMarked := true }) ∧
          (s.store.writing ≠ some .cal → t.store = s.store))) ∧
    ∀ (choice : Byte) (x : ConflictRecord), r.payload = [0x17#8, choice] → s.node.state = .unreferenced →
      s.node.conflict = some x →
      let p := s.pos.p + ((if choice = 1#8 then x.retainedSide else x.vernierSide) - x.decideTurn) * 16384
      let outside := p / 16384 < -32768 ∨ 32767 < p / 16384
      (blocked → exec .acceptRestore s = .next (answered s r rest (.refused .sourceNotAbsolute))) ∧
      (¬blocked → outside ∨ (choice ≠ 1#8 ∧ choice ≠ 2#8) →
        exec .acceptRestore s = .next (answered s r rest (.refused .badValue))) ∧
      (¬blocked → ¬outside → choice = 1#8 ∨ choice = 2#8 →
        ∃ t, exec .acceptRestore s = .next t ∧
          t.pos = { s.pos with p := p, abs := true, driftRun := 0 } ∧
          t.node = { s.node with state := .referenced, reason := .none, basis := .chosen, conflict := none } ∧
          kindHas t.faults.active .restoreConflict = false ∧ t.ret.mirror.held = false ∧ t.cal = s.cal ∧
          t.link.requests = rest ∧ t.link.replies = s.link.replies ++ [⟨⟨kindReply, s.straps.address, r.source,
            0x17#8 :: 0x00#8 :: (bytesOf 4 p ++ bytesOf 4 s.pos.j)⟩, false, false⟩])

/-- SWEEP_START, SWEEP_END and SWEEP_ABORT, with the bins a SWEEP_END writes. -/
def Obligations.SweepRequests : Prop :=
  (∀ (s : State) (r : Request) (rest : List Request), Waiting s r rest → Judged s r →
    (r.payload = [0x18#8] → s.node.state = .referenced →
      ∃ t, exec .sweepStart s = .next t ∧ Settles s { answered s r rest .accepted with
        node := { s.node with state := .calibrating }, pos := { s.pos with driftRun := 0 }
        work := { s.work with considered := false }
        sweep := { outcome := .running, sums := Vector.replicate 32 0, counts := Vector.replicate 32 0, skipped := 0
                   overflow := 0, updated := 0, clamped := 0 } } t) ∧
    (r.payload = [0x19#8] → s.node.state = .calibrating →
      let x := endBins s.sweep s.setup.latched.sweepMin s.cal.data
      ∃ t, exec .sweepEnd s = .next t ∧
        t.node = { s.node with state := .referenced, reason := .none } ∧ t.pos = { s.pos with driftRun := 0 } ∧
        t.sweep = { s.sweep with outcome := .ended, updated := x.updated, clamped := x.clamped } ∧
        t.cal = (if x.updated = 0 then s.cal else { s.cal with data := x.data, dirty := true }) ∧
        t.link.requests = rest ∧ t.link.replies = s.link.replies ++ [⟨⟨kindReply, s.straps.address, r.source,
          0x19#8 :: 0x00#8 :: (bytesOf 4 x.updated.toNat ++ bytesOf 4 x.clamped.toNat)⟩, false, false⟩]) ∧
    (r.payload = [0x1A#8] → s.node.state = .calibrating →
      ∃ t, exec .sweepAbort s = .next t ∧ Settles s { answered s r rest (.done []) with
        node := { s.node with state := .referenced, reason := .none }, pos := { s.pos with driftRun := 0 }
        sweep := { s.sweep with outcome := .aborted, sums := Vector.replicate 32 0, counts := Vector.replicate 32 0
                                updated := 0, clamped := 0 } } t)) ∧
  ∀ (w : SweepRecord) (least : Nat) (c : CalRecord) (b : Fin 32),
    let x := endBins w least c
    let mean := roundDiv (w.sums[b]) (w.counts[b])
    (least ≤ w.counts[b] → x.data.corr[b] = max (-2048) (min 2047 mean) ∧ x.updated.getLsbD b = true ∧
      x.data.coverage.getLsbD b = true ∧ (x.clamped.getLsbD b = true ↔ mean < -2048 ∨ 2047 < mean)) ∧
    (w.counts[b] < least → x.data.corr[b] = c.corr[b] ∧ x.updated.getLsbD b = false ∧
      x.data.coverage.getLsbD b = c.coverage.getLsbD b ∧ x.clamped.getLsbD b = false)

/-- CAL_WRITE and SETUP_WRITE: what is stored and answered, and what is refused; an accepted write
of L_m makes the play unknown, whatever the value (the model's reading of R11 beside R102: log 16).
The form is judged at the first row of BAD_VALUE (log 43); what a field makes of its value is the
write table's (its yes and no bytes and its lists: logs 21 and 28). -/
def Obligations.WriteRequests : Prop :=
  ∀ (s : State) (r : Request) (rest : List Request), Waiting s r rest → Judged s r → s.inRestoring = false →
    (∀ (id idx : Byte) (v : List Byte), r.payload = 0x1B#8 :: id :: idx :: v →
      let sizeOk := calValueSize id.toNat = some v.length ∧ (id.toNat = 5 → idx.toNat ≤ 31)
      (¬sizeOk → exec .calWrite s = .next (answered s r rest (.refused .badValue))) ∧
      (sizeOk → 1 ≤ id.toNat → id.toNat ≤ 4 → s.node.state ≠ .unreferenced →
        exec .calWrite s = .next (answered s r rest (.refused .wrongState))) ∧
      (sizeOk → (4 < id.toNat ∨ s.node.state = .unreferenced) → calFieldWrite s.cal.data id.toNat idx.toNat v = .refused →
        exec .calWrite s = .next (answered s r rest (.refused .badValue))) ∧
      ∀ (c : CalRecord) (clamped : Bool) (stored : List Byte), sizeOk → (4 < id.toNat ∨ s.node.state = .unreferenced) →
        calFieldWrite s.cal.data id.toNat idx.toNat v = .stored c clamped →
        calFieldBytes c id.toNat idx.toNat = some stored →
        ∃ t, exec .calWrite s = .next t ∧ Settles s
          { answered s r rest (if clamped then .clamped (id :: idx :: stored) else .done (id :: idx :: stored)) with
            cal := { s.cal with data := c, dirty := true }
            store := if s.store.writing = some .cal then { s.store with calMarked := true } else s.store
            pos := if id.toNat = 6 then { s.pos with s := 0, acc := 0, playKnown := !s.cal.valid || c.lm / 2 == 0 }
              else s.pos } t) ∧
    (∀ (id kind : Byte) (v : List Byte), r.payload = 0x1C#8 :: id :: kind :: v →
      let formOk := setupFieldBytes s.setup.image id.toNat kind.toNat ≠ none ∧ setupSizeOk id.toNat v.length = true
      (¬formOk → exec .setupWrite s = .next (answered s r rest (.refused .badValue))) ∧
      (formOk → setupFieldWrite s.straps.address s.setup.image id.toNat kind.toNat v = .refused →
        exec .setupWrite s = .next (answered s r rest (.refused .badValue))) ∧
      ∀ (x : Setup) (clamped : Bool) (stored : List Byte), formOk →
        setupFieldWrite s.straps.address s.setup.image id.toNat kind.toNat v = .stored x clamped →
        setupFieldBytes x id.toNat kind.toNat = some stored →
        ∃ t, exec .setupWrite s = .next t ∧ Settles s
          { answered s r rest (if clamped then .clamped (id :: kind :: stored) else .done (id :: kind :: stored)) with
            setup := { s.setup with image := x, dirty := true }
            store := if s.store.writing = some .setup then { s.store with setupMarked := true } else s.store } t)

/-- STORE and RESTART. -/
def Obligations.StoreAndRestartRequests : Prop :=
  ∀ (s : State) (r : Request) (rest : List Request), Waiting s r rest → Judged s r →
    (∀ target : Byte, r.payload = [0x1D#8, target] → s.inRestoring = false →
      let unset := s.cal.data.ratio = none ∨ s.cal.data.window = none
      (target ≠ 1#8 → target ≠ 2#8 → exec .store s = .next (answered s r rest (.refused .badValue))) ∧
      (target = 1#8 ∨ target = 2#8 → s.store.writing ≠ none →
        exec .store s = .next (answered s r rest (.refused .storeBusy))) ∧
      (target = 1#8 → s.store.writing = none → unset → exec .store s = .next (answered s r rest (.refused .badValue))) ∧
      (target = 1#8 → s.store.writing = none → ¬unset →
        ∃ t, exec .store s = .next t ∧ Settles s { answered s r rest .accepted with store := { s.store with
          writing := some .cal, crcWritten := false, calSnapshot := s.cal.data, calMarked := false, calArea := .unwritten } } t) ∧
      (target = 2#8 → s.store.writing = none →
        ∃ t, exec .store s = .next t ∧ Settles s { answered s r rest .accepted with store := { s.store with
          writing := some .setup, crcWritten := false, setupSnapshot := s.setup.image, setupMarked := false
          setupArea := .unwritten } } t)) ∧
    (r.payload = [0x1E#8] → s.store.writing ≠ none →
      exec .restart s = .next (answered s r rest (.refused .storeBusy))) ∧
    (r.payload = [0x1E#8] → s.store.writing = none →
      exec .restart s = .next { answered s r rest .accepted true with restartPending := true })
end

