-- ==== Sys2Proof/Laws/State.lean ====
section
/-! SUPPORT. One lemma per field per setter of State, each true by rfl: proofs cite these and never
unfold a record update. -/

namespace Sys2Proof.Machine

@[simp] theorem State.setPins_pins (s : State) (x : Pins) : (s.setPins x).pins = x := rfl
@[simp] theorem State.setPins_straps (s : State) (x : Pins) : (s.setPins x).straps = s.straps := rfl
@[simp] theorem State.setPins_epoch (s : State) (x : Pins) : (s.setPins x).epoch = s.epoch := rfl
@[simp] theorem State.setPins_enc (s : State) (x : Pins) : (s.setPins x).enc = s.enc := rfl
@[simp] theorem State.setPins_pos (s : State) (x : Pins) : (s.setPins x).pos = s.pos := rfl
@[simp] theorem State.setPins_work (s : State) (x : Pins) : (s.setPins x).work = s.work := rfl
@[simp] theorem State.setPins_coupling (s : State) (x : Pins) : (s.setPins x).coupling = s.coupling := rfl
@[simp] theorem State.setPins_peers (s : State) (x : Pins) : (s.setPins x).peers = s.peers := rfl
@[simp] theorem State.setPins_ret (s : State) (x : Pins) : (s.setPins x).ret = s.ret := rfl
@[simp] theorem State.setPins_node (s : State) (x : Pins) : (s.setPins x).node = s.node := rfl
@[simp] theorem State.setPins_homing (s : State) (x : Pins) : (s.setPins x).homing = s.homing := rfl
@[simp] theorem State.setPins_homingOp (s : State) (x : Pins) : (s.setPins x).homingOp = s.homingOp := rfl
@[simp] theorem State.setPins_sweep (s : State) (x : Pins) : (s.setPins x).sweep = s.sweep := rfl
@[simp] theorem State.setPins_cal (s : State) (x : Pins) : (s.setPins x).cal = s.cal := rfl
@[simp] theorem State.setPins_setup (s : State) (x : Pins) : (s.setPins x).setup = s.setup := rfl
@[simp] theorem State.setPins_store (s : State) (x : Pins) : (s.setPins x).store = s.store := rfl
@[simp] theorem State.setPins_selfCheck (s : State) (x : Pins) : (s.setPins x).selfCheck = s.selfCheck := rfl
@[simp] theorem State.setPins_link (s : State) (x : Pins) : (s.setPins x).link = s.link := rfl
@[simp] theorem State.setPins_faults (s : State) (x : Pins) : (s.setPins x).faults = s.faults := rfl
@[simp] theorem State.setPins_gate (s : State) (x : Pins) : (s.setPins x).gate = s.gate := rfl
@[simp] theorem State.setPins_restartPending (s : State) (x : Pins) : (s.setPins x).restartPending = s.restartPending := rfl
@[simp] theorem State.setPins_free (s : State) (x : Pins) : (s.setPins x).free = s.free := rfl
@[simp] theorem State.setPins_pending (s : State) (x : Pins) : (s.setPins x).pending = s.pending := rfl
@[simp] theorem State.setStraps_pins (s : State) (x : Straps) : (s.setStraps x).pins = s.pins := rfl
@[simp] theorem State.setStraps_straps (s : State) (x : Straps) : (s.setStraps x).straps = x := rfl
@[simp] theorem State.setStraps_epoch (s : State) (x : Straps) : (s.setStraps x).epoch = s.epoch := rfl
@[simp] theorem State.setStraps_enc (s : State) (x : Straps) : (s.setStraps x).enc = s.enc := rfl
@[simp] theorem State.setStraps_pos (s : State) (x : Straps) : (s.setStraps x).pos = s.pos := rfl
@[simp] theorem State.setStraps_work (s : State) (x : Straps) : (s.setStraps x).work = s.work := rfl
@[simp] theorem State.setStraps_coupling (s : State) (x : Straps) : (s.setStraps x).coupling = s.coupling := rfl
@[simp] theorem State.setStraps_peers (s : State) (x : Straps) : (s.setStraps x).peers = s.peers := rfl
@[simp] theorem State.setStraps_ret (s : State) (x : Straps) : (s.setStraps x).ret = s.ret := rfl
@[simp] theorem State.setStraps_node (s : State) (x : Straps) : (s.setStraps x).node = s.node := rfl
@[simp] theorem State.setStraps_homing (s : State) (x : Straps) : (s.setStraps x).homing = s.homing := rfl
@[simp] theorem State.setStraps_homingOp (s : State) (x : Straps) : (s.setStraps x).homingOp = s.homingOp := rfl
@[simp] theorem State.setStraps_sweep (s : State) (x : Straps) : (s.setStraps x).sweep = s.sweep := rfl
@[simp] theorem State.setStraps_cal (s : State) (x : Straps) : (s.setStraps x).cal = s.cal := rfl
@[simp] theorem State.setStraps_setup (s : State) (x : Straps) : (s.setStraps x).setup = s.setup := rfl
@[simp] theorem State.setStraps_store (s : State) (x : Straps) : (s.setStraps x).store = s.store := rfl
@[simp] theorem State.setStraps_selfCheck (s : State) (x : Straps) : (s.setStraps x).selfCheck = s.selfCheck := rfl
@[simp] theorem State.setStraps_link (s : State) (x : Straps) : (s.setStraps x).link = s.link := rfl
@[simp] theorem State.setStraps_faults (s : State) (x : Straps) : (s.setStraps x).faults = s.faults := rfl
@[simp] theorem State.setStraps_gate (s : State) (x : Straps) : (s.setStraps x).gate = s.gate := rfl
@[simp] theorem State.setStraps_restartPending (s : State) (x : Straps) : (s.setStraps x).restartPending = s.restartPending := rfl
@[simp] theorem State.setStraps_free (s : State) (x : Straps) : (s.setStraps x).free = s.free := rfl
@[simp] theorem State.setStraps_pending (s : State) (x : Straps) : (s.setStraps x).pending = s.pending := rfl
@[simp] theorem State.setEpoch_pins (s : State) (x : EpochUnit) : (s.setEpoch x).pins = s.pins := rfl
@[simp] theorem State.setEpoch_straps (s : State) (x : EpochUnit) : (s.setEpoch x).straps = s.straps := rfl
@[simp] theorem State.setEpoch_epoch (s : State) (x : EpochUnit) : (s.setEpoch x).epoch = x := rfl
@[simp] theorem State.setEpoch_enc (s : State) (x : EpochUnit) : (s.setEpoch x).enc = s.enc := rfl
@[simp] theorem State.setEpoch_pos (s : State) (x : EpochUnit) : (s.setEpoch x).pos = s.pos := rfl
@[simp] theorem State.setEpoch_work (s : State) (x : EpochUnit) : (s.setEpoch x).work = s.work := rfl
@[simp] theorem State.setEpoch_coupling (s : State) (x : EpochUnit) : (s.setEpoch x).coupling = s.coupling := rfl
@[simp] theorem State.setEpoch_peers (s : State) (x : EpochUnit) : (s.setEpoch x).peers = s.peers := rfl
@[simp] theorem State.setEpoch_ret (s : State) (x : EpochUnit) : (s.setEpoch x).ret = s.ret := rfl
@[simp] theorem State.setEpoch_node (s : State) (x : EpochUnit) : (s.setEpoch x).node = s.node := rfl
@[simp] theorem State.setEpoch_homing (s : State) (x : EpochUnit) : (s.setEpoch x).homing = s.homing := rfl
@[simp] theorem State.setEpoch_homingOp (s : State) (x : EpochUnit) : (s.setEpoch x).homingOp = s.homingOp := rfl
@[simp] theorem State.setEpoch_sweep (s : State) (x : EpochUnit) : (s.setEpoch x).sweep = s.sweep := rfl
@[simp] theorem State.setEpoch_cal (s : State) (x : EpochUnit) : (s.setEpoch x).cal = s.cal := rfl
@[simp] theorem State.setEpoch_setup (s : State) (x : EpochUnit) : (s.setEpoch x).setup = s.setup := rfl
@[simp] theorem State.setEpoch_store (s : State) (x : EpochUnit) : (s.setEpoch x).store = s.store := rfl
@[simp] theorem State.setEpoch_selfCheck (s : State) (x : EpochUnit) : (s.setEpoch x).selfCheck = s.selfCheck := rfl
@[simp] theorem State.setEpoch_link (s : State) (x : EpochUnit) : (s.setEpoch x).link = s.link := rfl
@[simp] theorem State.setEpoch_faults (s : State) (x : EpochUnit) : (s.setEpoch x).faults = s.faults := rfl
@[simp] theorem State.setEpoch_gate (s : State) (x : EpochUnit) : (s.setEpoch x).gate = s.gate := rfl
@[simp] theorem State.setEpoch_restartPending (s : State) (x : EpochUnit) : (s.setEpoch x).restartPending = s.restartPending := rfl
@[simp] theorem State.setEpoch_free (s : State) (x : EpochUnit) : (s.setEpoch x).free = s.free := rfl
@[simp] theorem State.setEpoch_pending (s : State) (x : EpochUnit) : (s.setEpoch x).pending = s.pending := rfl
@[simp] theorem State.setEnc_pins (s : State) (x : EncoderInterface) : (s.setEnc x).pins = s.pins := rfl
@[simp] theorem State.setEnc_straps (s : State) (x : EncoderInterface) : (s.setEnc x).straps = s.straps := rfl
@[simp] theorem State.setEnc_epoch (s : State) (x : EncoderInterface) : (s.setEnc x).epoch = s.epoch := rfl
@[simp] theorem State.setEnc_enc (s : State) (x : EncoderInterface) : (s.setEnc x).enc = x := rfl
@[simp] theorem State.setEnc_pos (s : State) (x : EncoderInterface) : (s.setEnc x).pos = s.pos := rfl
@[simp] theorem State.setEnc_work (s : State) (x : EncoderInterface) : (s.setEnc x).work = s.work := rfl
@[simp] theorem State.setEnc_coupling (s : State) (x : EncoderInterface) : (s.setEnc x).coupling = s.coupling := rfl
@[simp] theorem State.setEnc_peers (s : State) (x : EncoderInterface) : (s.setEnc x).peers = s.peers := rfl
@[simp] theorem State.setEnc_ret (s : State) (x : EncoderInterface) : (s.setEnc x).ret = s.ret := rfl
@[simp] theorem State.setEnc_node (s : State) (x : EncoderInterface) : (s.setEnc x).node = s.node := rfl
@[simp] theorem State.setEnc_homing (s : State) (x : EncoderInterface) : (s.setEnc x).homing = s.homing := rfl
@[simp] theorem State.setEnc_homingOp (s : State) (x : EncoderInterface) : (s.setEnc x).homingOp = s.homingOp := rfl
@[simp] theorem State.setEnc_sweep (s : State) (x : EncoderInterface) : (s.setEnc x).sweep = s.sweep := rfl
@[simp] theorem State.setEnc_cal (s : State) (x : EncoderInterface) : (s.setEnc x).cal = s.cal := rfl
@[simp] theorem State.setEnc_setup (s : State) (x : EncoderInterface) : (s.setEnc x).setup = s.setup := rfl
@[simp] theorem State.setEnc_store (s : State) (x : EncoderInterface) : (s.setEnc x).store = s.store := rfl
@[simp] theorem State.setEnc_selfCheck (s : State) (x : EncoderInterface) : (s.setEnc x).selfCheck = s.selfCheck := rfl
@[simp] theorem State.setEnc_link (s : State) (x : EncoderInterface) : (s.setEnc x).link = s.link := rfl
@[simp] theorem State.setEnc_faults (s : State) (x : EncoderInterface) : (s.setEnc x).faults = s.faults := rfl
@[simp] theorem State.setEnc_gate (s : State) (x : EncoderInterface) : (s.setEnc x).gate = s.gate := rfl
@[simp] theorem State.setEnc_restartPending (s : State) (x : EncoderInterface) : (s.setEnc x).restartPending = s.restartPending := rfl
@[simp] theorem State.setEnc_free (s : State) (x : EncoderInterface) : (s.setEnc x).free = s.free := rfl
@[simp] theorem State.setEnc_pending (s : State) (x : EncoderInterface) : (s.setEnc x).pending = s.pending := rfl
@[simp] theorem State.setPos_pins (s : State) (x : PositionUnit) : (s.setPos x).pins = s.pins := rfl
@[simp] theorem State.setPos_straps (s : State) (x : PositionUnit) : (s.setPos x).straps = s.straps := rfl
@[simp] theorem State.setPos_epoch (s : State) (x : PositionUnit) : (s.setPos x).epoch = s.epoch := rfl
@[simp] theorem State.setPos_enc (s : State) (x : PositionUnit) : (s.setPos x).enc = s.enc := rfl
@[simp] theorem State.setPos_pos (s : State) (x : PositionUnit) : (s.setPos x).pos = x := rfl
@[simp] theorem State.setPos_work (s : State) (x : PositionUnit) : (s.setPos x).work = s.work := rfl
@[simp] theorem State.setPos_coupling (s : State) (x : PositionUnit) : (s.setPos x).coupling = s.coupling := rfl
@[simp] theorem State.setPos_peers (s : State) (x : PositionUnit) : (s.setPos x).peers = s.peers := rfl
@[simp] theorem State.setPos_ret (s : State) (x : PositionUnit) : (s.setPos x).ret = s.ret := rfl
@[simp] theorem State.setPos_node (s : State) (x : PositionUnit) : (s.setPos x).node = s.node := rfl
@[simp] theorem State.setPos_homing (s : State) (x : PositionUnit) : (s.setPos x).homing = s.homing := rfl
@[simp] theorem State.setPos_homingOp (s : State) (x : PositionUnit) : (s.setPos x).homingOp = s.homingOp := rfl
@[simp] theorem State.setPos_sweep (s : State) (x : PositionUnit) : (s.setPos x).sweep = s.sweep := rfl
@[simp] theorem State.setPos_cal (s : State) (x : PositionUnit) : (s.setPos x).cal = s.cal := rfl
@[simp] theorem State.setPos_setup (s : State) (x : PositionUnit) : (s.setPos x).setup = s.setup := rfl
@[simp] theorem State.setPos_store (s : State) (x : PositionUnit) : (s.setPos x).store = s.store := rfl
@[simp] theorem State.setPos_selfCheck (s : State) (x : PositionUnit) : (s.setPos x).selfCheck = s.selfCheck := rfl
@[simp] theorem State.setPos_link (s : State) (x : PositionUnit) : (s.setPos x).link = s.link := rfl
@[simp] theorem State.setPos_faults (s : State) (x : PositionUnit) : (s.setPos x).faults = s.faults := rfl
@[simp] theorem State.setPos_gate (s : State) (x : PositionUnit) : (s.setPos x).gate = s.gate := rfl
@[simp] theorem State.setPos_restartPending (s : State) (x : PositionUnit) : (s.setPos x).restartPending = s.restartPending := rfl
@[simp] theorem State.setPos_free (s : State) (x : PositionUnit) : (s.setPos x).free = s.free := rfl
@[simp] theorem State.setPos_pending (s : State) (x : PositionUnit) : (s.setPos x).pending = s.pending := rfl
@[simp] theorem State.setWork_pins (s : State) (x : EpochWork) : (s.setWork x).pins = s.pins := rfl
@[simp] theorem State.setWork_straps (s : State) (x : EpochWork) : (s.setWork x).straps = s.straps := rfl
@[simp] theorem State.setWork_epoch (s : State) (x : EpochWork) : (s.setWork x).epoch = s.epoch := rfl
@[simp] theorem State.setWork_enc (s : State) (x : EpochWork) : (s.setWork x).enc = s.enc := rfl
@[simp] theorem State.setWork_pos (s : State) (x : EpochWork) : (s.setWork x).pos = s.pos := rfl
@[simp] theorem State.setWork_work (s : State) (x : EpochWork) : (s.setWork x).work = x := rfl
@[simp] theorem State.setWork_coupling (s : State) (x : EpochWork) : (s.setWork x).coupling = s.coupling := rfl
@[simp] theorem State.setWork_peers (s : State) (x : EpochWork) : (s.setWork x).peers = s.peers := rfl
@[simp] theorem State.setWork_ret (s : State) (x : EpochWork) : (s.setWork x).ret = s.ret := rfl
@[simp] theorem State.setWork_node (s : State) (x : EpochWork) : (s.setWork x).node = s.node := rfl
@[simp] theorem State.setWork_homing (s : State) (x : EpochWork) : (s.setWork x).homing = s.homing := rfl
@[simp] theorem State.setWork_homingOp (s : State) (x : EpochWork) : (s.setWork x).homingOp = s.homingOp := rfl
@[simp] theorem State.setWork_sweep (s : State) (x : EpochWork) : (s.setWork x).sweep = s.sweep := rfl
@[simp] theorem State.setWork_cal (s : State) (x : EpochWork) : (s.setWork x).cal = s.cal := rfl
@[simp] theorem State.setWork_setup (s : State) (x : EpochWork) : (s.setWork x).setup = s.setup := rfl
@[simp] theorem State.setWork_store (s : State) (x : EpochWork) : (s.setWork x).store = s.store := rfl
@[simp] theorem State.setWork_selfCheck (s : State) (x : EpochWork) : (s.setWork x).selfCheck = s.selfCheck := rfl
@[simp] theorem State.setWork_link (s : State) (x : EpochWork) : (s.setWork x).link = s.link := rfl
@[simp] theorem State.setWork_faults (s : State) (x : EpochWork) : (s.setWork x).faults = s.faults := rfl
@[simp] theorem State.setWork_gate (s : State) (x : EpochWork) : (s.setWork x).gate = s.gate := rfl
@[simp] theorem State.setWork_restartPending (s : State) (x : EpochWork) : (s.setWork x).restartPending = s.restartPending := rfl
@[simp] theorem State.setWork_free (s : State) (x : EpochWork) : (s.setWork x).free = s.free := rfl
@[simp] theorem State.setWork_pending (s : State) (x : EpochWork) : (s.setWork x).pending = s.pending := rfl
@[simp] theorem State.setCoupling_pins (s : State) (x : CouplingRecord) : (s.setCoupling x).pins = s.pins := rfl
@[simp] theorem State.setCoupling_straps (s : State) (x : CouplingRecord) : (s.setCoupling x).straps = s.straps := rfl
@[simp] theorem State.setCoupling_epoch (s : State) (x : CouplingRecord) : (s.setCoupling x).epoch = s.epoch := rfl
@[simp] theorem State.setCoupling_enc (s : State) (x : CouplingRecord) : (s.setCoupling x).enc = s.enc := rfl
@[simp] theorem State.setCoupling_pos (s : State) (x : CouplingRecord) : (s.setCoupling x).pos = s.pos := rfl
@[simp] theorem State.setCoupling_work (s : State) (x : CouplingRecord) : (s.setCoupling x).work = s.work := rfl
@[simp] theorem State.setCoupling_coupling (s : State) (x : CouplingRecord) : (s.setCoupling x).coupling = x := rfl
@[simp] theorem State.setCoupling_peers (s : State) (x : CouplingRecord) : (s.setCoupling x).peers = s.peers := rfl
@[simp] theorem State.setCoupling_ret (s : State) (x : CouplingRecord) : (s.setCoupling x).ret = s.ret := rfl
@[simp] theorem State.setCoupling_node (s : State) (x : CouplingRecord) : (s.setCoupling x).node = s.node := rfl
@[simp] theorem State.setCoupling_homing (s : State) (x : CouplingRecord) : (s.setCoupling x).homing = s.homing := rfl
@[simp] theorem State.setCoupling_homingOp (s : State) (x : CouplingRecord) : (s.setCoupling x).homingOp = s.homingOp := rfl
@[simp] theorem State.setCoupling_sweep (s : State) (x : CouplingRecord) : (s.setCoupling x).sweep = s.sweep := rfl
@[simp] theorem State.setCoupling_cal (s : State) (x : CouplingRecord) : (s.setCoupling x).cal = s.cal := rfl
@[simp] theorem State.setCoupling_setup (s : State) (x : CouplingRecord) : (s.setCoupling x).setup = s.setup := rfl
@[simp] theorem State.setCoupling_store (s : State) (x : CouplingRecord) : (s.setCoupling x).store = s.store := rfl
@[simp] theorem State.setCoupling_selfCheck (s : State) (x : CouplingRecord) : (s.setCoupling x).selfCheck = s.selfCheck := rfl
@[simp] theorem State.setCoupling_link (s : State) (x : CouplingRecord) : (s.setCoupling x).link = s.link := rfl
@[simp] theorem State.setCoupling_faults (s : State) (x : CouplingRecord) : (s.setCoupling x).faults = s.faults := rfl
@[simp] theorem State.setCoupling_gate (s : State) (x : CouplingRecord) : (s.setCoupling x).gate = s.gate := rfl
@[simp] theorem State.setCoupling_restartPending (s : State) (x : CouplingRecord) : (s.setCoupling x).restartPending = s.restartPending := rfl
@[simp] theorem State.setCoupling_free (s : State) (x : CouplingRecord) : (s.setCoupling x).free = s.free := rfl
@[simp] theorem State.setCoupling_pending (s : State) (x : CouplingRecord) : (s.setCoupling x).pending = s.pending := rfl
@[simp] theorem State.setPeers_pins (s : State) (x : PeerTable) : (s.setPeers x).pins = s.pins := rfl
@[simp] theorem State.setPeers_straps (s : State) (x : PeerTable) : (s.setPeers x).straps = s.straps := rfl
@[simp] theorem State.setPeers_epoch (s : State) (x : PeerTable) : (s.setPeers x).epoch = s.epoch := rfl
@[simp] theorem State.setPeers_enc (s : State) (x : PeerTable) : (s.setPeers x).enc = s.enc := rfl
@[simp] theorem State.setPeers_pos (s : State) (x : PeerTable) : (s.setPeers x).pos = s.pos := rfl
@[simp] theorem State.setPeers_work (s : State) (x : PeerTable) : (s.setPeers x).work = s.work := rfl
@[simp] theorem State.setPeers_coupling (s : State) (x : PeerTable) : (s.setPeers x).coupling = s.coupling := rfl
@[simp] theorem State.setPeers_peers (s : State) (x : PeerTable) : (s.setPeers x).peers = x := rfl
@[simp] theorem State.setPeers_ret (s : State) (x : PeerTable) : (s.setPeers x).ret = s.ret := rfl
@[simp] theorem State.setPeers_node (s : State) (x : PeerTable) : (s.setPeers x).node = s.node := rfl
@[simp] theorem State.setPeers_homing (s : State) (x : PeerTable) : (s.setPeers x).homing = s.homing := rfl
@[simp] theorem State.setPeers_homingOp (s : State) (x : PeerTable) : (s.setPeers x).homingOp = s.homingOp := rfl
@[simp] theorem State.setPeers_sweep (s : State) (x : PeerTable) : (s.setPeers x).sweep = s.sweep := rfl
@[simp] theorem State.setPeers_cal (s : State) (x : PeerTable) : (s.setPeers x).cal = s.cal := rfl
@[simp] theorem State.setPeers_setup (s : State) (x : PeerTable) : (s.setPeers x).setup = s.setup := rfl
@[simp] theorem State.setPeers_store (s : State) (x : PeerTable) : (s.setPeers x).store = s.store := rfl
@[simp] theorem State.setPeers_selfCheck (s : State) (x : PeerTable) : (s.setPeers x).selfCheck = s.selfCheck := rfl
@[simp] theorem State.setPeers_link (s : State) (x : PeerTable) : (s.setPeers x).link = s.link := rfl
@[simp] theorem State.setPeers_faults (s : State) (x : PeerTable) : (s.setPeers x).faults = s.faults := rfl
@[simp] theorem State.setPeers_gate (s : State) (x : PeerTable) : (s.setPeers x).gate = s.gate := rfl
@[simp] theorem State.setPeers_restartPending (s : State) (x : PeerTable) : (s.setPeers x).restartPending = s.restartPending := rfl
@[simp] theorem State.setPeers_free (s : State) (x : PeerTable) : (s.setPeers x).free = s.free := rfl
@[simp] theorem State.setPeers_pending (s : State) (x : PeerTable) : (s.setPeers x).pending = s.pending := rfl
@[simp] theorem State.setRet_pins (s : State) (x : RetentionDomain) : (s.setRet x).pins = s.pins := rfl
@[simp] theorem State.setRet_straps (s : State) (x : RetentionDomain) : (s.setRet x).straps = s.straps := rfl
@[simp] theorem State.setRet_epoch (s : State) (x : RetentionDomain) : (s.setRet x).epoch = s.epoch := rfl
@[simp] theorem State.setRet_enc (s : State) (x : RetentionDomain) : (s.setRet x).enc = s.enc := rfl
@[simp] theorem State.setRet_pos (s : State) (x : RetentionDomain) : (s.setRet x).pos = s.pos := rfl
@[simp] theorem State.setRet_work (s : State) (x : RetentionDomain) : (s.setRet x).work = s.work := rfl
@[simp] theorem State.setRet_coupling (s : State) (x : RetentionDomain) : (s.setRet x).coupling = s.coupling := rfl
@[simp] theorem State.setRet_peers (s : State) (x : RetentionDomain) : (s.setRet x).peers = s.peers := rfl
@[simp] theorem State.setRet_ret (s : State) (x : RetentionDomain) : (s.setRet x).ret = x := rfl
@[simp] theorem State.setRet_node (s : State) (x : RetentionDomain) : (s.setRet x).node = s.node := rfl
@[simp] theorem State.setRet_homing (s : State) (x : RetentionDomain) : (s.setRet x).homing = s.homing := rfl
@[simp] theorem State.setRet_homingOp (s : State) (x : RetentionDomain) : (s.setRet x).homingOp = s.homingOp := rfl
@[simp] theorem State.setRet_sweep (s : State) (x : RetentionDomain) : (s.setRet x).sweep = s.sweep := rfl
@[simp] theorem State.setRet_cal (s : State) (x : RetentionDomain) : (s.setRet x).cal = s.cal := rfl
@[simp] theorem State.setRet_setup (s : State) (x : RetentionDomain) : (s.setRet x).setup = s.setup := rfl
@[simp] theorem State.setRet_store (s : State) (x : RetentionDomain) : (s.setRet x).store = s.store := rfl
@[simp] theorem State.setRet_selfCheck (s : State) (x : RetentionDomain) : (s.setRet x).selfCheck = s.selfCheck := rfl
@[simp] theorem State.setRet_link (s : State) (x : RetentionDomain) : (s.setRet x).link = s.link := rfl
@[simp] theorem State.setRet_faults (s : State) (x : RetentionDomain) : (s.setRet x).faults = s.faults := rfl
@[simp] theorem State.setRet_gate (s : State) (x : RetentionDomain) : (s.setRet x).gate = s.gate := rfl
@[simp] theorem State.setRet_restartPending (s : State) (x : RetentionDomain) : (s.setRet x).restartPending = s.restartPending := rfl
@[simp] theorem State.setRet_free (s : State) (x : RetentionDomain) : (s.setRet x).free = s.free := rfl
@[simp] theorem State.setRet_pending (s : State) (x : RetentionDomain) : (s.setRet x).pending = s.pending := rfl
@[simp] theorem State.setNode_pins (s : State) (x : NodeRecord) : (s.setNode x).pins = s.pins := rfl
@[simp] theorem State.setNode_straps (s : State) (x : NodeRecord) : (s.setNode x).straps = s.straps := rfl
@[simp] theorem State.setNode_epoch (s : State) (x : NodeRecord) : (s.setNode x).epoch = s.epoch := rfl
@[simp] theorem State.setNode_enc (s : State) (x : NodeRecord) : (s.setNode x).enc = s.enc := rfl
@[simp] theorem State.setNode_pos (s : State) (x : NodeRecord) : (s.setNode x).pos = s.pos := rfl
@[simp] theorem State.setNode_work (s : State) (x : NodeRecord) : (s.setNode x).work = s.work := rfl
@[simp] theorem State.setNode_coupling (s : State) (x : NodeRecord) : (s.setNode x).coupling = s.coupling := rfl
@[simp] theorem State.setNode_peers (s : State) (x : NodeRecord) : (s.setNode x).peers = s.peers := rfl
@[simp] theorem State.setNode_ret (s : State) (x : NodeRecord) : (s.setNode x).ret = s.ret := rfl
@[simp] theorem State.setNode_node (s : State) (x : NodeRecord) : (s.setNode x).node = x := rfl
@[simp] theorem State.setNode_homing (s : State) (x : NodeRecord) : (s.setNode x).homing = s.homing := rfl
@[simp] theorem State.setNode_homingOp (s : State) (x : NodeRecord) : (s.setNode x).homingOp = s.homingOp := rfl
@[simp] theorem State.setNode_sweep (s : State) (x : NodeRecord) : (s.setNode x).sweep = s.sweep := rfl
@[simp] theorem State.setNode_cal (s : State) (x : NodeRecord) : (s.setNode x).cal = s.cal := rfl
@[simp] theorem State.setNode_setup (s : State) (x : NodeRecord) : (s.setNode x).setup = s.setup := rfl
@[simp] theorem State.setNode_store (s : State) (x : NodeRecord) : (s.setNode x).store = s.store := rfl
@[simp] theorem State.setNode_selfCheck (s : State) (x : NodeRecord) : (s.setNode x).selfCheck = s.selfCheck := rfl
@[simp] theorem State.setNode_link (s : State) (x : NodeRecord) : (s.setNode x).link = s.link := rfl
@[simp] theorem State.setNode_faults (s : State) (x : NodeRecord) : (s.setNode x).faults = s.faults := rfl
@[simp] theorem State.setNode_gate (s : State) (x : NodeRecord) : (s.setNode x).gate = s.gate := rfl
@[simp] theorem State.setNode_restartPending (s : State) (x : NodeRecord) : (s.setNode x).restartPending = s.restartPending := rfl
@[simp] theorem State.setNode_free (s : State) (x : NodeRecord) : (s.setNode x).free = s.free := rfl
@[simp] theorem State.setNode_pending (s : State) (x : NodeRecord) : (s.setNode x).pending = s.pending := rfl
@[simp] theorem State.setHoming_pins (s : State) (x : HomingRecord) : (s.setHoming x).pins = s.pins := rfl
@[simp] theorem State.setHoming_straps (s : State) (x : HomingRecord) : (s.setHoming x).straps = s.straps := rfl
@[simp] theorem State.setHoming_epoch (s : State) (x : HomingRecord) : (s.setHoming x).epoch = s.epoch := rfl
@[simp] theorem State.setHoming_enc (s : State) (x : HomingRecord) : (s.setHoming x).enc = s.enc := rfl
@[simp] theorem State.setHoming_pos (s : State) (x : HomingRecord) : (s.setHoming x).pos = s.pos := rfl
@[simp] theorem State.setHoming_work (s : State) (x : HomingRecord) : (s.setHoming x).work = s.work := rfl
@[simp] theorem State.setHoming_coupling (s : State) (x : HomingRecord) : (s.setHoming x).coupling = s.coupling := rfl
@[simp] theorem State.setHoming_peers (s : State) (x : HomingRecord) : (s.setHoming x).peers = s.peers := rfl
@[simp] theorem State.setHoming_ret (s : State) (x : HomingRecord) : (s.setHoming x).ret = s.ret := rfl
@[simp] theorem State.setHoming_node (s : State) (x : HomingRecord) : (s.setHoming x).node = s.node := rfl
@[simp] theorem State.setHoming_homing (s : State) (x : HomingRecord) : (s.setHoming x).homing = x := rfl
@[simp] theorem State.setHoming_homingOp (s : State) (x : HomingRecord) : (s.setHoming x).homingOp = s.homingOp := rfl
@[simp] theorem State.setHoming_sweep (s : State) (x : HomingRecord) : (s.setHoming x).sweep = s.sweep := rfl
@[simp] theorem State.setHoming_cal (s : State) (x : HomingRecord) : (s.setHoming x).cal = s.cal := rfl
@[simp] theorem State.setHoming_setup (s : State) (x : HomingRecord) : (s.setHoming x).setup = s.setup := rfl
@[simp] theorem State.setHoming_store (s : State) (x : HomingRecord) : (s.setHoming x).store = s.store := rfl
@[simp] theorem State.setHoming_selfCheck (s : State) (x : HomingRecord) : (s.setHoming x).selfCheck = s.selfCheck := rfl
@[simp] theorem State.setHoming_link (s : State) (x : HomingRecord) : (s.setHoming x).link = s.link := rfl
@[simp] theorem State.setHoming_faults (s : State) (x : HomingRecord) : (s.setHoming x).faults = s.faults := rfl
@[simp] theorem State.setHoming_gate (s : State) (x : HomingRecord) : (s.setHoming x).gate = s.gate := rfl
@[simp] theorem State.setHoming_restartPending (s : State) (x : HomingRecord) : (s.setHoming x).restartPending = s.restartPending := rfl
@[simp] theorem State.setHoming_free (s : State) (x : HomingRecord) : (s.setHoming x).free = s.free := rfl
@[simp] theorem State.setHoming_pending (s : State) (x : HomingRecord) : (s.setHoming x).pending = s.pending := rfl
@[simp] theorem State.setHomingOp_pins (s : State) (x : HomingOp) : (s.setHomingOp x).pins = s.pins := rfl
@[simp] theorem State.setHomingOp_straps (s : State) (x : HomingOp) : (s.setHomingOp x).straps = s.straps := rfl
@[simp] theorem State.setHomingOp_epoch (s : State) (x : HomingOp) : (s.setHomingOp x).epoch = s.epoch := rfl
@[simp] theorem State.setHomingOp_enc (s : State) (x : HomingOp) : (s.setHomingOp x).enc = s.enc := rfl
@[simp] theorem State.setHomingOp_pos (s : State) (x : HomingOp) : (s.setHomingOp x).pos = s.pos := rfl
@[simp] theorem State.setHomingOp_work (s : State) (x : HomingOp) : (s.setHomingOp x).work = s.work := rfl
@[simp] theorem State.setHomingOp_coupling (s : State) (x : HomingOp) : (s.setHomingOp x).coupling = s.coupling := rfl
@[simp] theorem State.setHomingOp_peers (s : State) (x : HomingOp) : (s.setHomingOp x).peers = s.peers := rfl
@[simp] theorem State.setHomingOp_ret (s : State) (x : HomingOp) : (s.setHomingOp x).ret = s.ret := rfl
@[simp] theorem State.setHomingOp_node (s : State) (x : HomingOp) : (s.setHomingOp x).node = s.node := rfl
@[simp] theorem State.setHomingOp_homing (s : State) (x : HomingOp) : (s.setHomingOp x).homing = s.homing := rfl
@[simp] theorem State.setHomingOp_homingOp (s : State) (x : HomingOp) : (s.setHomingOp x).homingOp = x := rfl
@[simp] theorem State.setHomingOp_sweep (s : State) (x : HomingOp) : (s.setHomingOp x).sweep = s.sweep := rfl
@[simp] theorem State.setHomingOp_cal (s : State) (x : HomingOp) : (s.setHomingOp x).cal = s.cal := rfl
@[simp] theorem State.setHomingOp_setup (s : State) (x : HomingOp) : (s.setHomingOp x).setup = s.setup := rfl
@[simp] theorem State.setHomingOp_store (s : State) (x : HomingOp) : (s.setHomingOp x).store = s.store := rfl
@[simp] theorem State.setHomingOp_selfCheck (s : State) (x : HomingOp) : (s.setHomingOp x).selfCheck = s.selfCheck := rfl
@[simp] theorem State.setHomingOp_link (s : State) (x : HomingOp) : (s.setHomingOp x).link = s.link := rfl
@[simp] theorem State.setHomingOp_faults (s : State) (x : HomingOp) : (s.setHomingOp x).faults = s.faults := rfl
@[simp] theorem State.setHomingOp_gate (s : State) (x : HomingOp) : (s.setHomingOp x).gate = s.gate := rfl
@[simp] theorem State.setHomingOp_restartPending (s : State) (x : HomingOp) : (s.setHomingOp x).restartPending = s.restartPending := rfl
@[simp] theorem State.setHomingOp_free (s : State) (x : HomingOp) : (s.setHomingOp x).free = s.free := rfl
@[simp] theorem State.setHomingOp_pending (s : State) (x : HomingOp) : (s.setHomingOp x).pending = s.pending := rfl
@[simp] theorem State.setSweep_pins (s : State) (x : SweepRecord) : (s.setSweep x).pins = s.pins := rfl
@[simp] theorem State.setSweep_straps (s : State) (x : SweepRecord) : (s.setSweep x).straps = s.straps := rfl
@[simp] theorem State.setSweep_epoch (s : State) (x : SweepRecord) : (s.setSweep x).epoch = s.epoch := rfl
@[simp] theorem State.setSweep_enc (s : State) (x : SweepRecord) : (s.setSweep x).enc = s.enc := rfl
@[simp] theorem State.setSweep_pos (s : State) (x : SweepRecord) : (s.setSweep x).pos = s.pos := rfl
@[simp] theorem State.setSweep_work (s : State) (x : SweepRecord) : (s.setSweep x).work = s.work := rfl
@[simp] theorem State.setSweep_coupling (s : State) (x : SweepRecord) : (s.setSweep x).coupling = s.coupling := rfl
@[simp] theorem State.setSweep_peers (s : State) (x : SweepRecord) : (s.setSweep x).peers = s.peers := rfl
@[simp] theorem State.setSweep_ret (s : State) (x : SweepRecord) : (s.setSweep x).ret = s.ret := rfl
@[simp] theorem State.setSweep_node (s : State) (x : SweepRecord) : (s.setSweep x).node = s.node := rfl
@[simp] theorem State.setSweep_homing (s : State) (x : SweepRecord) : (s.setSweep x).homing = s.homing := rfl
@[simp] theorem State.setSweep_homingOp (s : State) (x : SweepRecord) : (s.setSweep x).homingOp = s.homingOp := rfl
@[simp] theorem State.setSweep_sweep (s : State) (x : SweepRecord) : (s.setSweep x).sweep = x := rfl
@[simp] theorem State.setSweep_cal (s : State) (x : SweepRecord) : (s.setSweep x).cal = s.cal := rfl
@[simp] theorem State.setSweep_setup (s : State) (x : SweepRecord) : (s.setSweep x).setup = s.setup := rfl
@[simp] theorem State.setSweep_store (s : State) (x : SweepRecord) : (s.setSweep x).store = s.store := rfl
@[simp] theorem State.setSweep_selfCheck (s : State) (x : SweepRecord) : (s.setSweep x).selfCheck = s.selfCheck := rfl
@[simp] theorem State.setSweep_link (s : State) (x : SweepRecord) : (s.setSweep x).link = s.link := rfl
@[simp] theorem State.setSweep_faults (s : State) (x : SweepRecord) : (s.setSweep x).faults = s.faults := rfl
@[simp] theorem State.setSweep_gate (s : State) (x : SweepRecord) : (s.setSweep x).gate = s.gate := rfl
@[simp] theorem State.setSweep_restartPending (s : State) (x : SweepRecord) : (s.setSweep x).restartPending = s.restartPending := rfl
@[simp] theorem State.setSweep_free (s : State) (x : SweepRecord) : (s.setSweep x).free = s.free := rfl
@[simp] theorem State.setSweep_pending (s : State) (x : SweepRecord) : (s.setSweep x).pending = s.pending := rfl
@[simp] theorem State.setCal_pins (s : State) (x : WorkingCal) : (s.setCal x).pins = s.pins := rfl
@[simp] theorem State.setCal_straps (s : State) (x : WorkingCal) : (s.setCal x).straps = s.straps := rfl
@[simp] theorem State.setCal_epoch (s : State) (x : WorkingCal) : (s.setCal x).epoch = s.epoch := rfl
@[simp] theorem State.setCal_enc (s : State) (x : WorkingCal) : (s.setCal x).enc = s.enc := rfl
@[simp] theorem State.setCal_pos (s : State) (x : WorkingCal) : (s.setCal x).pos = s.pos := rfl
@[simp] theorem State.setCal_work (s : State) (x : WorkingCal) : (s.setCal x).work = s.work := rfl
@[simp] theorem State.setCal_coupling (s : State) (x : WorkingCal) : (s.setCal x).coupling = s.coupling := rfl
@[simp] theorem State.setCal_peers (s : State) (x : WorkingCal) : (s.setCal x).peers = s.peers := rfl
@[simp] theorem State.setCal_ret (s : State) (x : WorkingCal) : (s.setCal x).ret = s.ret := rfl
@[simp] theorem State.setCal_node (s : State) (x : WorkingCal) : (s.setCal x).node = s.node := rfl
@[simp] theorem State.setCal_homing (s : State) (x : WorkingCal) : (s.setCal x).homing = s.homing := rfl
@[simp] theorem State.setCal_homingOp (s : State) (x : WorkingCal) : (s.setCal x).homingOp = s.homingOp := rfl
@[simp] theorem State.setCal_sweep (s : State) (x : WorkingCal) : (s.setCal x).sweep = s.sweep := rfl
@[simp] theorem State.setCal_cal (s : State) (x : WorkingCal) : (s.setCal x).cal = x := rfl
@[simp] theorem State.setCal_setup (s : State) (x : WorkingCal) : (s.setCal x).setup = s.setup := rfl
@[simp] theorem State.setCal_store (s : State) (x : WorkingCal) : (s.setCal x).store = s.store := rfl
@[simp] theorem State.setCal_selfCheck (s : State) (x : WorkingCal) : (s.setCal x).selfCheck = s.selfCheck := rfl
@[simp] theorem State.setCal_link (s : State) (x : WorkingCal) : (s.setCal x).link = s.link := rfl
@[simp] theorem State.setCal_faults (s : State) (x : WorkingCal) : (s.setCal x).faults = s.faults := rfl
@[simp] theorem State.setCal_gate (s : State) (x : WorkingCal) : (s.setCal x).gate = s.gate := rfl
@[simp] theorem State.setCal_restartPending (s : State) (x : WorkingCal) : (s.setCal x).restartPending = s.restartPending := rfl
@[simp] theorem State.setCal_free (s : State) (x : WorkingCal) : (s.setCal x).free = s.free := rfl
@[simp] theorem State.setCal_pending (s : State) (x : WorkingCal) : (s.setCal x).pending = s.pending := rfl
@[simp] theorem State.setSetup_pins (s : State) (x : SetupCopies) : (s.setSetup x).pins = s.pins := rfl
@[simp] theorem State.setSetup_straps (s : State) (x : SetupCopies) : (s.setSetup x).straps = s.straps := rfl
@[simp] theorem State.setSetup_epoch (s : State) (x : SetupCopies) : (s.setSetup x).epoch = s.epoch := rfl
@[simp] theorem State.setSetup_enc (s : State) (x : SetupCopies) : (s.setSetup x).enc = s.enc := rfl
@[simp] theorem State.setSetup_pos (s : State) (x : SetupCopies) : (s.setSetup x).pos = s.pos := rfl
@[simp] theorem State.setSetup_work (s : State) (x : SetupCopies) : (s.setSetup x).work = s.work := rfl
@[simp] theorem State.setSetup_coupling (s : State) (x : SetupCopies) : (s.setSetup x).coupling = s.coupling := rfl
@[simp] theorem State.setSetup_peers (s : State) (x : SetupCopies) : (s.setSetup x).peers = s.peers := rfl
@[simp] theorem State.setSetup_ret (s : State) (x : SetupCopies) : (s.setSetup x).ret = s.ret := rfl
@[simp] theorem State.setSetup_node (s : State) (x : SetupCopies) : (s.setSetup x).node = s.node := rfl
@[simp] theorem State.setSetup_homing (s : State) (x : SetupCopies) : (s.setSetup x).homing = s.homing := rfl
@[simp] theorem State.setSetup_homingOp (s : State) (x : SetupCopies) : (s.setSetup x).homingOp = s.homingOp := rfl
@[simp] theorem State.setSetup_sweep (s : State) (x : SetupCopies) : (s.setSetup x).sweep = s.sweep := rfl
@[simp] theorem State.setSetup_cal (s : State) (x : SetupCopies) : (s.setSetup x).cal = s.cal := rfl
@[simp] theorem State.setSetup_setup (s : State) (x : SetupCopies) : (s.setSetup x).setup = x := rfl
@[simp] theorem State.setSetup_store (s : State) (x : SetupCopies) : (s.setSetup x).store = s.store := rfl
@[simp] theorem State.setSetup_selfCheck (s : State) (x : SetupCopies) : (s.setSetup x).selfCheck = s.selfCheck := rfl
@[simp] theorem State.setSetup_link (s : State) (x : SetupCopies) : (s.setSetup x).link = s.link := rfl
@[simp] theorem State.setSetup_faults (s : State) (x : SetupCopies) : (s.setSetup x).faults = s.faults := rfl
@[simp] theorem State.setSetup_gate (s : State) (x : SetupCopies) : (s.setSetup x).gate = s.gate := rfl
@[simp] theorem State.setSetup_restartPending (s : State) (x : SetupCopies) : (s.setSetup x).restartPending = s.restartPending := rfl
@[simp] theorem State.setSetup_free (s : State) (x : SetupCopies) : (s.setSetup x).free = s.free := rfl
@[simp] theorem State.setSetup_pending (s : State) (x : SetupCopies) : (s.setSetup x).pending = s.pending := rfl
@[simp] theorem State.setStore_pins (s : State) (x : StoreUnit) : (s.setStore x).pins = s.pins := rfl
@[simp] theorem State.setStore_straps (s : State) (x : StoreUnit) : (s.setStore x).straps = s.straps := rfl
@[simp] theorem State.setStore_epoch (s : State) (x : StoreUnit) : (s.setStore x).epoch = s.epoch := rfl
@[simp] theorem State.setStore_enc (s : State) (x : StoreUnit) : (s.setStore x).enc = s.enc := rfl
@[simp] theorem State.setStore_pos (s : State) (x : StoreUnit) : (s.setStore x).pos = s.pos := rfl
@[simp] theorem State.setStore_work (s : State) (x : StoreUnit) : (s.setStore x).work = s.work := rfl
@[simp] theorem State.setStore_coupling (s : State) (x : StoreUnit) : (s.setStore x).coupling = s.coupling := rfl
@[simp] theorem State.setStore_peers (s : State) (x : StoreUnit) : (s.setStore x).peers = s.peers := rfl
@[simp] theorem State.setStore_ret (s : State) (x : StoreUnit) : (s.setStore x).ret = s.ret := rfl
@[simp] theorem State.setStore_node (s : State) (x : StoreUnit) : (s.setStore x).node = s.node := rfl
@[simp] theorem State.setStore_homing (s : State) (x : StoreUnit) : (s.setStore x).homing = s.homing := rfl
@[simp] theorem State.setStore_homingOp (s : State) (x : StoreUnit) : (s.setStore x).homingOp = s.homingOp := rfl
@[simp] theorem State.setStore_sweep (s : State) (x : StoreUnit) : (s.setStore x).sweep = s.sweep := rfl
@[simp] theorem State.setStore_cal (s : State) (x : StoreUnit) : (s.setStore x).cal = s.cal := rfl
@[simp] theorem State.setStore_setup (s : State) (x : StoreUnit) : (s.setStore x).setup = s.setup := rfl
@[simp] theorem State.setStore_store (s : State) (x : StoreUnit) : (s.setStore x).store = x := rfl
@[simp] theorem State.setStore_selfCheck (s : State) (x : StoreUnit) : (s.setStore x).selfCheck = s.selfCheck := rfl
@[simp] theorem State.setStore_link (s : State) (x : StoreUnit) : (s.setStore x).link = s.link := rfl
@[simp] theorem State.setStore_faults (s : State) (x : StoreUnit) : (s.setStore x).faults = s.faults := rfl
@[simp] theorem State.setStore_gate (s : State) (x : StoreUnit) : (s.setStore x).gate = s.gate := rfl
@[simp] theorem State.setStore_restartPending (s : State) (x : StoreUnit) : (s.setStore x).restartPending = s.restartPending := rfl
@[simp] theorem State.setStore_free (s : State) (x : StoreUnit) : (s.setStore x).free = s.free := rfl
@[simp] theorem State.setStore_pending (s : State) (x : StoreUnit) : (s.setStore x).pending = s.pending := rfl
@[simp] theorem State.setSelfCheck_pins (s : State) (x : SelfCheck) : (s.setSelfCheck x).pins = s.pins := rfl
@[simp] theorem State.setSelfCheck_straps (s : State) (x : SelfCheck) : (s.setSelfCheck x).straps = s.straps := rfl
@[simp] theorem State.setSelfCheck_epoch (s : State) (x : SelfCheck) : (s.setSelfCheck x).epoch = s.epoch := rfl
@[simp] theorem State.setSelfCheck_enc (s : State) (x : SelfCheck) : (s.setSelfCheck x).enc = s.enc := rfl
@[simp] theorem State.setSelfCheck_pos (s : State) (x : SelfCheck) : (s.setSelfCheck x).pos = s.pos := rfl
@[simp] theorem State.setSelfCheck_work (s : State) (x : SelfCheck) : (s.setSelfCheck x).work = s.work := rfl
@[simp] theorem State.setSelfCheck_coupling (s : State) (x : SelfCheck) : (s.setSelfCheck x).coupling = s.coupling := rfl
@[simp] theorem State.setSelfCheck_peers (s : State) (x : SelfCheck) : (s.setSelfCheck x).peers = s.peers := rfl
@[simp] theorem State.setSelfCheck_ret (s : State) (x : SelfCheck) : (s.setSelfCheck x).ret = s.ret := rfl
@[simp] theorem State.setSelfCheck_node (s : State) (x : SelfCheck) : (s.setSelfCheck x).node = s.node := rfl
@[simp] theorem State.setSelfCheck_homing (s : State) (x : SelfCheck) : (s.setSelfCheck x).homing = s.homing := rfl
@[simp] theorem State.setSelfCheck_homingOp (s : State) (x : SelfCheck) : (s.setSelfCheck x).homingOp = s.homingOp := rfl
@[simp] theorem State.setSelfCheck_sweep (s : State) (x : SelfCheck) : (s.setSelfCheck x).sweep = s.sweep := rfl
@[simp] theorem State.setSelfCheck_cal (s : State) (x : SelfCheck) : (s.setSelfCheck x).cal = s.cal := rfl
@[simp] theorem State.setSelfCheck_setup (s : State) (x : SelfCheck) : (s.setSelfCheck x).setup = s.setup := rfl
@[simp] theorem State.setSelfCheck_store (s : State) (x : SelfCheck) : (s.setSelfCheck x).store = s.store := rfl
@[simp] theorem State.setSelfCheck_selfCheck (s : State) (x : SelfCheck) : (s.setSelfCheck x).selfCheck = x := rfl
@[simp] theorem State.setSelfCheck_link (s : State) (x : SelfCheck) : (s.setSelfCheck x).link = s.link := rfl
@[simp] theorem State.setSelfCheck_faults (s : State) (x : SelfCheck) : (s.setSelfCheck x).faults = s.faults := rfl
@[simp] theorem State.setSelfCheck_gate (s : State) (x : SelfCheck) : (s.setSelfCheck x).gate = s.gate := rfl
@[simp] theorem State.setSelfCheck_restartPending (s : State) (x : SelfCheck) : (s.setSelfCheck x).restartPending = s.restartPending := rfl
@[simp] theorem State.setSelfCheck_free (s : State) (x : SelfCheck) : (s.setSelfCheck x).free = s.free := rfl
@[simp] theorem State.setSelfCheck_pending (s : State) (x : SelfCheck) : (s.setSelfCheck x).pending = s.pending := rfl
@[simp] theorem State.setLink_pins (s : State) (x : LinkController) : (s.setLink x).pins = s.pins := rfl
@[simp] theorem State.setLink_straps (s : State) (x : LinkController) : (s.setLink x).straps = s.straps := rfl
@[simp] theorem State.setLink_epoch (s : State) (x : LinkController) : (s.setLink x).epoch = s.epoch := rfl
@[simp] theorem State.setLink_enc (s : State) (x : LinkController) : (s.setLink x).enc = s.enc := rfl
@[simp] theorem State.setLink_pos (s : State) (x : LinkController) : (s.setLink x).pos = s.pos := rfl
@[simp] theorem State.setLink_work (s : State) (x : LinkController) : (s.setLink x).work = s.work := rfl
@[simp] theorem State.setLink_coupling (s : State) (x : LinkController) : (s.setLink x).coupling = s.coupling := rfl
@[simp] theorem State.setLink_peers (s : State) (x : LinkController) : (s.setLink x).peers = s.peers := rfl
@[simp] theorem State.setLink_ret (s : State) (x : LinkController) : (s.setLink x).ret = s.ret := rfl
@[simp] theorem State.setLink_node (s : State) (x : LinkController) : (s.setLink x).node = s.node := rfl
@[simp] theorem State.setLink_homing (s : State) (x : LinkController) : (s.setLink x).homing = s.homing := rfl
@[simp] theorem State.setLink_homingOp (s : State) (x : LinkController) : (s.setLink x).homingOp = s.homingOp := rfl
@[simp] theorem State.setLink_sweep (s : State) (x : LinkController) : (s.setLink x).sweep = s.sweep := rfl
@[simp] theorem State.setLink_cal (s : State) (x : LinkController) : (s.setLink x).cal = s.cal := rfl
@[simp] theorem State.setLink_setup (s : State) (x : LinkController) : (s.setLink x).setup = s.setup := rfl
@[simp] theorem State.setLink_store (s : State) (x : LinkController) : (s.setLink x).store = s.store := rfl
@[simp] theorem State.setLink_selfCheck (s : State) (x : LinkController) : (s.setLink x).selfCheck = s.selfCheck := rfl
@[simp] theorem State.setLink_link (s : State) (x : LinkController) : (s.setLink x).link = x := rfl
@[simp] theorem State.setLink_faults (s : State) (x : LinkController) : (s.setLink x).faults = s.faults := rfl
@[simp] theorem State.setLink_gate (s : State) (x : LinkController) : (s.setLink x).gate = s.gate := rfl
@[simp] theorem State.setLink_restartPending (s : State) (x : LinkController) : (s.setLink x).restartPending = s.restartPending := rfl
@[simp] theorem State.setLink_free (s : State) (x : LinkController) : (s.setLink x).free = s.free := rfl
@[simp] theorem State.setLink_pending (s : State) (x : LinkController) : (s.setLink x).pending = s.pending := rfl
@[simp] theorem State.setFaults_pins (s : State) (x : FaultSupervisor) : (s.setFaults x).pins = s.pins := rfl
@[simp] theorem State.setFaults_straps (s : State) (x : FaultSupervisor) : (s.setFaults x).straps = s.straps := rfl
@[simp] theorem State.setFaults_epoch (s : State) (x : FaultSupervisor) : (s.setFaults x).epoch = s.epoch := rfl
@[simp] theorem State.setFaults_enc (s : State) (x : FaultSupervisor) : (s.setFaults x).enc = s.enc := rfl
@[simp] theorem State.setFaults_pos (s : State) (x : FaultSupervisor) : (s.setFaults x).pos = s.pos := rfl
@[simp] theorem State.setFaults_work (s : State) (x : FaultSupervisor) : (s.setFaults x).work = s.work := rfl
@[simp] theorem State.setFaults_coupling (s : State) (x : FaultSupervisor) : (s.setFaults x).coupling = s.coupling := rfl
@[simp] theorem State.setFaults_peers (s : State) (x : FaultSupervisor) : (s.setFaults x).peers = s.peers := rfl
@[simp] theorem State.setFaults_ret (s : State) (x : FaultSupervisor) : (s.setFaults x).ret = s.ret := rfl
@[simp] theorem State.setFaults_node (s : State) (x : FaultSupervisor) : (s.setFaults x).node = s.node := rfl
@[simp] theorem State.setFaults_homing (s : State) (x : FaultSupervisor) : (s.setFaults x).homing = s.homing := rfl
@[simp] theorem State.setFaults_homingOp (s : State) (x : FaultSupervisor) : (s.setFaults x).homingOp = s.homingOp := rfl
@[simp] theorem State.setFaults_sweep (s : State) (x : FaultSupervisor) : (s.setFaults x).sweep = s.sweep := rfl
@[simp] theorem State.setFaults_cal (s : State) (x : FaultSupervisor) : (s.setFaults x).cal = s.cal := rfl
@[simp] theorem State.setFaults_setup (s : State) (x : FaultSupervisor) : (s.setFaults x).setup = s.setup := rfl
@[simp] theorem State.setFaults_store (s : State) (x : FaultSupervisor) : (s.setFaults x).store = s.store := rfl
@[simp] theorem State.setFaults_selfCheck (s : State) (x : FaultSupervisor) : (s.setFaults x).selfCheck = s.selfCheck := rfl
@[simp] theorem State.setFaults_link (s : State) (x : FaultSupervisor) : (s.setFaults x).link = s.link := rfl
@[simp] theorem State.setFaults_faults (s : State) (x : FaultSupervisor) : (s.setFaults x).faults = x := rfl
@[simp] theorem State.setFaults_gate (s : State) (x : FaultSupervisor) : (s.setFaults x).gate = s.gate := rfl
@[simp] theorem State.setFaults_restartPending (s : State) (x : FaultSupervisor) : (s.setFaults x).restartPending = s.restartPending := rfl
@[simp] theorem State.setFaults_free (s : State) (x : FaultSupervisor) : (s.setFaults x).free = s.free := rfl
@[simp] theorem State.setFaults_pending (s : State) (x : FaultSupervisor) : (s.setFaults x).pending = s.pending := rfl
@[simp] theorem State.setGate_pins (s : State) (x : MotionGate) : (s.setGate x).pins = s.pins := rfl
@[simp] theorem State.setGate_straps (s : State) (x : MotionGate) : (s.setGate x).straps = s.straps := rfl
@[simp] theorem State.setGate_epoch (s : State) (x : MotionGate) : (s.setGate x).epoch = s.epoch := rfl
@[simp] theorem State.setGate_enc (s : State) (x : MotionGate) : (s.setGate x).enc = s.enc := rfl
@[simp] theorem State.setGate_pos (s : State) (x : MotionGate) : (s.setGate x).pos = s.pos := rfl
@[simp] theorem State.setGate_work (s : State) (x : MotionGate) : (s.setGate x).work = s.work := rfl
@[simp] theorem State.setGate_coupling (s : State) (x : MotionGate) : (s.setGate x).coupling = s.coupling := rfl
@[simp] theorem State.setGate_peers (s : State) (x : MotionGate) : (s.setGate x).peers = s.peers := rfl
@[simp] theorem State.setGate_ret (s : State) (x : MotionGate) : (s.setGate x).ret = s.ret := rfl
@[simp] theorem State.setGate_node (s : State) (x : MotionGate) : (s.setGate x).node = s.node := rfl
@[simp] theorem State.setGate_homing (s : State) (x : MotionGate) : (s.setGate x).homing = s.homing := rfl
@[simp] theorem State.setGate_homingOp (s : State) (x : MotionGate) : (s.setGate x).homingOp = s.homingOp := rfl
@[simp] theorem State.setGate_sweep (s : State) (x : MotionGate) : (s.setGate x).sweep = s.sweep := rfl
@[simp] theorem State.setGate_cal (s : State) (x : MotionGate) : (s.setGate x).cal = s.cal := rfl
@[simp] theorem State.setGate_setup (s : State) (x : MotionGate) : (s.setGate x).setup = s.setup := rfl
@[simp] theorem State.setGate_store (s : State) (x : MotionGate) : (s.setGate x).store = s.store := rfl
@[simp] theorem State.setGate_selfCheck (s : State) (x : MotionGate) : (s.setGate x).selfCheck = s.selfCheck := rfl
@[simp] theorem State.setGate_link (s : State) (x : MotionGate) : (s.setGate x).link = s.link := rfl
@[simp] theorem State.setGate_faults (s : State) (x : MotionGate) : (s.setGate x).faults = s.faults := rfl
@[simp] theorem State.setGate_gate (s : State) (x : MotionGate) : (s.setGate x).gate = x := rfl
@[simp] theorem State.setGate_restartPending (s : State) (x : MotionGate) : (s.setGate x).restartPending = s.restartPending := rfl
@[simp] theorem State.setGate_free (s : State) (x : MotionGate) : (s.setGate x).free = s.free := rfl
@[simp] theorem State.setGate_pending (s : State) (x : MotionGate) : (s.setGate x).pending = s.pending := rfl
@[simp] theorem State.setRestartPending_pins (s : State) (x : Bool) : (s.setRestartPending x).pins = s.pins := rfl
@[simp] theorem State.setRestartPending_straps (s : State) (x : Bool) : (s.setRestartPending x).straps = s.straps := rfl
@[simp] theorem State.setRestartPending_epoch (s : State) (x : Bool) : (s.setRestartPending x).epoch = s.epoch := rfl
@[simp] theorem State.setRestartPending_enc (s : State) (x : Bool) : (s.setRestartPending x).enc = s.enc := rfl
@[simp] theorem State.setRestartPending_pos (s : State) (x : Bool) : (s.setRestartPending x).pos = s.pos := rfl
@[simp] theorem State.setRestartPending_work (s : State) (x : Bool) : (s.setRestartPending x).work = s.work := rfl
@[simp] theorem State.setRestartPending_coupling (s : State) (x : Bool) : (s.setRestartPending x).coupling = s.coupling := rfl
@[simp] theorem State.setRestartPending_peers (s : State) (x : Bool) : (s.setRestartPending x).peers = s.peers := rfl
@[simp] theorem State.setRestartPending_ret (s : State) (x : Bool) : (s.setRestartPending x).ret = s.ret := rfl
@[simp] theorem State.setRestartPending_node (s : State) (x : Bool) : (s.setRestartPending x).node = s.node := rfl
@[simp] theorem State.setRestartPending_homing (s : State) (x : Bool) : (s.setRestartPending x).homing = s.homing := rfl
@[simp] theorem State.setRestartPending_homingOp (s : State) (x : Bool) : (s.setRestartPending x).homingOp = s.homingOp := rfl
@[simp] theorem State.setRestartPending_sweep (s : State) (x : Bool) : (s.setRestartPending x).sweep = s.sweep := rfl
@[simp] theorem State.setRestartPending_cal (s : State) (x : Bool) : (s.setRestartPending x).cal = s.cal := rfl
@[simp] theorem State.setRestartPending_setup (s : State) (x : Bool) : (s.setRestartPending x).setup = s.setup := rfl
@[simp] theorem State.setRestartPending_store (s : State) (x : Bool) : (s.setRestartPending x).store = s.store := rfl
@[simp] theorem State.setRestartPending_selfCheck (s : State) (x : Bool) : (s.setRestartPending x).selfCheck = s.selfCheck := rfl
@[simp] theorem State.setRestartPending_link (s : State) (x : Bool) : (s.setRestartPending x).link = s.link := rfl
@[simp] theorem State.setRestartPending_faults (s : State) (x : Bool) : (s.setRestartPending x).faults = s.faults := rfl
@[simp] theorem State.setRestartPending_gate (s : State) (x : Bool) : (s.setRestartPending x).gate = s.gate := rfl
@[simp] theorem State.setRestartPending_restartPending (s : State) (x : Bool) : (s.setRestartPending x).restartPending = x := rfl
@[simp] theorem State.setRestartPending_free (s : State) (x : Bool) : (s.setRestartPending x).free = s.free := rfl
@[simp] theorem State.setRestartPending_pending (s : State) (x : Bool) : (s.setRestartPending x).pending = s.pending := rfl
@[simp] theorem State.setFree_pins (s : State) (x : Nat) : (s.setFree x).pins = s.pins := rfl
@[simp] theorem State.setFree_straps (s : State) (x : Nat) : (s.setFree x).straps = s.straps := rfl
@[simp] theorem State.setFree_epoch (s : State) (x : Nat) : (s.setFree x).epoch = s.epoch := rfl
@[simp] theorem State.setFree_enc (s : State) (x : Nat) : (s.setFree x).enc = s.enc := rfl
@[simp] theorem State.setFree_pos (s : State) (x : Nat) : (s.setFree x).pos = s.pos := rfl
@[simp] theorem State.setFree_work (s : State) (x : Nat) : (s.setFree x).work = s.work := rfl
@[simp] theorem State.setFree_coupling (s : State) (x : Nat) : (s.setFree x).coupling = s.coupling := rfl
@[simp] theorem State.setFree_peers (s : State) (x : Nat) : (s.setFree x).peers = s.peers := rfl
@[simp] theorem State.setFree_ret (s : State) (x : Nat) : (s.setFree x).ret = s.ret := rfl
@[simp] theorem State.setFree_node (s : State) (x : Nat) : (s.setFree x).node = s.node := rfl
@[simp] theorem State.setFree_homing (s : State) (x : Nat) : (s.setFree x).homing = s.homing := rfl
@[simp] theorem State.setFree_homingOp (s : State) (x : Nat) : (s.setFree x).homingOp = s.homingOp := rfl
@[simp] theorem State.setFree_sweep (s : State) (x : Nat) : (s.setFree x).sweep = s.sweep := rfl
@[simp] theorem State.setFree_cal (s : State) (x : Nat) : (s.setFree x).cal = s.cal := rfl
@[simp] theorem State.setFree_setup (s : State) (x : Nat) : (s.setFree x).setup = s.setup := rfl
@[simp] theorem State.setFree_store (s : State) (x : Nat) : (s.setFree x).store = s.store := rfl
@[simp] theorem State.setFree_selfCheck (s : State) (x : Nat) : (s.setFree x).selfCheck = s.selfCheck := rfl
@[simp] theorem State.setFree_link (s : State) (x : Nat) : (s.setFree x).link = s.link := rfl
@[simp] theorem State.setFree_faults (s : State) (x : Nat) : (s.setFree x).faults = s.faults := rfl
@[simp] theorem State.setFree_gate (s : State) (x : Nat) : (s.setFree x).gate = s.gate := rfl
@[simp] theorem State.setFree_restartPending (s : State) (x : Nat) : (s.setFree x).restartPending = s.restartPending := rfl
@[simp] theorem State.setFree_free (s : State) (x : Nat) : (s.setFree x).free = x := rfl
@[simp] theorem State.setFree_pending (s : State) (x : Nat) : (s.setFree x).pending = s.pending := rfl
@[simp] theorem State.setPending_pins (s : State) (x : List Instr) : (s.setPending x).pins = s.pins := rfl
@[simp] theorem State.setPending_straps (s : State) (x : List Instr) : (s.setPending x).straps = s.straps := rfl
@[simp] theorem State.setPending_epoch (s : State) (x : List Instr) : (s.setPending x).epoch = s.epoch := rfl
@[simp] theorem State.setPending_enc (s : State) (x : List Instr) : (s.setPending x).enc = s.enc := rfl
@[simp] theorem State.setPending_pos (s : State) (x : List Instr) : (s.setPending x).pos = s.pos := rfl
@[simp] theorem State.setPending_work (s : State) (x : List Instr) : (s.setPending x).work = s.work := rfl
@[simp] theorem State.setPending_coupling (s : State) (x : List Instr) : (s.setPending x).coupling = s.coupling := rfl
@[simp] theorem State.setPending_peers (s : State) (x : List Instr) : (s.setPending x).peers = s.peers := rfl
@[simp] theorem State.setPending_ret (s : State) (x : List Instr) : (s.setPending x).ret = s.ret := rfl
@[simp] theorem State.setPending_node (s : State) (x : List Instr) : (s.setPending x).node = s.node := rfl
@[simp] theorem State.setPending_homing (s : State) (x : List Instr) : (s.setPending x).homing = s.homing := rfl
@[simp] theorem State.setPending_homingOp (s : State) (x : List Instr) : (s.setPending x).homingOp = s.homingOp := rfl
@[simp] theorem State.setPending_sweep (s : State) (x : List Instr) : (s.setPending x).sweep = s.sweep := rfl
@[simp] theorem State.setPending_cal (s : State) (x : List Instr) : (s.setPending x).cal = s.cal := rfl
@[simp] theorem State.setPending_setup (s : State) (x : List Instr) : (s.setPending x).setup = s.setup := rfl
@[simp] theorem State.setPending_store (s : State) (x : List Instr) : (s.setPending x).store = s.store := rfl
@[simp] theorem State.setPending_selfCheck (s : State) (x : List Instr) : (s.setPending x).selfCheck = s.selfCheck := rfl
@[simp] theorem State.setPending_link (s : State) (x : List Instr) : (s.setPending x).link = s.link := rfl
@[simp] theorem State.setPending_faults (s : State) (x : List Instr) : (s.setPending x).faults = s.faults := rfl
@[simp] theorem State.setPending_gate (s : State) (x : List Instr) : (s.setPending x).gate = s.gate := rfl
@[simp] theorem State.setPending_restartPending (s : State) (x : List Instr) : (s.setPending x).restartPending = s.restartPending := rfl
@[simp] theorem State.setPending_free (s : State) (x : List Instr) : (s.setPending x).free = s.free := rfl
@[simp] theorem State.setPending_pending (s : State) (x : List Instr) : (s.setPending x).pending = x := rfl

end Sys2Proof.Machine
end

