-- ==== Sys2Proof/Laws/Publish.lean ====
section
/-! SUPPORT. What the end of an event leaves unchanged: one frame lemma per operation of Publish.lean, every field at once. -/

namespace Sys2Proof.Machine

@[simp] theorem placeStatus_frame (s : State) :
    (placeStatus s).pins = s.pins ∧ (placeStatus s).straps = s.straps ∧ (placeStatus s).epoch = s.epoch
     ∧ (placeStatus s).enc = s.enc ∧ (placeStatus s).pos = s.pos ∧ (placeStatus s).work = s.work
     ∧ (placeStatus s).coupling = s.coupling ∧ (placeStatus s).peers = s.peers ∧ (placeStatus s).ret = s.ret
     ∧ (placeStatus s).node = s.node ∧ (placeStatus s).homing = s.homing ∧ (placeStatus s).homingOp = s.homingOp
     ∧ (placeStatus s).sweep = s.sweep ∧ (placeStatus s).cal = s.cal ∧ (placeStatus s).setup = s.setup
     ∧ (placeStatus s).store = s.store ∧ (placeStatus s).selfCheck = s.selfCheck ∧ (placeStatus s).faults = s.faults
     ∧ (placeStatus s).gate = s.gate ∧ (placeStatus s).restartPending = s.restartPending
     ∧ (placeStatus s).free = s.free ∧ (placeStatus s).pending = s.pending
     ∧ (placeStatus s).link.positionSlot = s.link.positionSlot
     ∧ (placeStatus s).link.publishOverrun = s.link.publishOverrun ∧ (placeStatus s).link.watching = s.link.watching
     ∧ (placeStatus s).link.joined = s.link.joined ∧ (placeStatus s).link.awaitIdle = s.link.awaitIdle
     ∧ (placeStatus s).link.health = s.link.health ∧ (placeStatus s).link.intact = s.link.intact
     ∧ (placeStatus s).link.tx = s.link.tx ∧ (placeStatus s).link.replies = s.link.replies
     ∧ (placeStatus s).link.requests = s.link.requests ∧ (placeStatus s).link.recessiveRun = s.link.recessiveRun
     ∧ (placeStatus s).link.dominantRun = s.link.dominantRun ∧ (placeStatus s).link.stuck = s.link.stuck
     ∧ (placeStatus s).link.idlePeriods = s.link.idlePeriods
     ∧ (placeStatus s).link.requestOverrun = s.link.requestOverrun
     ∧ (placeStatus s).link.stuckCount = s.link.stuckCount := by
  unfold placeStatus; split <;> simp

@[simp] theorem placePosition_frame (payload : List Byte) (s : State) :
    (placePosition payload s).pins = s.pins ∧ (placePosition payload s).straps = s.straps
     ∧ (placePosition payload s).epoch = s.epoch ∧ (placePosition payload s).enc = s.enc
     ∧ (placePosition payload s).pos = s.pos ∧ (placePosition payload s).work = s.work
     ∧ (placePosition payload s).coupling = s.coupling ∧ (placePosition payload s).peers = s.peers
     ∧ (placePosition payload s).ret = s.ret ∧ (placePosition payload s).node = s.node
     ∧ (placePosition payload s).homing = s.homing ∧ (placePosition payload s).homingOp = s.homingOp
     ∧ (placePosition payload s).sweep = s.sweep ∧ (placePosition payload s).cal = s.cal
     ∧ (placePosition payload s).setup = s.setup ∧ (placePosition payload s).store = s.store
     ∧ (placePosition payload s).selfCheck = s.selfCheck ∧ (placePosition payload s).faults = s.faults
     ∧ (placePosition payload s).gate = s.gate ∧ (placePosition payload s).restartPending = s.restartPending
     ∧ (placePosition payload s).free = s.free ∧ (placePosition payload s).pending = s.pending
     ∧ (placePosition payload s).link.statusSlot = s.link.statusSlot
     ∧ (placePosition payload s).link.beaconCount = s.link.beaconCount
     ∧ (placePosition payload s).link.watching = s.link.watching
     ∧ (placePosition payload s).link.joined = s.link.joined
     ∧ (placePosition payload s).link.awaitIdle = s.link.awaitIdle
     ∧ (placePosition payload s).link.health = s.link.health ∧ (placePosition payload s).link.intact = s.link.intact
     ∧ (placePosition payload s).link.tx = s.link.tx ∧ (placePosition payload s).link.replies = s.link.replies
     ∧ (placePosition payload s).link.requests = s.link.requests
     ∧ (placePosition payload s).link.recessiveRun = s.link.recessiveRun
     ∧ (placePosition payload s).link.dominantRun = s.link.dominantRun
     ∧ (placePosition payload s).link.stuck = s.link.stuck
     ∧ (placePosition payload s).link.idlePeriods = s.link.idlePeriods
     ∧ (placePosition payload s).link.requestOverrun = s.link.requestOverrun
     ∧ (placePosition payload s).link.stuckCount = s.link.stuckCount := by
  unfold placePosition; split <;> simp

@[simp] theorem judgeGate_frame (s0 : State) (s : State) :
    (judgeGate s0 s).pins = s.pins ∧ (judgeGate s0 s).straps = s.straps ∧ (judgeGate s0 s).epoch = s.epoch
     ∧ (judgeGate s0 s).enc = s.enc ∧ (judgeGate s0 s).pos = s.pos ∧ (judgeGate s0 s).work = s.work
     ∧ (judgeGate s0 s).coupling = s.coupling ∧ (judgeGate s0 s).peers = s.peers ∧ (judgeGate s0 s).ret = s.ret
     ∧ (judgeGate s0 s).node = s.node ∧ (judgeGate s0 s).homing = s.homing ∧ (judgeGate s0 s).homingOp = s.homingOp
     ∧ (judgeGate s0 s).sweep = s.sweep ∧ (judgeGate s0 s).cal = s.cal ∧ (judgeGate s0 s).setup = s.setup
     ∧ (judgeGate s0 s).store = s.store ∧ (judgeGate s0 s).selfCheck = s.selfCheck ∧ (judgeGate s0 s).link = s.link
     ∧ (judgeGate s0 s).faults = s.faults ∧ (judgeGate s0 s).restartPending = s.restartPending
     ∧ (judgeGate s0 s).free = s.free ∧ (judgeGate s0 s).pending = s.pending
     ∧ (judgeGate s0 s).gate.rdyLevel = s.gate.rdyLevel ∧ (judgeGate s0 s).gate.travelSide = s.gate.travelSide := by
  unfold judgeGate gateOn; repeat' split
  all_goals simp

@[simp] theorem moveNode_frame (n : NodeRecord) (s : State) :
    (moveNode n s).pins = s.pins ∧ (moveNode n s).straps = s.straps ∧ (moveNode n s).epoch = s.epoch
     ∧ (moveNode n s).enc = s.enc ∧ (moveNode n s).pos = s.pos ∧ (moveNode n s).work = s.work
     ∧ (moveNode n s).coupling = s.coupling ∧ (moveNode n s).peers = s.peers ∧ (moveNode n s).ret = s.ret
     ∧ (moveNode n s).homing = s.homing ∧ (moveNode n s).homingOp = s.homingOp ∧ (moveNode n s).sweep = s.sweep
     ∧ (moveNode n s).cal = s.cal ∧ (moveNode n s).setup = s.setup ∧ (moveNode n s).store = s.store
     ∧ (moveNode n s).selfCheck = s.selfCheck ∧ (moveNode n s).link = s.link ∧ (moveNode n s).faults = s.faults
     ∧ (moveNode n s).restartPending = s.restartPending ∧ (moveNode n s).free = s.free
     ∧ (moveNode n s).pending = s.pending ∧ (moveNode n s).node = n ∧ (moveNode n s).gate.rdyLevel = s.gate.rdyLevel
     ∧ (moveNode n s).gate.travelSide = s.gate.travelSide := by
  simp [moveNode]

@[simp] theorem moveFaults_frame (f : FaultSupervisor) (s : State) :
    (moveFaults f s).pins = s.pins ∧ (moveFaults f s).straps = s.straps ∧ (moveFaults f s).epoch = s.epoch
     ∧ (moveFaults f s).enc = s.enc ∧ (moveFaults f s).pos = s.pos ∧ (moveFaults f s).work = s.work
     ∧ (moveFaults f s).coupling = s.coupling ∧ (moveFaults f s).peers = s.peers ∧ (moveFaults f s).ret = s.ret
     ∧ (moveFaults f s).node = s.node ∧ (moveFaults f s).homing = s.homing ∧ (moveFaults f s).homingOp = s.homingOp
     ∧ (moveFaults f s).sweep = s.sweep ∧ (moveFaults f s).cal = s.cal ∧ (moveFaults f s).setup = s.setup
     ∧ (moveFaults f s).store = s.store ∧ (moveFaults f s).selfCheck = s.selfCheck ∧ (moveFaults f s).link = s.link
     ∧ (moveFaults f s).restartPending = s.restartPending ∧ (moveFaults f s).free = s.free
     ∧ (moveFaults f s).pending = s.pending ∧ (moveFaults f s).faults = f
     ∧ (moveFaults f s).gate.rdyLevel = s.gate.rdyLevel ∧ (moveFaults f s).gate.travelSide = s.gate.travelSide := by
  simp [moveFaults]

@[simp] theorem mirrorSync_frame (s0 : State) (s : State) :
    (mirrorSync s0 s).pins = s.pins ∧ (mirrorSync s0 s).straps = s.straps ∧ (mirrorSync s0 s).epoch = s.epoch
     ∧ (mirrorSync s0 s).enc = s.enc ∧ (mirrorSync s0 s).pos = s.pos ∧ (mirrorSync s0 s).work = s.work
     ∧ (mirrorSync s0 s).coupling = s.coupling ∧ (mirrorSync s0 s).peers = s.peers ∧ (mirrorSync s0 s).node = s.node
     ∧ (mirrorSync s0 s).homing = s.homing ∧ (mirrorSync s0 s).homingOp = s.homingOp
     ∧ (mirrorSync s0 s).sweep = s.sweep ∧ (mirrorSync s0 s).cal = s.cal ∧ (mirrorSync s0 s).setup = s.setup
     ∧ (mirrorSync s0 s).store = s.store ∧ (mirrorSync s0 s).selfCheck = s.selfCheck
     ∧ (mirrorSync s0 s).link = s.link ∧ (mirrorSync s0 s).faults = s.faults ∧ (mirrorSync s0 s).gate = s.gate
     ∧ (mirrorSync s0 s).restartPending = s.restartPending ∧ (mirrorSync s0 s).free = s.free
     ∧ (mirrorSync s0 s).pending = s.pending ∧ (mirrorSync s0 s).ret.record = s.ret.record
     ∧ (mirrorSync s0 s).ret.tracker = s.ret.tracker ∧ (mirrorSync s0 s).ret.stateLost = s.ret.stateLost
     ∧ (mirrorSync s0 s).ret.dwellMet = s.ret.dwellMet := by
  unfold mirrorSync; split <;> simp

@[simp] theorem publish_frame (s0 : State) (s : State) :
    (publish s0 s).pins = s.pins ∧ (publish s0 s).straps = s.straps ∧ (publish s0 s).epoch = s.epoch
     ∧ (publish s0 s).enc = s.enc ∧ (publish s0 s).pos = s.pos ∧ (publish s0 s).work = s.work
     ∧ (publish s0 s).coupling = s.coupling ∧ (publish s0 s).peers = s.peers ∧ (publish s0 s).ret = s.ret
     ∧ (publish s0 s).node = s.node ∧ (publish s0 s).homing = s.homing ∧ (publish s0 s).homingOp = s.homingOp
     ∧ (publish s0 s).sweep = s.sweep ∧ (publish s0 s).cal = s.cal ∧ (publish s0 s).setup = s.setup
     ∧ (publish s0 s).store = s.store ∧ (publish s0 s).selfCheck = s.selfCheck ∧ (publish s0 s).faults = s.faults
     ∧ (publish s0 s).gate = s.gate ∧ (publish s0 s).restartPending = s.restartPending ∧ (publish s0 s).free = s.free
     ∧ (publish s0 s).pending = s.pending ∧ (publish s0 s).link.positionSlot = s.link.positionSlot
     ∧ (publish s0 s).link.publishOverrun = s.link.publishOverrun ∧ (publish s0 s).link.watching = s.link.watching
     ∧ (publish s0 s).link.joined = s.link.joined ∧ (publish s0 s).link.awaitIdle = s.link.awaitIdle
     ∧ (publish s0 s).link.health = s.link.health ∧ (publish s0 s).link.intact = s.link.intact
     ∧ (publish s0 s).link.tx = s.link.tx ∧ (publish s0 s).link.replies = s.link.replies
     ∧ (publish s0 s).link.requests = s.link.requests ∧ (publish s0 s).link.recessiveRun = s.link.recessiveRun
     ∧ (publish s0 s).link.dominantRun = s.link.dominantRun ∧ (publish s0 s).link.stuck = s.link.stuck
     ∧ (publish s0 s).link.idlePeriods = s.link.idlePeriods
     ∧ (publish s0 s).link.requestOverrun = s.link.requestOverrun
     ∧ (publish s0 s).link.stuckCount = s.link.stuckCount := by
  unfold publish; split <;> simp

@[simp] theorem conclude_frame (s0 : State) (s : State) :
    (conclude s0 s).pins = s.pins ∧ (conclude s0 s).straps = s.straps ∧ (conclude s0 s).epoch = s.epoch
     ∧ (conclude s0 s).enc = s.enc ∧ (conclude s0 s).pos = s.pos ∧ (conclude s0 s).work = s.work
     ∧ (conclude s0 s).coupling = s.coupling ∧ (conclude s0 s).peers = s.peers ∧ (conclude s0 s).node = s.node
     ∧ (conclude s0 s).homing = s.homing ∧ (conclude s0 s).homingOp = s.homingOp ∧ (conclude s0 s).sweep = s.sweep
     ∧ (conclude s0 s).cal = s.cal ∧ (conclude s0 s).setup = s.setup ∧ (conclude s0 s).store = s.store
     ∧ (conclude s0 s).selfCheck = s.selfCheck ∧ (conclude s0 s).faults = s.faults
     ∧ (conclude s0 s).restartPending = s.restartPending ∧ (conclude s0 s).free = s.free
     ∧ (conclude s0 s).pending = s.pending ∧ (conclude s0 s).link.positionSlot = s.link.positionSlot
     ∧ (conclude s0 s).link.publishOverrun = s.link.publishOverrun ∧ (conclude s0 s).gate.rdyLevel = s.gate.rdyLevel
     ∧ (conclude s0 s).gate.travelSide = s.gate.travelSide ∧ (conclude s0 s).ret.record = s.ret.record
     ∧ (conclude s0 s).ret.tracker = s.ret.tracker ∧ (conclude s0 s).ret.stateLost = s.ret.stateLost
     ∧ (conclude s0 s).ret.dwellMet = s.ret.dwellMet ∧ (conclude s0 s).link.watching = s.link.watching
     ∧ (conclude s0 s).link.joined = s.link.joined ∧ (conclude s0 s).link.awaitIdle = s.link.awaitIdle
     ∧ (conclude s0 s).link.health = s.link.health ∧ (conclude s0 s).link.intact = s.link.intact
     ∧ (conclude s0 s).link.tx = s.link.tx ∧ (conclude s0 s).link.replies = s.link.replies
     ∧ (conclude s0 s).link.requests = s.link.requests ∧ (conclude s0 s).link.recessiveRun = s.link.recessiveRun
     ∧ (conclude s0 s).link.dominantRun = s.link.dominantRun ∧ (conclude s0 s).link.stuck = s.link.stuck
     ∧ (conclude s0 s).link.idlePeriods = s.link.idlePeriods
     ∧ (conclude s0 s).link.requestOverrun = s.link.requestOverrun
     ∧ (conclude s0 s).link.stuckCount = s.link.stuckCount := by
  simp [conclude]

end Sys2Proof.Machine
end

