-- ==== Sys2Proof/Laws/Supervisor.lean ====
section
/-! SUPPORT. What the Reference Controller's moves and the Fault Supervisor leave unchanged: one frame lemma per operation. -/

namespace Sys2Proof.Machine

@[simp] theorem enterReferenced_frame (s : State) :
    (enterReferenced s).pins = s.pins ∧ (enterReferenced s).straps = s.straps ∧ (enterReferenced s).epoch = s.epoch
     ∧ (enterReferenced s).enc = s.enc ∧ (enterReferenced s).work = s.work
     ∧ (enterReferenced s).coupling = s.coupling ∧ (enterReferenced s).peers = s.peers
     ∧ (enterReferenced s).ret = s.ret ∧ (enterReferenced s).homing = s.homing
     ∧ (enterReferenced s).homingOp = s.homingOp ∧ (enterReferenced s).sweep = s.sweep
     ∧ (enterReferenced s).cal = s.cal ∧ (enterReferenced s).setup = s.setup ∧ (enterReferenced s).store = s.store
     ∧ (enterReferenced s).selfCheck = s.selfCheck ∧ (enterReferenced s).link = s.link
     ∧ (enterReferenced s).faults = s.faults ∧ (enterReferenced s).restartPending = s.restartPending
     ∧ (enterReferenced s).free = s.free ∧ (enterReferenced s).pending = s.pending
     ∧ (enterReferenced s).gate.rdyLevel = s.gate.rdyLevel ∧ (enterReferenced s).gate.travelSide = s.gate.travelSide
     ∧ (enterReferenced s).pos.established = s.pos.established ∧ (enterReferenced s).pos.p = s.pos.p
     ∧ (enterReferenced s).pos.thetaLast = s.pos.thetaLast ∧ (enterReferenced s).pos.deltaLast = s.pos.deltaLast
     ∧ (enterReferenced s).pos.failedRun = s.pos.failedRun ∧ (enterReferenced s).pos.s = s.pos.s
     ∧ (enterReferenced s).pos.playKnown = s.pos.playKnown ∧ (enterReferenced s).pos.acc = s.pos.acc
     ∧ (enterReferenced s).pos.lastDir = s.pos.lastDir ∧ (enterReferenced s).pos.j = s.pos.j
     ∧ (enterReferenced s).pos.evaluated = s.pos.evaluated ∧ (enterReferenced s).pos.gq = s.pos.gq
     ∧ (enterReferenced s).pos.jg = s.pos.jg ∧ (enterReferenced s).pos.usable = s.pos.usable
     ∧ (enterReferenced s).pos.lastE = s.pos.lastE ∧ (enterReferenced s).pos.lastSj = s.pos.lastSj
     ∧ (enterReferenced s).pos.firstQuarter = s.pos.firstQuarter ∧ (enterReferenced s).pos.abs = s.pos.abs := by
  simp [enterReferenced]

@[simp] theorem setAbsolute_frame (s : State) :
    (setAbsolute s).pins = s.pins ∧ (setAbsolute s).straps = s.straps ∧ (setAbsolute s).epoch = s.epoch
     ∧ (setAbsolute s).enc = s.enc ∧ (setAbsolute s).work = s.work ∧ (setAbsolute s).coupling = s.coupling
     ∧ (setAbsolute s).peers = s.peers ∧ (setAbsolute s).node = s.node ∧ (setAbsolute s).homing = s.homing
     ∧ (setAbsolute s).homingOp = s.homingOp ∧ (setAbsolute s).sweep = s.sweep ∧ (setAbsolute s).cal = s.cal
     ∧ (setAbsolute s).setup = s.setup ∧ (setAbsolute s).store = s.store ∧ (setAbsolute s).selfCheck = s.selfCheck
     ∧ (setAbsolute s).link = s.link ∧ (setAbsolute s).faults = s.faults ∧ (setAbsolute s).gate = s.gate
     ∧ (setAbsolute s).restartPending = s.restartPending ∧ (setAbsolute s).free = s.free
     ∧ (setAbsolute s).pending = s.pending ∧ (setAbsolute s).pos.established = s.pos.established
     ∧ (setAbsolute s).pos.p = s.pos.p ∧ (setAbsolute s).pos.thetaLast = s.pos.thetaLast
     ∧ (setAbsolute s).pos.deltaLast = s.pos.deltaLast ∧ (setAbsolute s).pos.failedRun = s.pos.failedRun
     ∧ (setAbsolute s).pos.s = s.pos.s ∧ (setAbsolute s).pos.playKnown = s.pos.playKnown
     ∧ (setAbsolute s).pos.acc = s.pos.acc ∧ (setAbsolute s).pos.lastDir = s.pos.lastDir
     ∧ (setAbsolute s).pos.j = s.pos.j ∧ (setAbsolute s).pos.evaluated = s.pos.evaluated
     ∧ (setAbsolute s).pos.gq = s.pos.gq ∧ (setAbsolute s).pos.jg = s.pos.jg
     ∧ (setAbsolute s).pos.usable = s.pos.usable ∧ (setAbsolute s).pos.lastE = s.pos.lastE
     ∧ (setAbsolute s).pos.lastSj = s.pos.lastSj ∧ (setAbsolute s).pos.firstQuarter = s.pos.firstQuarter := by
  simp [setAbsolute]

@[simp] theorem demote_frame (s : State) :
    (demote s).pins = s.pins ∧ (demote s).straps = s.straps ∧ (demote s).epoch = s.epoch ∧ (demote s).enc = s.enc
     ∧ (demote s).pos = s.pos ∧ (demote s).work = s.work ∧ (demote s).coupling = s.coupling
     ∧ (demote s).peers = s.peers ∧ (demote s).ret = s.ret ∧ (demote s).homing = s.homing
     ∧ (demote s).homingOp = s.homingOp ∧ (demote s).sweep = s.sweep ∧ (demote s).cal = s.cal
     ∧ (demote s).setup = s.setup ∧ (demote s).store = s.store ∧ (demote s).selfCheck = s.selfCheck
     ∧ (demote s).link = s.link ∧ (demote s).faults = s.faults ∧ (demote s).restartPending = s.restartPending
     ∧ (demote s).free = s.free ∧ (demote s).pending = s.pending ∧ (demote s).gate.rdyLevel = s.gate.rdyLevel
     ∧ (demote s).gate.travelSide = s.gate.travelSide := by
  simp [demote]

@[simp] theorem reasonFault_frame (s : State) :
    (reasonFault s).pins = s.pins ∧ (reasonFault s).straps = s.straps ∧ (reasonFault s).epoch = s.epoch
     ∧ (reasonFault s).enc = s.enc ∧ (reasonFault s).pos = s.pos ∧ (reasonFault s).work = s.work
     ∧ (reasonFault s).coupling = s.coupling ∧ (reasonFault s).peers = s.peers ∧ (reasonFault s).ret = s.ret
     ∧ (reasonFault s).homing = s.homing ∧ (reasonFault s).homingOp = s.homingOp ∧ (reasonFault s).sweep = s.sweep
     ∧ (reasonFault s).cal = s.cal ∧ (reasonFault s).setup = s.setup ∧ (reasonFault s).store = s.store
     ∧ (reasonFault s).selfCheck = s.selfCheck ∧ (reasonFault s).link = s.link ∧ (reasonFault s).faults = s.faults
     ∧ (reasonFault s).gate = s.gate ∧ (reasonFault s).restartPending = s.restartPending
     ∧ (reasonFault s).free = s.free ∧ (reasonFault s).pending = s.pending := by
  simp [reasonFault]

@[simp] theorem closeHoming_frame (o : HomingOutcome) (r : HomingReason) (s : State) :
    (closeHoming o r s).pins = s.pins ∧ (closeHoming o r s).straps = s.straps ∧ (closeHoming o r s).epoch = s.epoch
     ∧ (closeHoming o r s).enc = s.enc ∧ (closeHoming o r s).pos = s.pos ∧ (closeHoming o r s).work = s.work
     ∧ (closeHoming o r s).coupling = s.coupling ∧ (closeHoming o r s).peers = s.peers
     ∧ (closeHoming o r s).ret = s.ret ∧ (closeHoming o r s).node = s.node ∧ (closeHoming o r s).sweep = s.sweep
     ∧ (closeHoming o r s).cal = s.cal ∧ (closeHoming o r s).setup = s.setup ∧ (closeHoming o r s).store = s.store
     ∧ (closeHoming o r s).selfCheck = s.selfCheck ∧ (closeHoming o r s).link = s.link
     ∧ (closeHoming o r s).faults = s.faults ∧ (closeHoming o r s).gate = s.gate
     ∧ (closeHoming o r s).restartPending = s.restartPending ∧ (closeHoming o r s).free = s.free
     ∧ (closeHoming o r s).pending = s.pending := by
  simp [closeHoming]

@[simp] theorem returnFromHoming_frame (s : State) :
    (returnFromHoming s).pins = s.pins ∧ (returnFromHoming s).straps = s.straps
     ∧ (returnFromHoming s).epoch = s.epoch ∧ (returnFromHoming s).enc = s.enc ∧ (returnFromHoming s).work = s.work
     ∧ (returnFromHoming s).coupling = s.coupling ∧ (returnFromHoming s).peers = s.peers
     ∧ (returnFromHoming s).ret = s.ret ∧ (returnFromHoming s).homing = s.homing
     ∧ (returnFromHoming s).homingOp = s.homingOp ∧ (returnFromHoming s).sweep = s.sweep
     ∧ (returnFromHoming s).cal = s.cal ∧ (returnFromHoming s).setup = s.setup ∧ (returnFromHoming s).store = s.store
     ∧ (returnFromHoming s).selfCheck = s.selfCheck ∧ (returnFromHoming s).link = s.link
     ∧ (returnFromHoming s).faults = s.faults ∧ (returnFromHoming s).restartPending = s.restartPending
     ∧ (returnFromHoming s).free = s.free ∧ (returnFromHoming s).pending = s.pending
     ∧ (returnFromHoming s).gate.rdyLevel = s.gate.rdyLevel
     ∧ (returnFromHoming s).gate.travelSide = s.gate.travelSide
     ∧ (returnFromHoming s).pos.established = s.pos.established ∧ (returnFromHoming s).pos.p = s.pos.p
     ∧ (returnFromHoming s).pos.thetaLast = s.pos.thetaLast ∧ (returnFromHoming s).pos.deltaLast = s.pos.deltaLast
     ∧ (returnFromHoming s).pos.failedRun = s.pos.failedRun ∧ (returnFromHoming s).pos.s = s.pos.s
     ∧ (returnFromHoming s).pos.playKnown = s.pos.playKnown ∧ (returnFromHoming s).pos.acc = s.pos.acc
     ∧ (returnFromHoming s).pos.lastDir = s.pos.lastDir ∧ (returnFromHoming s).pos.j = s.pos.j
     ∧ (returnFromHoming s).pos.evaluated = s.pos.evaluated ∧ (returnFromHoming s).pos.gq = s.pos.gq
     ∧ (returnFromHoming s).pos.jg = s.pos.jg ∧ (returnFromHoming s).pos.usable = s.pos.usable
     ∧ (returnFromHoming s).pos.lastE = s.pos.lastE ∧ (returnFromHoming s).pos.lastSj = s.pos.lastSj
     ∧ (returnFromHoming s).pos.firstQuarter = s.pos.firstQuarter ∧ (returnFromHoming s).pos.abs = s.pos.abs := by
  unfold returnFromHoming; split <;> simp

@[simp] theorem endHoming_frame (o : HomingOutcome) (r : HomingReason) (s : State) :
    (endHoming o r s).pins = s.pins ∧ (endHoming o r s).straps = s.straps ∧ (endHoming o r s).epoch = s.epoch
     ∧ (endHoming o r s).enc = s.enc ∧ (endHoming o r s).work = s.work ∧ (endHoming o r s).coupling = s.coupling
     ∧ (endHoming o r s).peers = s.peers ∧ (endHoming o r s).ret = s.ret ∧ (endHoming o r s).sweep = s.sweep
     ∧ (endHoming o r s).cal = s.cal ∧ (endHoming o r s).setup = s.setup ∧ (endHoming o r s).store = s.store
     ∧ (endHoming o r s).selfCheck = s.selfCheck ∧ (endHoming o r s).link = s.link
     ∧ (endHoming o r s).faults = s.faults ∧ (endHoming o r s).restartPending = s.restartPending
     ∧ (endHoming o r s).free = s.free ∧ (endHoming o r s).pending = s.pending
     ∧ (endHoming o r s).gate.rdyLevel = s.gate.rdyLevel ∧ (endHoming o r s).gate.travelSide = s.gate.travelSide
     ∧ (endHoming o r s).pos.established = s.pos.established ∧ (endHoming o r s).pos.p = s.pos.p
     ∧ (endHoming o r s).pos.thetaLast = s.pos.thetaLast ∧ (endHoming o r s).pos.deltaLast = s.pos.deltaLast
     ∧ (endHoming o r s).pos.failedRun = s.pos.failedRun ∧ (endHoming o r s).pos.s = s.pos.s
     ∧ (endHoming o r s).pos.playKnown = s.pos.playKnown ∧ (endHoming o r s).pos.acc = s.pos.acc
     ∧ (endHoming o r s).pos.lastDir = s.pos.lastDir ∧ (endHoming o r s).pos.j = s.pos.j
     ∧ (endHoming o r s).pos.evaluated = s.pos.evaluated ∧ (endHoming o r s).pos.gq = s.pos.gq
     ∧ (endHoming o r s).pos.jg = s.pos.jg ∧ (endHoming o r s).pos.usable = s.pos.usable
     ∧ (endHoming o r s).pos.lastE = s.pos.lastE ∧ (endHoming o r s).pos.lastSj = s.pos.lastSj
     ∧ (endHoming o r s).pos.firstQuarter = s.pos.firstQuarter ∧ (endHoming o r s).pos.abs = s.pos.abs := by
  unfold endHoming; split <;> simp

@[simp] theorem dropSweep_frame (o : SweepOutcome) (s : State) :
    (dropSweep o s).pins = s.pins ∧ (dropSweep o s).straps = s.straps ∧ (dropSweep o s).epoch = s.epoch
     ∧ (dropSweep o s).enc = s.enc ∧ (dropSweep o s).pos = s.pos ∧ (dropSweep o s).work = s.work
     ∧ (dropSweep o s).coupling = s.coupling ∧ (dropSweep o s).peers = s.peers ∧ (dropSweep o s).ret = s.ret
     ∧ (dropSweep o s).node = s.node ∧ (dropSweep o s).homing = s.homing ∧ (dropSweep o s).homingOp = s.homingOp
     ∧ (dropSweep o s).cal = s.cal ∧ (dropSweep o s).setup = s.setup ∧ (dropSweep o s).store = s.store
     ∧ (dropSweep o s).selfCheck = s.selfCheck ∧ (dropSweep o s).link = s.link ∧ (dropSweep o s).faults = s.faults
     ∧ (dropSweep o s).gate = s.gate ∧ (dropSweep o s).restartPending = s.restartPending
     ∧ (dropSweep o s).free = s.free ∧ (dropSweep o s).pending = s.pending := by
  simp [dropSweep]

@[simp] theorem enterConfirmation_frame (s : State) :
    (enterConfirmation s).pins = s.pins ∧ (enterConfirmation s).straps = s.straps
     ∧ (enterConfirmation s).epoch = s.epoch ∧ (enterConfirmation s).enc = s.enc ∧ (enterConfirmation s).pos = s.pos
     ∧ (enterConfirmation s).work = s.work ∧ (enterConfirmation s).coupling = s.coupling
     ∧ (enterConfirmation s).peers = s.peers ∧ (enterConfirmation s).ret = s.ret
     ∧ (enterConfirmation s).homing = s.homing ∧ (enterConfirmation s).homingOp = s.homingOp
     ∧ (enterConfirmation s).sweep = s.sweep ∧ (enterConfirmation s).cal = s.cal
     ∧ (enterConfirmation s).setup = s.setup ∧ (enterConfirmation s).store = s.store
     ∧ (enterConfirmation s).selfCheck = s.selfCheck ∧ (enterConfirmation s).link = s.link
     ∧ (enterConfirmation s).faults = s.faults ∧ (enterConfirmation s).restartPending = s.restartPending
     ∧ (enterConfirmation s).free = s.free ∧ (enterConfirmation s).pending = s.pending
     ∧ (enterConfirmation s).gate.rdyLevel = s.gate.rdyLevel
     ∧ (enterConfirmation s).gate.travelSide = s.gate.travelSide := by
  simp [enterConfirmation]

@[simp] theorem confirmIfReferenced_frame (s : State) :
    (confirmIfReferenced s).pins = s.pins ∧ (confirmIfReferenced s).straps = s.straps
     ∧ (confirmIfReferenced s).epoch = s.epoch ∧ (confirmIfReferenced s).enc = s.enc
     ∧ (confirmIfReferenced s).pos = s.pos ∧ (confirmIfReferenced s).work = s.work
     ∧ (confirmIfReferenced s).coupling = s.coupling ∧ (confirmIfReferenced s).peers = s.peers
     ∧ (confirmIfReferenced s).ret = s.ret ∧ (confirmIfReferenced s).homing = s.homing
     ∧ (confirmIfReferenced s).homingOp = s.homingOp ∧ (confirmIfReferenced s).sweep = s.sweep
     ∧ (confirmIfReferenced s).cal = s.cal ∧ (confirmIfReferenced s).setup = s.setup
     ∧ (confirmIfReferenced s).store = s.store ∧ (confirmIfReferenced s).selfCheck = s.selfCheck
     ∧ (confirmIfReferenced s).link = s.link ∧ (confirmIfReferenced s).faults = s.faults
     ∧ (confirmIfReferenced s).restartPending = s.restartPending ∧ (confirmIfReferenced s).free = s.free
     ∧ (confirmIfReferenced s).pending = s.pending ∧ (confirmIfReferenced s).gate.rdyLevel = s.gate.rdyLevel
     ∧ (confirmIfReferenced s).gate.travelSide = s.gate.travelSide := by
  unfold confirmIfReferenced; split <;> simp

@[simp] theorem trustLoss_frame (s : State) :
    (trustLoss s).pins = s.pins ∧ (trustLoss s).straps = s.straps ∧ (trustLoss s).epoch = s.epoch
     ∧ (trustLoss s).enc = s.enc ∧ (trustLoss s).work = s.work ∧ (trustLoss s).coupling = s.coupling
     ∧ (trustLoss s).peers = s.peers ∧ (trustLoss s).ret = s.ret ∧ (trustLoss s).cal = s.cal
     ∧ (trustLoss s).setup = s.setup ∧ (trustLoss s).store = s.store ∧ (trustLoss s).selfCheck = s.selfCheck
     ∧ (trustLoss s).link = s.link ∧ (trustLoss s).faults = s.faults
     ∧ (trustLoss s).restartPending = s.restartPending ∧ (trustLoss s).free = s.free
     ∧ (trustLoss s).pending = s.pending ∧ (trustLoss s).gate.rdyLevel = s.gate.rdyLevel
     ∧ (trustLoss s).gate.travelSide = s.gate.travelSide ∧ (trustLoss s).pos.established = s.pos.established
     ∧ (trustLoss s).pos.p = s.pos.p ∧ (trustLoss s).pos.thetaLast = s.pos.thetaLast
     ∧ (trustLoss s).pos.deltaLast = s.pos.deltaLast ∧ (trustLoss s).pos.failedRun = s.pos.failedRun
     ∧ (trustLoss s).pos.s = s.pos.s ∧ (trustLoss s).pos.playKnown = s.pos.playKnown
     ∧ (trustLoss s).pos.acc = s.pos.acc ∧ (trustLoss s).pos.lastDir = s.pos.lastDir ∧ (trustLoss s).pos.j = s.pos.j
     ∧ (trustLoss s).pos.evaluated = s.pos.evaluated ∧ (trustLoss s).pos.gq = s.pos.gq
     ∧ (trustLoss s).pos.jg = s.pos.jg ∧ (trustLoss s).pos.usable = s.pos.usable
     ∧ (trustLoss s).pos.lastE = s.pos.lastE ∧ (trustLoss s).pos.lastSj = s.pos.lastSj
     ∧ (trustLoss s).pos.firstQuarter = s.pos.firstQuarter ∧ (trustLoss s).pos.abs = s.pos.abs := by
  unfold trustLoss; split <;> simp

@[simp] theorem demoteByState_frame (s : State) :
    (demoteByState s).pins = s.pins ∧ (demoteByState s).straps = s.straps ∧ (demoteByState s).epoch = s.epoch
     ∧ (demoteByState s).enc = s.enc ∧ (demoteByState s).pos = s.pos ∧ (demoteByState s).work = s.work
     ∧ (demoteByState s).coupling = s.coupling ∧ (demoteByState s).peers = s.peers ∧ (demoteByState s).ret = s.ret
     ∧ (demoteByState s).cal = s.cal ∧ (demoteByState s).setup = s.setup ∧ (demoteByState s).store = s.store
     ∧ (demoteByState s).selfCheck = s.selfCheck ∧ (demoteByState s).link = s.link
     ∧ (demoteByState s).faults = s.faults ∧ (demoteByState s).restartPending = s.restartPending
     ∧ (demoteByState s).free = s.free ∧ (demoteByState s).pending = s.pending
     ∧ (demoteByState s).gate.rdyLevel = s.gate.rdyLevel ∧ (demoteByState s).gate.travelSide = s.gate.travelSide := by
  unfold demoteByState; split <;> simp

@[simp] theorem reasonByState_frame (entry : Bool) (s : State) :
    (reasonByState entry s).pins = s.pins ∧ (reasonByState entry s).straps = s.straps
     ∧ (reasonByState entry s).epoch = s.epoch ∧ (reasonByState entry s).enc = s.enc
     ∧ (reasonByState entry s).pos = s.pos ∧ (reasonByState entry s).work = s.work
     ∧ (reasonByState entry s).coupling = s.coupling ∧ (reasonByState entry s).peers = s.peers
     ∧ (reasonByState entry s).ret = s.ret ∧ (reasonByState entry s).sweep = s.sweep
     ∧ (reasonByState entry s).cal = s.cal ∧ (reasonByState entry s).setup = s.setup
     ∧ (reasonByState entry s).store = s.store ∧ (reasonByState entry s).selfCheck = s.selfCheck
     ∧ (reasonByState entry s).link = s.link ∧ (reasonByState entry s).faults = s.faults
     ∧ (reasonByState entry s).restartPending = s.restartPending ∧ (reasonByState entry s).free = s.free
     ∧ (reasonByState entry s).pending = s.pending ∧ (reasonByState entry s).gate.rdyLevel = s.gate.rdyLevel
     ∧ (reasonByState entry s).gate.travelSide = s.gate.travelSide := by
  unfold reasonByState; repeat' split
  all_goals simp

@[simp] theorem clearAbsolute_frame (s : State) :
    (clearAbsolute s).pins = s.pins ∧ (clearAbsolute s).straps = s.straps ∧ (clearAbsolute s).epoch = s.epoch
     ∧ (clearAbsolute s).enc = s.enc ∧ (clearAbsolute s).work = s.work ∧ (clearAbsolute s).coupling = s.coupling
     ∧ (clearAbsolute s).peers = s.peers ∧ (clearAbsolute s).ret = s.ret ∧ (clearAbsolute s).node = s.node
     ∧ (clearAbsolute s).homing = s.homing ∧ (clearAbsolute s).homingOp = s.homingOp
     ∧ (clearAbsolute s).sweep = s.sweep ∧ (clearAbsolute s).cal = s.cal ∧ (clearAbsolute s).setup = s.setup
     ∧ (clearAbsolute s).store = s.store ∧ (clearAbsolute s).selfCheck = s.selfCheck
     ∧ (clearAbsolute s).link = s.link ∧ (clearAbsolute s).faults = s.faults ∧ (clearAbsolute s).gate = s.gate
     ∧ (clearAbsolute s).restartPending = s.restartPending ∧ (clearAbsolute s).free = s.free
     ∧ (clearAbsolute s).pending = s.pending ∧ (clearAbsolute s).pos.established = s.pos.established
     ∧ (clearAbsolute s).pos.p = s.pos.p ∧ (clearAbsolute s).pos.thetaLast = s.pos.thetaLast
     ∧ (clearAbsolute s).pos.deltaLast = s.pos.deltaLast ∧ (clearAbsolute s).pos.failedRun = s.pos.failedRun
     ∧ (clearAbsolute s).pos.s = s.pos.s ∧ (clearAbsolute s).pos.playKnown = s.pos.playKnown
     ∧ (clearAbsolute s).pos.acc = s.pos.acc ∧ (clearAbsolute s).pos.lastDir = s.pos.lastDir
     ∧ (clearAbsolute s).pos.j = s.pos.j ∧ (clearAbsolute s).pos.evaluated = s.pos.evaluated
     ∧ (clearAbsolute s).pos.gq = s.pos.gq ∧ (clearAbsolute s).pos.jg = s.pos.jg
     ∧ (clearAbsolute s).pos.usable = s.pos.usable ∧ (clearAbsolute s).pos.lastE = s.pos.lastE
     ∧ (clearAbsolute s).pos.lastSj = s.pos.lastSj ∧ (clearAbsolute s).pos.firstQuarter = s.pos.firstQuarter := by
  simp [clearAbsolute]

@[simp] theorem removeAbsolute_frame (entry : Bool) (s : State) :
    (removeAbsolute entry s).pins = s.pins ∧ (removeAbsolute entry s).straps = s.straps
     ∧ (removeAbsolute entry s).epoch = s.epoch ∧ (removeAbsolute entry s).enc = s.enc
     ∧ (removeAbsolute entry s).work = s.work ∧ (removeAbsolute entry s).coupling = s.coupling
     ∧ (removeAbsolute entry s).peers = s.peers ∧ (removeAbsolute entry s).ret = s.ret
     ∧ (removeAbsolute entry s).cal = s.cal ∧ (removeAbsolute entry s).setup = s.setup
     ∧ (removeAbsolute entry s).store = s.store ∧ (removeAbsolute entry s).selfCheck = s.selfCheck
     ∧ (removeAbsolute entry s).link = s.link ∧ (removeAbsolute entry s).faults = s.faults
     ∧ (removeAbsolute entry s).restartPending = s.restartPending ∧ (removeAbsolute entry s).free = s.free
     ∧ (removeAbsolute entry s).pending = s.pending ∧ (removeAbsolute entry s).gate.rdyLevel = s.gate.rdyLevel
     ∧ (removeAbsolute entry s).gate.travelSide = s.gate.travelSide
     ∧ (removeAbsolute entry s).pos.established = s.pos.established ∧ (removeAbsolute entry s).pos.p = s.pos.p
     ∧ (removeAbsolute entry s).pos.thetaLast = s.pos.thetaLast
     ∧ (removeAbsolute entry s).pos.deltaLast = s.pos.deltaLast
     ∧ (removeAbsolute entry s).pos.failedRun = s.pos.failedRun ∧ (removeAbsolute entry s).pos.s = s.pos.s
     ∧ (removeAbsolute entry s).pos.playKnown = s.pos.playKnown ∧ (removeAbsolute entry s).pos.acc = s.pos.acc
     ∧ (removeAbsolute entry s).pos.lastDir = s.pos.lastDir ∧ (removeAbsolute entry s).pos.j = s.pos.j
     ∧ (removeAbsolute entry s).pos.evaluated = s.pos.evaluated ∧ (removeAbsolute entry s).pos.gq = s.pos.gq
     ∧ (removeAbsolute entry s).pos.jg = s.pos.jg ∧ (removeAbsolute entry s).pos.usable = s.pos.usable
     ∧ (removeAbsolute entry s).pos.lastE = s.pos.lastE ∧ (removeAbsolute entry s).pos.lastSj = s.pos.lastSj
     ∧ (removeAbsolute entry s).pos.firstQuarter = s.pos.firstQuarter := by
  unfold removeAbsolute; dsimp only; repeat' split
  all_goals simp

@[simp] theorem startRetry_frame (k : FaultKind) (s : State) :
    (startRetry k s).pins = s.pins ∧ (startRetry k s).straps = s.straps ∧ (startRetry k s).epoch = s.epoch
     ∧ (startRetry k s).enc = s.enc ∧ (startRetry k s).pos = s.pos ∧ (startRetry k s).work = s.work
     ∧ (startRetry k s).coupling = s.coupling ∧ (startRetry k s).peers = s.peers ∧ (startRetry k s).ret = s.ret
     ∧ (startRetry k s).node = s.node ∧ (startRetry k s).homing = s.homing ∧ (startRetry k s).homingOp = s.homingOp
     ∧ (startRetry k s).sweep = s.sweep ∧ (startRetry k s).cal = s.cal ∧ (startRetry k s).setup = s.setup
     ∧ (startRetry k s).store = s.store ∧ (startRetry k s).selfCheck = s.selfCheck ∧ (startRetry k s).link = s.link
     ∧ (startRetry k s).gate = s.gate ∧ (startRetry k s).restartPending = s.restartPending
     ∧ (startRetry k s).free = s.free ∧ (startRetry k s).pending = s.pending := by
  unfold startRetry; split <;> simp

@[simp] theorem endHomingByFault_frame (k : FaultKind) (s : State) :
    (endHomingByFault k s).pins = s.pins ∧ (endHomingByFault k s).straps = s.straps
     ∧ (endHomingByFault k s).epoch = s.epoch ∧ (endHomingByFault k s).enc = s.enc
     ∧ (endHomingByFault k s).work = s.work ∧ (endHomingByFault k s).coupling = s.coupling
     ∧ (endHomingByFault k s).peers = s.peers ∧ (endHomingByFault k s).ret = s.ret
     ∧ (endHomingByFault k s).sweep = s.sweep ∧ (endHomingByFault k s).cal = s.cal
     ∧ (endHomingByFault k s).setup = s.setup ∧ (endHomingByFault k s).store = s.store
     ∧ (endHomingByFault k s).selfCheck = s.selfCheck ∧ (endHomingByFault k s).link = s.link
     ∧ (endHomingByFault k s).faults = s.faults ∧ (endHomingByFault k s).restartPending = s.restartPending
     ∧ (endHomingByFault k s).free = s.free ∧ (endHomingByFault k s).pending = s.pending
     ∧ (endHomingByFault k s).gate.rdyLevel = s.gate.rdyLevel
     ∧ (endHomingByFault k s).gate.travelSide = s.gate.travelSide
     ∧ (endHomingByFault k s).pos.established = s.pos.established ∧ (endHomingByFault k s).pos.p = s.pos.p
     ∧ (endHomingByFault k s).pos.thetaLast = s.pos.thetaLast
     ∧ (endHomingByFault k s).pos.deltaLast = s.pos.deltaLast
     ∧ (endHomingByFault k s).pos.failedRun = s.pos.failedRun ∧ (endHomingByFault k s).pos.s = s.pos.s
     ∧ (endHomingByFault k s).pos.playKnown = s.pos.playKnown ∧ (endHomingByFault k s).pos.acc = s.pos.acc
     ∧ (endHomingByFault k s).pos.lastDir = s.pos.lastDir ∧ (endHomingByFault k s).pos.j = s.pos.j
     ∧ (endHomingByFault k s).pos.evaluated = s.pos.evaluated ∧ (endHomingByFault k s).pos.gq = s.pos.gq
     ∧ (endHomingByFault k s).pos.jg = s.pos.jg ∧ (endHomingByFault k s).pos.usable = s.pos.usable
     ∧ (endHomingByFault k s).pos.lastE = s.pos.lastE ∧ (endHomingByFault k s).pos.lastSj = s.pos.lastSj
     ∧ (endHomingByFault k s).pos.firstQuarter = s.pos.firstQuarter ∧ (endHomingByFault k s).pos.abs = s.pos.abs := by
  unfold endHomingByFault; split <;> simp

@[simp] theorem removeByKind_frame (k : FaultKind) (entry : Bool) (s : State) :
    (removeByKind k entry s).pins = s.pins ∧ (removeByKind k entry s).straps = s.straps
     ∧ (removeByKind k entry s).epoch = s.epoch ∧ (removeByKind k entry s).enc = s.enc
     ∧ (removeByKind k entry s).work = s.work ∧ (removeByKind k entry s).coupling = s.coupling
     ∧ (removeByKind k entry s).peers = s.peers ∧ (removeByKind k entry s).ret = s.ret
     ∧ (removeByKind k entry s).cal = s.cal ∧ (removeByKind k entry s).setup = s.setup
     ∧ (removeByKind k entry s).store = s.store ∧ (removeByKind k entry s).selfCheck = s.selfCheck
     ∧ (removeByKind k entry s).link = s.link ∧ (removeByKind k entry s).faults = s.faults
     ∧ (removeByKind k entry s).restartPending = s.restartPending ∧ (removeByKind k entry s).free = s.free
     ∧ (removeByKind k entry s).pending = s.pending ∧ (removeByKind k entry s).gate.rdyLevel = s.gate.rdyLevel
     ∧ (removeByKind k entry s).gate.travelSide = s.gate.travelSide
     ∧ (removeByKind k entry s).pos.established = s.pos.established ∧ (removeByKind k entry s).pos.p = s.pos.p
     ∧ (removeByKind k entry s).pos.thetaLast = s.pos.thetaLast
     ∧ (removeByKind k entry s).pos.deltaLast = s.pos.deltaLast
     ∧ (removeByKind k entry s).pos.failedRun = s.pos.failedRun ∧ (removeByKind k entry s).pos.s = s.pos.s
     ∧ (removeByKind k entry s).pos.playKnown = s.pos.playKnown ∧ (removeByKind k entry s).pos.acc = s.pos.acc
     ∧ (removeByKind k entry s).pos.lastDir = s.pos.lastDir ∧ (removeByKind k entry s).pos.j = s.pos.j
     ∧ (removeByKind k entry s).pos.evaluated = s.pos.evaluated ∧ (removeByKind k entry s).pos.gq = s.pos.gq
     ∧ (removeByKind k entry s).pos.jg = s.pos.jg ∧ (removeByKind k entry s).pos.usable = s.pos.usable
     ∧ (removeByKind k entry s).pos.lastE = s.pos.lastE ∧ (removeByKind k entry s).pos.lastSj = s.pos.lastSj
     ∧ (removeByKind k entry s).pos.firstQuarter = s.pos.firstQuarter := by
  unfold removeByKind; split <;> simp

@[simp] theorem entryNotice_frame (k : FaultKind) (r : JumpReason) (s : State) :
    (entryNotice k r s).pins = s.pins ∧ (entryNotice k r s).straps = s.straps ∧ (entryNotice k r s).epoch = s.epoch
     ∧ (entryNotice k r s).enc = s.enc ∧ (entryNotice k r s).work = s.work
     ∧ (entryNotice k r s).coupling = s.coupling ∧ (entryNotice k r s).peers = s.peers
     ∧ (entryNotice k r s).ret = s.ret ∧ (entryNotice k r s).cal = s.cal ∧ (entryNotice k r s).setup = s.setup
     ∧ (entryNotice k r s).store = s.store ∧ (entryNotice k r s).selfCheck = s.selfCheck
     ∧ (entryNotice k r s).link = s.link ∧ (entryNotice k r s).restartPending = s.restartPending
     ∧ (entryNotice k r s).free = s.free ∧ (entryNotice k r s).pending = s.pending
     ∧ (entryNotice k r s).gate.rdyLevel = s.gate.rdyLevel ∧ (entryNotice k r s).gate.travelSide = s.gate.travelSide
     ∧ (entryNotice k r s).pos.established = s.pos.established ∧ (entryNotice k r s).pos.p = s.pos.p
     ∧ (entryNotice k r s).pos.thetaLast = s.pos.thetaLast ∧ (entryNotice k r s).pos.deltaLast = s.pos.deltaLast
     ∧ (entryNotice k r s).pos.failedRun = s.pos.failedRun ∧ (entryNotice k r s).pos.s = s.pos.s
     ∧ (entryNotice k r s).pos.playKnown = s.pos.playKnown ∧ (entryNotice k r s).pos.acc = s.pos.acc
     ∧ (entryNotice k r s).pos.lastDir = s.pos.lastDir ∧ (entryNotice k r s).pos.j = s.pos.j
     ∧ (entryNotice k r s).pos.evaluated = s.pos.evaluated ∧ (entryNotice k r s).pos.gq = s.pos.gq
     ∧ (entryNotice k r s).pos.jg = s.pos.jg ∧ (entryNotice k r s).pos.usable = s.pos.usable
     ∧ (entryNotice k r s).pos.lastE = s.pos.lastE ∧ (entryNotice k r s).pos.lastSj = s.pos.lastSj
     ∧ (entryNotice k r s).pos.firstQuarter = s.pos.firstQuarter := by
  simp [entryNotice]

@[simp] theorem repeatNotice_frame (k : FaultKind) (s : State) :
    (repeatNotice k s).pins = s.pins ∧ (repeatNotice k s).straps = s.straps ∧ (repeatNotice k s).epoch = s.epoch
     ∧ (repeatNotice k s).enc = s.enc ∧ (repeatNotice k s).work = s.work ∧ (repeatNotice k s).coupling = s.coupling
     ∧ (repeatNotice k s).peers = s.peers ∧ (repeatNotice k s).ret = s.ret ∧ (repeatNotice k s).cal = s.cal
     ∧ (repeatNotice k s).setup = s.setup ∧ (repeatNotice k s).store = s.store
     ∧ (repeatNotice k s).selfCheck = s.selfCheck ∧ (repeatNotice k s).link = s.link
     ∧ (repeatNotice k s).restartPending = s.restartPending ∧ (repeatNotice k s).free = s.free
     ∧ (repeatNotice k s).pending = s.pending ∧ (repeatNotice k s).gate.rdyLevel = s.gate.rdyLevel
     ∧ (repeatNotice k s).gate.travelSide = s.gate.travelSide
     ∧ (repeatNotice k s).pos.established = s.pos.established ∧ (repeatNotice k s).pos.p = s.pos.p
     ∧ (repeatNotice k s).pos.thetaLast = s.pos.thetaLast ∧ (repeatNotice k s).pos.deltaLast = s.pos.deltaLast
     ∧ (repeatNotice k s).pos.failedRun = s.pos.failedRun ∧ (repeatNotice k s).pos.s = s.pos.s
     ∧ (repeatNotice k s).pos.playKnown = s.pos.playKnown ∧ (repeatNotice k s).pos.acc = s.pos.acc
     ∧ (repeatNotice k s).pos.lastDir = s.pos.lastDir ∧ (repeatNotice k s).pos.j = s.pos.j
     ∧ (repeatNotice k s).pos.evaluated = s.pos.evaluated ∧ (repeatNotice k s).pos.gq = s.pos.gq
     ∧ (repeatNotice k s).pos.jg = s.pos.jg ∧ (repeatNotice k s).pos.usable = s.pos.usable
     ∧ (repeatNotice k s).pos.lastE = s.pos.lastE ∧ (repeatNotice k s).pos.lastSj = s.pos.lastSj
     ∧ (repeatNotice k s).pos.firstQuarter = s.pos.firstQuarter := by
  simp [repeatNotice]

@[simp] theorem noticeWith_frame (k : FaultKind) (r : JumpReason) (s : State) :
    (noticeWith k r s).pins = s.pins ∧ (noticeWith k r s).straps = s.straps ∧ (noticeWith k r s).epoch = s.epoch
     ∧ (noticeWith k r s).enc = s.enc ∧ (noticeWith k r s).work = s.work ∧ (noticeWith k r s).coupling = s.coupling
     ∧ (noticeWith k r s).peers = s.peers ∧ (noticeWith k r s).ret = s.ret ∧ (noticeWith k r s).cal = s.cal
     ∧ (noticeWith k r s).setup = s.setup ∧ (noticeWith k r s).store = s.store
     ∧ (noticeWith k r s).selfCheck = s.selfCheck ∧ (noticeWith k r s).link = s.link
     ∧ (noticeWith k r s).restartPending = s.restartPending ∧ (noticeWith k r s).free = s.free
     ∧ (noticeWith k r s).pending = s.pending ∧ (noticeWith k r s).gate.rdyLevel = s.gate.rdyLevel
     ∧ (noticeWith k r s).gate.travelSide = s.gate.travelSide
     ∧ (noticeWith k r s).pos.established = s.pos.established ∧ (noticeWith k r s).pos.p = s.pos.p
     ∧ (noticeWith k r s).pos.thetaLast = s.pos.thetaLast ∧ (noticeWith k r s).pos.deltaLast = s.pos.deltaLast
     ∧ (noticeWith k r s).pos.failedRun = s.pos.failedRun ∧ (noticeWith k r s).pos.s = s.pos.s
     ∧ (noticeWith k r s).pos.playKnown = s.pos.playKnown ∧ (noticeWith k r s).pos.acc = s.pos.acc
     ∧ (noticeWith k r s).pos.lastDir = s.pos.lastDir ∧ (noticeWith k r s).pos.j = s.pos.j
     ∧ (noticeWith k r s).pos.evaluated = s.pos.evaluated ∧ (noticeWith k r s).pos.gq = s.pos.gq
     ∧ (noticeWith k r s).pos.jg = s.pos.jg ∧ (noticeWith k r s).pos.usable = s.pos.usable
     ∧ (noticeWith k r s).pos.lastE = s.pos.lastE ∧ (noticeWith k r s).pos.lastSj = s.pos.lastSj
     ∧ (noticeWith k r s).pos.firstQuarter = s.pos.firstQuarter := by
  unfold noticeWith; split <;> simp

@[simp] theorem notice_frame (k : FaultKind) (s : State) :
    (notice k s).pins = s.pins ∧ (notice k s).straps = s.straps ∧ (notice k s).epoch = s.epoch
     ∧ (notice k s).enc = s.enc ∧ (notice k s).work = s.work ∧ (notice k s).coupling = s.coupling
     ∧ (notice k s).peers = s.peers ∧ (notice k s).ret = s.ret ∧ (notice k s).cal = s.cal
     ∧ (notice k s).setup = s.setup ∧ (notice k s).store = s.store ∧ (notice k s).selfCheck = s.selfCheck
     ∧ (notice k s).link = s.link ∧ (notice k s).restartPending = s.restartPending ∧ (notice k s).free = s.free
     ∧ (notice k s).pending = s.pending ∧ (notice k s).gate.rdyLevel = s.gate.rdyLevel
     ∧ (notice k s).gate.travelSide = s.gate.travelSide ∧ (notice k s).pos.established = s.pos.established
     ∧ (notice k s).pos.p = s.pos.p ∧ (notice k s).pos.thetaLast = s.pos.thetaLast
     ∧ (notice k s).pos.deltaLast = s.pos.deltaLast ∧ (notice k s).pos.failedRun = s.pos.failedRun
     ∧ (notice k s).pos.s = s.pos.s ∧ (notice k s).pos.playKnown = s.pos.playKnown ∧ (notice k s).pos.acc = s.pos.acc
     ∧ (notice k s).pos.lastDir = s.pos.lastDir ∧ (notice k s).pos.j = s.pos.j
     ∧ (notice k s).pos.evaluated = s.pos.evaluated ∧ (notice k s).pos.gq = s.pos.gq ∧ (notice k s).pos.jg = s.pos.jg
     ∧ (notice k s).pos.usable = s.pos.usable ∧ (notice k s).pos.lastE = s.pos.lastE
     ∧ (notice k s).pos.lastSj = s.pos.lastSj ∧ (notice k s).pos.firstQuarter = s.pos.firstQuarter := by
  simp [notice]

@[simp] theorem depart_frame (k : FaultKind) (s : State) :
    (depart k s).pins = s.pins ∧ (depart k s).straps = s.straps ∧ (depart k s).epoch = s.epoch
     ∧ (depart k s).enc = s.enc ∧ (depart k s).pos = s.pos ∧ (depart k s).work = s.work
     ∧ (depart k s).coupling = s.coupling ∧ (depart k s).peers = s.peers ∧ (depart k s).ret = s.ret
     ∧ (depart k s).node = s.node ∧ (depart k s).homing = s.homing ∧ (depart k s).homingOp = s.homingOp
     ∧ (depart k s).sweep = s.sweep ∧ (depart k s).cal = s.cal ∧ (depart k s).setup = s.setup
     ∧ (depart k s).store = s.store ∧ (depart k s).selfCheck = s.selfCheck ∧ (depart k s).link = s.link
     ∧ (depart k s).restartPending = s.restartPending ∧ (depart k s).free = s.free ∧ (depart k s).pending = s.pending
     ∧ (depart k s).gate.rdyLevel = s.gate.rdyLevel ∧ (depart k s).gate.travelSide = s.gate.travelSide := by
  simp [depart]

@[simp] theorem retryTest_frame (s : State) :
    (retryTest s).pins = s.pins ∧ (retryTest s).straps = s.straps ∧ (retryTest s).epoch = s.epoch
     ∧ (retryTest s).enc = s.enc ∧ (retryTest s).pos = s.pos ∧ (retryTest s).work = s.work
     ∧ (retryTest s).coupling = s.coupling ∧ (retryTest s).peers = s.peers ∧ (retryTest s).ret = s.ret
     ∧ (retryTest s).node = s.node ∧ (retryTest s).homing = s.homing ∧ (retryTest s).homingOp = s.homingOp
     ∧ (retryTest s).sweep = s.sweep ∧ (retryTest s).cal = s.cal ∧ (retryTest s).setup = s.setup
     ∧ (retryTest s).store = s.store ∧ (retryTest s).selfCheck = s.selfCheck ∧ (retryTest s).link = s.link
     ∧ (retryTest s).restartPending = s.restartPending ∧ (retryTest s).free = s.free
     ∧ (retryTest s).pending = s.pending ∧ (retryTest s).gate.rdyLevel = s.gate.rdyLevel
     ∧ (retryTest s).gate.travelSide = s.gate.travelSide := by
  unfold retryTest; split <;> simp

@[simp] theorem conditionCleared_frame (k : FaultKind) (s : State) :
    (conditionCleared k s).pins = s.pins ∧ (conditionCleared k s).straps = s.straps
     ∧ (conditionCleared k s).epoch = s.epoch ∧ (conditionCleared k s).enc = s.enc
     ∧ (conditionCleared k s).pos = s.pos ∧ (conditionCleared k s).work = s.work
     ∧ (conditionCleared k s).coupling = s.coupling ∧ (conditionCleared k s).peers = s.peers
     ∧ (conditionCleared k s).ret = s.ret ∧ (conditionCleared k s).node = s.node
     ∧ (conditionCleared k s).homing = s.homing ∧ (conditionCleared k s).homingOp = s.homingOp
     ∧ (conditionCleared k s).sweep = s.sweep ∧ (conditionCleared k s).cal = s.cal
     ∧ (conditionCleared k s).setup = s.setup ∧ (conditionCleared k s).store = s.store
     ∧ (conditionCleared k s).selfCheck = s.selfCheck ∧ (conditionCleared k s).link = s.link
     ∧ (conditionCleared k s).gate = s.gate ∧ (conditionCleared k s).restartPending = s.restartPending
     ∧ (conditionCleared k s).free = s.free ∧ (conditionCleared k s).pending = s.pending := by
  simp [conditionCleared]

@[simp] theorem conditionGone_frame (k : FaultKind) (s : State) :
    (conditionGone k s).pins = s.pins ∧ (conditionGone k s).straps = s.straps ∧ (conditionGone k s).epoch = s.epoch
     ∧ (conditionGone k s).enc = s.enc ∧ (conditionGone k s).pos = s.pos ∧ (conditionGone k s).work = s.work
     ∧ (conditionGone k s).coupling = s.coupling ∧ (conditionGone k s).peers = s.peers
     ∧ (conditionGone k s).ret = s.ret ∧ (conditionGone k s).node = s.node ∧ (conditionGone k s).homing = s.homing
     ∧ (conditionGone k s).homingOp = s.homingOp ∧ (conditionGone k s).sweep = s.sweep
     ∧ (conditionGone k s).cal = s.cal ∧ (conditionGone k s).setup = s.setup ∧ (conditionGone k s).store = s.store
     ∧ (conditionGone k s).selfCheck = s.selfCheck ∧ (conditionGone k s).link = s.link
     ∧ (conditionGone k s).restartPending = s.restartPending ∧ (conditionGone k s).free = s.free
     ∧ (conditionGone k s).pending = s.pending ∧ (conditionGone k s).gate.rdyLevel = s.gate.rdyLevel
     ∧ (conditionGone k s).gate.travelSide = s.gate.travelSide := by
  unfold conditionGone; repeat' split
  all_goals simp

end Sys2Proof.Machine
end

