-- ==== Sys2Proof/Laws/Position.lean ====
section
/-! SUPPORT. What the position arithmetic, the restore, the homing, the evaluation and the coupling leave unchanged: one frame lemma per operation. -/

namespace Sys2Proof.Machine

@[simp] theorem judgeTravel_frame (j : Int) (s : State) :
    (judgeTravel j s).pins = s.pins ∧ (judgeTravel j s).straps = s.straps ∧ (judgeTravel j s).epoch = s.epoch
     ∧ (judgeTravel j s).enc = s.enc ∧ (judgeTravel j s).work = s.work ∧ (judgeTravel j s).coupling = s.coupling
     ∧ (judgeTravel j s).peers = s.peers ∧ (judgeTravel j s).ret = s.ret ∧ (judgeTravel j s).cal = s.cal
     ∧ (judgeTravel j s).setup = s.setup ∧ (judgeTravel j s).store = s.store
     ∧ (judgeTravel j s).selfCheck = s.selfCheck ∧ (judgeTravel j s).link = s.link
     ∧ (judgeTravel j s).restartPending = s.restartPending ∧ (judgeTravel j s).free = s.free
     ∧ (judgeTravel j s).pending = s.pending ∧ (judgeTravel j s).pos.established = s.pos.established
     ∧ (judgeTravel j s).pos.p = s.pos.p ∧ (judgeTravel j s).pos.thetaLast = s.pos.thetaLast
     ∧ (judgeTravel j s).pos.deltaLast = s.pos.deltaLast ∧ (judgeTravel j s).pos.failedRun = s.pos.failedRun
     ∧ (judgeTravel j s).pos.s = s.pos.s ∧ (judgeTravel j s).pos.playKnown = s.pos.playKnown
     ∧ (judgeTravel j s).pos.acc = s.pos.acc ∧ (judgeTravel j s).pos.lastDir = s.pos.lastDir
     ∧ (judgeTravel j s).pos.j = s.pos.j ∧ (judgeTravel j s).pos.evaluated = s.pos.evaluated
     ∧ (judgeTravel j s).pos.gq = s.pos.gq ∧ (judgeTravel j s).pos.jg = s.pos.jg
     ∧ (judgeTravel j s).pos.usable = s.pos.usable ∧ (judgeTravel j s).pos.lastE = s.pos.lastE
     ∧ (judgeTravel j s).pos.lastSj = s.pos.lastSj ∧ (judgeTravel j s).pos.firstQuarter = s.pos.firstQuarter
     ∧ (judgeTravel j s).gate.rdyLevel = s.gate.rdyLevel := by
  unfold judgeTravel; repeat' split
  all_goals simp

@[simp] theorem handover_frame (joint : Joint) (src : Option SourceFrame) (s : State) :
    (handover joint src s).pins = s.pins ∧ (handover joint src s).straps = s.straps
     ∧ (handover joint src s).epoch = s.epoch ∧ (handover joint src s).enc = s.enc
     ∧ (handover joint src s).work = s.work ∧ (handover joint src s).coupling = s.coupling
     ∧ (handover joint src s).peers = s.peers ∧ (handover joint src s).ret = s.ret
     ∧ (handover joint src s).cal = s.cal ∧ (handover joint src s).setup = s.setup
     ∧ (handover joint src s).store = s.store ∧ (handover joint src s).selfCheck = s.selfCheck
     ∧ (handover joint src s).restartPending = s.restartPending ∧ (handover joint src s).free = s.free
     ∧ (handover joint src s).pending = s.pending ∧ (handover joint src s).pos.established = s.pos.established
     ∧ (handover joint src s).pos.p = s.pos.p ∧ (handover joint src s).pos.thetaLast = s.pos.thetaLast
     ∧ (handover joint src s).pos.deltaLast = s.pos.deltaLast
     ∧ (handover joint src s).pos.failedRun = s.pos.failedRun ∧ (handover joint src s).pos.s = s.pos.s
     ∧ (handover joint src s).pos.playKnown = s.pos.playKnown ∧ (handover joint src s).pos.acc = s.pos.acc
     ∧ (handover joint src s).pos.lastDir = s.pos.lastDir ∧ (handover joint src s).pos.j = s.pos.j
     ∧ (handover joint src s).pos.evaluated = s.pos.evaluated ∧ (handover joint src s).pos.gq = s.pos.gq
     ∧ (handover joint src s).pos.jg = s.pos.jg ∧ (handover joint src s).pos.usable = s.pos.usable
     ∧ (handover joint src s).pos.lastE = s.pos.lastE ∧ (handover joint src s).pos.lastSj = s.pos.lastSj
     ∧ (handover joint src s).pos.firstQuarter = s.pos.firstQuarter
     ∧ (handover joint src s).link.watching = s.link.watching ∧ (handover joint src s).link.joined = s.link.joined
     ∧ (handover joint src s).link.awaitIdle = s.link.awaitIdle ∧ (handover joint src s).link.health = s.link.health
     ∧ (handover joint src s).link.intact = s.link.intact ∧ (handover joint src s).link.tx = s.link.tx
     ∧ (handover joint src s).link.replies = s.link.replies ∧ (handover joint src s).link.requests = s.link.requests
     ∧ (handover joint src s).link.recessiveRun = s.link.recessiveRun
     ∧ (handover joint src s).link.dominantRun = s.link.dominantRun
     ∧ (handover joint src s).link.stuck = s.link.stuck
     ∧ (handover joint src s).link.idlePeriods = s.link.idlePeriods
     ∧ (handover joint src s).link.requestOverrun = s.link.requestOverrun
     ∧ (handover joint src s).link.stuckCount = s.link.stuckCount
     ∧ (handover joint src s).gate.rdyLevel = s.gate.rdyLevel := by
  unfold handover; dsimp only; repeat' split
  all_goals simp

@[simp] theorem computeJoint_frame (k : Int) (src : Option SourceFrame) (s : State) :
    (computeJoint k src s).pins = s.pins ∧ (computeJoint k src s).straps = s.straps
     ∧ (computeJoint k src s).epoch = s.epoch ∧ (computeJoint k src s).enc = s.enc
     ∧ (computeJoint k src s).coupling = s.coupling ∧ (computeJoint k src s).peers = s.peers
     ∧ (computeJoint k src s).ret = s.ret ∧ (computeJoint k src s).cal = s.cal
     ∧ (computeJoint k src s).setup = s.setup ∧ (computeJoint k src s).store = s.store
     ∧ (computeJoint k src s).selfCheck = s.selfCheck ∧ (computeJoint k src s).restartPending = s.restartPending
     ∧ (computeJoint k src s).free = s.free ∧ (computeJoint k src s).pending = s.pending
     ∧ (computeJoint k src s).work.motor = s.work.motor ∧ (computeJoint k src s).work.coarse = s.work.coarse
     ∧ (computeJoint k src s).pos.established = s.pos.established ∧ (computeJoint k src s).pos.p = s.pos.p
     ∧ (computeJoint k src s).pos.thetaLast = s.pos.thetaLast
     ∧ (computeJoint k src s).pos.deltaLast = s.pos.deltaLast
     ∧ (computeJoint k src s).pos.failedRun = s.pos.failedRun ∧ (computeJoint k src s).pos.s = s.pos.s
     ∧ (computeJoint k src s).pos.playKnown = s.pos.playKnown ∧ (computeJoint k src s).pos.acc = s.pos.acc
     ∧ (computeJoint k src s).pos.lastDir = s.pos.lastDir ∧ (computeJoint k src s).pos.evaluated = s.pos.evaluated
     ∧ (computeJoint k src s).pos.gq = s.pos.gq ∧ (computeJoint k src s).pos.jg = s.pos.jg
     ∧ (computeJoint k src s).pos.usable = s.pos.usable ∧ (computeJoint k src s).pos.lastE = s.pos.lastE
     ∧ (computeJoint k src s).pos.lastSj = s.pos.lastSj
     ∧ (computeJoint k src s).pos.firstQuarter = s.pos.firstQuarter
     ∧ (computeJoint k src s).link.watching = s.link.watching ∧ (computeJoint k src s).link.joined = s.link.joined
     ∧ (computeJoint k src s).link.awaitIdle = s.link.awaitIdle ∧ (computeJoint k src s).link.health = s.link.health
     ∧ (computeJoint k src s).link.intact = s.link.intact ∧ (computeJoint k src s).link.tx = s.link.tx
     ∧ (computeJoint k src s).link.replies = s.link.replies ∧ (computeJoint k src s).link.requests = s.link.requests
     ∧ (computeJoint k src s).link.recessiveRun = s.link.recessiveRun
     ∧ (computeJoint k src s).link.dominantRun = s.link.dominantRun
     ∧ (computeJoint k src s).link.stuck = s.link.stuck
     ∧ (computeJoint k src s).link.idlePeriods = s.link.idlePeriods
     ∧ (computeJoint k src s).link.requestOverrun = s.link.requestOverrun
     ∧ (computeJoint k src s).link.stuckCount = s.link.stuckCount
     ∧ (computeJoint k src s).gate.rdyLevel = s.gate.rdyLevel := by
  simp [computeJoint]

@[simp] theorem raiseConflict_frame (d : RestoreDecision) (s : State) :
    (raiseConflict d s).pins = s.pins ∧ (raiseConflict d s).straps = s.straps ∧ (raiseConflict d s).epoch = s.epoch
     ∧ (raiseConflict d s).enc = s.enc ∧ (raiseConflict d s).work = s.work
     ∧ (raiseConflict d s).coupling = s.coupling ∧ (raiseConflict d s).peers = s.peers
     ∧ (raiseConflict d s).ret = s.ret ∧ (raiseConflict d s).cal = s.cal ∧ (raiseConflict d s).setup = s.setup
     ∧ (raiseConflict d s).store = s.store ∧ (raiseConflict d s).selfCheck = s.selfCheck
     ∧ (raiseConflict d s).link = s.link ∧ (raiseConflict d s).restartPending = s.restartPending
     ∧ (raiseConflict d s).free = s.free ∧ (raiseConflict d s).pending = s.pending
     ∧ (raiseConflict d s).gate.rdyLevel = s.gate.rdyLevel ∧ (raiseConflict d s).gate.travelSide = s.gate.travelSide
     ∧ (raiseConflict d s).pos.established = s.pos.established ∧ (raiseConflict d s).pos.p = s.pos.p
     ∧ (raiseConflict d s).pos.thetaLast = s.pos.thetaLast ∧ (raiseConflict d s).pos.deltaLast = s.pos.deltaLast
     ∧ (raiseConflict d s).pos.failedRun = s.pos.failedRun ∧ (raiseConflict d s).pos.s = s.pos.s
     ∧ (raiseConflict d s).pos.playKnown = s.pos.playKnown ∧ (raiseConflict d s).pos.acc = s.pos.acc
     ∧ (raiseConflict d s).pos.lastDir = s.pos.lastDir ∧ (raiseConflict d s).pos.j = s.pos.j
     ∧ (raiseConflict d s).pos.evaluated = s.pos.evaluated ∧ (raiseConflict d s).pos.gq = s.pos.gq
     ∧ (raiseConflict d s).pos.jg = s.pos.jg ∧ (raiseConflict d s).pos.usable = s.pos.usable
     ∧ (raiseConflict d s).pos.lastE = s.pos.lastE ∧ (raiseConflict d s).pos.lastSj = s.pos.lastSj
     ∧ (raiseConflict d s).pos.firstQuarter = s.pos.firstQuarter := by
  unfold raiseConflict; split <;> simp

@[simp] theorem decideInitial_frame (joint : Joint) (base : Int) (usable : Bool) (s : State) :
    (decideInitial joint base usable s).pins = s.pins ∧ (decideInitial joint base usable s).straps = s.straps
     ∧ (decideInitial joint base usable s).epoch = s.epoch ∧ (decideInitial joint base usable s).enc = s.enc
     ∧ (decideInitial joint base usable s).work = s.work ∧ (decideInitial joint base usable s).coupling = s.coupling
     ∧ (decideInitial joint base usable s).peers = s.peers ∧ (decideInitial joint base usable s).cal = s.cal
     ∧ (decideInitial joint base usable s).setup = s.setup ∧ (decideInitial joint base usable s).store = s.store
     ∧ (decideInitial joint base usable s).selfCheck = s.selfCheck
     ∧ (decideInitial joint base usable s).link = s.link
     ∧ (decideInitial joint base usable s).restartPending = s.restartPending
     ∧ (decideInitial joint base usable s).free = s.free ∧ (decideInitial joint base usable s).pending = s.pending
     ∧ (decideInitial joint base usable s).ret.record = s.ret.record
     ∧ (decideInitial joint base usable s).ret.tracker = s.ret.tracker
     ∧ (decideInitial joint base usable s).ret.stateLost = s.ret.stateLost
     ∧ (decideInitial joint base usable s).ret.dwellMet = s.ret.dwellMet
     ∧ (decideInitial joint base usable s).gate.rdyLevel = s.gate.rdyLevel
     ∧ (decideInitial joint base usable s).gate.travelSide = s.gate.travelSide
     ∧ (decideInitial joint base usable s).pos.established = s.pos.established
     ∧ (decideInitial joint base usable s).pos.thetaLast = s.pos.thetaLast
     ∧ (decideInitial joint base usable s).pos.deltaLast = s.pos.deltaLast
     ∧ (decideInitial joint base usable s).pos.failedRun = s.pos.failedRun
     ∧ (decideInitial joint base usable s).pos.lastDir = s.pos.lastDir
     ∧ (decideInitial joint base usable s).pos.j = s.pos.j
     ∧ (decideInitial joint base usable s).pos.firstQuarter = s.pos.firstQuarter := by
  have h : ∀ (t : Option Int) (u : PositionUnit), (setTurn t u).established = u.established ∧ (setTurn t u).thetaLast = u.thetaLast ∧
      (setTurn t u).deltaLast = u.deltaLast ∧ (setTurn t u).failedRun = u.failedRun ∧ (setTurn t u).lastDir = u.lastDir ∧
      (setTurn t u).j = u.j ∧ (setTurn t u).firstQuarter = u.firstQuarter := by intro t u; cases t <;> simp [setTurn]
  simp [decideInitial, h]

@[simp] theorem decideConfirmation_frame (joint : Joint) (base : Int) (usable : Bool) (s : State) :
    (decideConfirmation joint base usable s).pins = s.pins
     ∧ (decideConfirmation joint base usable s).straps = s.straps
     ∧ (decideConfirmation joint base usable s).epoch = s.epoch
     ∧ (decideConfirmation joint base usable s).enc = s.enc ∧ (decideConfirmation joint base usable s).work = s.work
     ∧ (decideConfirmation joint base usable s).coupling = s.coupling
     ∧ (decideConfirmation joint base usable s).peers = s.peers
     ∧ (decideConfirmation joint base usable s).ret = s.ret ∧ (decideConfirmation joint base usable s).cal = s.cal
     ∧ (decideConfirmation joint base usable s).setup = s.setup
     ∧ (decideConfirmation joint base usable s).store = s.store
     ∧ (decideConfirmation joint base usable s).selfCheck = s.selfCheck
     ∧ (decideConfirmation joint base usable s).link = s.link
     ∧ (decideConfirmation joint base usable s).restartPending = s.restartPending
     ∧ (decideConfirmation joint base usable s).free = s.free
     ∧ (decideConfirmation joint base usable s).pending = s.pending
     ∧ (decideConfirmation joint base usable s).gate.rdyLevel = s.gate.rdyLevel
     ∧ (decideConfirmation joint base usable s).gate.travelSide = s.gate.travelSide
     ∧ (decideConfirmation joint base usable s).pos.established = s.pos.established
     ∧ (decideConfirmation joint base usable s).pos.p = s.pos.p
     ∧ (decideConfirmation joint base usable s).pos.thetaLast = s.pos.thetaLast
     ∧ (decideConfirmation joint base usable s).pos.deltaLast = s.pos.deltaLast
     ∧ (decideConfirmation joint base usable s).pos.failedRun = s.pos.failedRun
     ∧ (decideConfirmation joint base usable s).pos.s = s.pos.s
     ∧ (decideConfirmation joint base usable s).pos.playKnown = s.pos.playKnown
     ∧ (decideConfirmation joint base usable s).pos.acc = s.pos.acc
     ∧ (decideConfirmation joint base usable s).pos.lastDir = s.pos.lastDir
     ∧ (decideConfirmation joint base usable s).pos.j = s.pos.j
     ∧ (decideConfirmation joint base usable s).pos.evaluated = s.pos.evaluated
     ∧ (decideConfirmation joint base usable s).pos.gq = s.pos.gq
     ∧ (decideConfirmation joint base usable s).pos.jg = s.pos.jg
     ∧ (decideConfirmation joint base usable s).pos.usable = s.pos.usable
     ∧ (decideConfirmation joint base usable s).pos.lastE = s.pos.lastE
     ∧ (decideConfirmation joint base usable s).pos.lastSj = s.pos.lastSj
     ∧ (decideConfirmation joint base usable s).pos.firstQuarter = s.pos.firstQuarter := by
  simp [decideConfirmation]

@[simp] theorem restoreDecide_frame (joint : Joint) (base : Int) (usable : Bool) (s : State) :
    (restoreDecide joint base usable s).pins = s.pins ∧ (restoreDecide joint base usable s).straps = s.straps
     ∧ (restoreDecide joint base usable s).epoch = s.epoch ∧ (restoreDecide joint base usable s).enc = s.enc
     ∧ (restoreDecide joint base usable s).work = s.work ∧ (restoreDecide joint base usable s).coupling = s.coupling
     ∧ (restoreDecide joint base usable s).peers = s.peers ∧ (restoreDecide joint base usable s).cal = s.cal
     ∧ (restoreDecide joint base usable s).setup = s.setup ∧ (restoreDecide joint base usable s).store = s.store
     ∧ (restoreDecide joint base usable s).selfCheck = s.selfCheck
     ∧ (restoreDecide joint base usable s).link = s.link
     ∧ (restoreDecide joint base usable s).restartPending = s.restartPending
     ∧ (restoreDecide joint base usable s).free = s.free ∧ (restoreDecide joint base usable s).pending = s.pending
     ∧ (restoreDecide joint base usable s).ret.record = s.ret.record
     ∧ (restoreDecide joint base usable s).ret.tracker = s.ret.tracker
     ∧ (restoreDecide joint base usable s).ret.stateLost = s.ret.stateLost
     ∧ (restoreDecide joint base usable s).ret.dwellMet = s.ret.dwellMet
     ∧ (restoreDecide joint base usable s).gate.rdyLevel = s.gate.rdyLevel
     ∧ (restoreDecide joint base usable s).gate.travelSide = s.gate.travelSide
     ∧ (restoreDecide joint base usable s).pos.established = s.pos.established
     ∧ (restoreDecide joint base usable s).pos.thetaLast = s.pos.thetaLast
     ∧ (restoreDecide joint base usable s).pos.deltaLast = s.pos.deltaLast
     ∧ (restoreDecide joint base usable s).pos.failedRun = s.pos.failedRun
     ∧ (restoreDecide joint base usable s).pos.lastDir = s.pos.lastDir
     ∧ (restoreDecide joint base usable s).pos.j = s.pos.j
     ∧ (restoreDecide joint base usable s).pos.firstQuarter = s.pos.firstQuarter := by
  unfold restoreDecide; split <;> simp

@[simp] theorem setRestorePlay_frame (s : State) :
    (setRestorePlay s).pins = s.pins ∧ (setRestorePlay s).straps = s.straps ∧ (setRestorePlay s).epoch = s.epoch
     ∧ (setRestorePlay s).enc = s.enc ∧ (setRestorePlay s).work = s.work ∧ (setRestorePlay s).coupling = s.coupling
     ∧ (setRestorePlay s).peers = s.peers ∧ (setRestorePlay s).ret = s.ret ∧ (setRestorePlay s).node = s.node
     ∧ (setRestorePlay s).homing = s.homing ∧ (setRestorePlay s).homingOp = s.homingOp
     ∧ (setRestorePlay s).sweep = s.sweep ∧ (setRestorePlay s).cal = s.cal ∧ (setRestorePlay s).setup = s.setup
     ∧ (setRestorePlay s).store = s.store ∧ (setRestorePlay s).selfCheck = s.selfCheck
     ∧ (setRestorePlay s).link = s.link ∧ (setRestorePlay s).faults = s.faults ∧ (setRestorePlay s).gate = s.gate
     ∧ (setRestorePlay s).restartPending = s.restartPending ∧ (setRestorePlay s).free = s.free
     ∧ (setRestorePlay s).pending = s.pending ∧ (setRestorePlay s).pos.established = s.pos.established
     ∧ (setRestorePlay s).pos.thetaLast = s.pos.thetaLast ∧ (setRestorePlay s).pos.deltaLast = s.pos.deltaLast
     ∧ (setRestorePlay s).pos.failedRun = s.pos.failedRun ∧ (setRestorePlay s).pos.lastDir = s.pos.lastDir
     ∧ (setRestorePlay s).pos.j = s.pos.j ∧ (setRestorePlay s).pos.firstQuarter = s.pos.firstQuarter := by
  unfold setRestorePlay restoredPlay playUnknown; repeat' split
  all_goals simp

@[simp] theorem testWaitSet_frame (s : State) :
    (testWaitSet s).pins = s.pins ∧ (testWaitSet s).straps = s.straps ∧ (testWaitSet s).epoch = s.epoch
     ∧ (testWaitSet s).enc = s.enc ∧ (testWaitSet s).pos = s.pos ∧ (testWaitSet s).work = s.work
     ∧ (testWaitSet s).coupling = s.coupling ∧ (testWaitSet s).peers = s.peers ∧ (testWaitSet s).ret = s.ret
     ∧ (testWaitSet s).homing = s.homing ∧ (testWaitSet s).sweep = s.sweep ∧ (testWaitSet s).cal = s.cal
     ∧ (testWaitSet s).setup = s.setup ∧ (testWaitSet s).store = s.store ∧ (testWaitSet s).selfCheck = s.selfCheck
     ∧ (testWaitSet s).link = s.link ∧ (testWaitSet s).faults = s.faults
     ∧ (testWaitSet s).restartPending = s.restartPending ∧ (testWaitSet s).free = s.free
     ∧ (testWaitSet s).pending = s.pending ∧ (testWaitSet s).gate.rdyLevel = s.gate.rdyLevel
     ∧ (testWaitSet s).gate.travelSide = s.gate.travelSide := by
  unfold testWaitSet; dsimp only; repeat' split
  all_goals simp

@[simp] theorem peerNotice_frame (a : Address) (s : State) :
    (peerNotice a s).pins = s.pins ∧ (peerNotice a s).straps = s.straps ∧ (peerNotice a s).epoch = s.epoch
     ∧ (peerNotice a s).enc = s.enc ∧ (peerNotice a s).work = s.work ∧ (peerNotice a s).coupling = s.coupling
     ∧ (peerNotice a s).peers = s.peers ∧ (peerNotice a s).ret = s.ret ∧ (peerNotice a s).sweep = s.sweep
     ∧ (peerNotice a s).cal = s.cal ∧ (peerNotice a s).setup = s.setup ∧ (peerNotice a s).store = s.store
     ∧ (peerNotice a s).selfCheck = s.selfCheck ∧ (peerNotice a s).link = s.link ∧ (peerNotice a s).faults = s.faults
     ∧ (peerNotice a s).restartPending = s.restartPending ∧ (peerNotice a s).free = s.free
     ∧ (peerNotice a s).pending = s.pending ∧ (peerNotice a s).gate.rdyLevel = s.gate.rdyLevel
     ∧ (peerNotice a s).gate.travelSide = s.gate.travelSide ∧ (peerNotice a s).pos.established = s.pos.established
     ∧ (peerNotice a s).pos.p = s.pos.p ∧ (peerNotice a s).pos.thetaLast = s.pos.thetaLast
     ∧ (peerNotice a s).pos.deltaLast = s.pos.deltaLast ∧ (peerNotice a s).pos.failedRun = s.pos.failedRun
     ∧ (peerNotice a s).pos.s = s.pos.s ∧ (peerNotice a s).pos.playKnown = s.pos.playKnown
     ∧ (peerNotice a s).pos.acc = s.pos.acc ∧ (peerNotice a s).pos.lastDir = s.pos.lastDir
     ∧ (peerNotice a s).pos.j = s.pos.j ∧ (peerNotice a s).pos.evaluated = s.pos.evaluated
     ∧ (peerNotice a s).pos.gq = s.pos.gq ∧ (peerNotice a s).pos.jg = s.pos.jg
     ∧ (peerNotice a s).pos.usable = s.pos.usable ∧ (peerNotice a s).pos.lastE = s.pos.lastE
     ∧ (peerNotice a s).pos.lastSj = s.pos.lastSj ∧ (peerNotice a s).pos.firstQuarter = s.pos.firstQuarter
     ∧ (peerNotice a s).pos.abs = s.pos.abs := by
  unfold peerNotice; repeat' split
  all_goals simp

@[simp] theorem examineEdge_frame (d : Int) (s : State) :
    (examineEdge d s).pins = s.pins ∧ (examineEdge d s).straps = s.straps ∧ (examineEdge d s).epoch = s.epoch
     ∧ (examineEdge d s).enc = s.enc ∧ (examineEdge d s).pos = s.pos ∧ (examineEdge d s).work = s.work
     ∧ (examineEdge d s).coupling = s.coupling ∧ (examineEdge d s).peers = s.peers ∧ (examineEdge d s).ret = s.ret
     ∧ (examineEdge d s).sweep = s.sweep ∧ (examineEdge d s).cal = s.cal ∧ (examineEdge d s).setup = s.setup
     ∧ (examineEdge d s).store = s.store ∧ (examineEdge d s).selfCheck = s.selfCheck
     ∧ (examineEdge d s).link = s.link ∧ (examineEdge d s).faults = s.faults
     ∧ (examineEdge d s).restartPending = s.restartPending ∧ (examineEdge d s).free = s.free
     ∧ (examineEdge d s).pending = s.pending ∧ (examineEdge d s).gate.rdyLevel = s.gate.rdyLevel
     ∧ (examineEdge d s).gate.travelSide = s.gate.travelSide := by
  unfold examineEdge; split <;> simp

@[simp] theorem takeCrossing_frame (p : Int) (s : State) :
    (takeCrossing p s).pins = s.pins ∧ (takeCrossing p s).straps = s.straps ∧ (takeCrossing p s).epoch = s.epoch
     ∧ (takeCrossing p s).enc = s.enc ∧ (takeCrossing p s).work = s.work ∧ (takeCrossing p s).coupling = s.coupling
     ∧ (takeCrossing p s).peers = s.peers ∧ (takeCrossing p s).ret = s.ret ∧ (takeCrossing p s).sweep = s.sweep
     ∧ (takeCrossing p s).cal = s.cal ∧ (takeCrossing p s).setup = s.setup ∧ (takeCrossing p s).store = s.store
     ∧ (takeCrossing p s).selfCheck = s.selfCheck ∧ (takeCrossing p s).link = s.link
     ∧ (takeCrossing p s).faults = s.faults ∧ (takeCrossing p s).restartPending = s.restartPending
     ∧ (takeCrossing p s).free = s.free ∧ (takeCrossing p s).pending = s.pending
     ∧ (takeCrossing p s).gate.rdyLevel = s.gate.rdyLevel ∧ (takeCrossing p s).gate.travelSide = s.gate.travelSide
     ∧ (takeCrossing p s).pos.established = s.pos.established ∧ (takeCrossing p s).pos.p = s.pos.p
     ∧ (takeCrossing p s).pos.thetaLast = s.pos.thetaLast ∧ (takeCrossing p s).pos.deltaLast = s.pos.deltaLast
     ∧ (takeCrossing p s).pos.failedRun = s.pos.failedRun ∧ (takeCrossing p s).pos.s = s.pos.s
     ∧ (takeCrossing p s).pos.playKnown = s.pos.playKnown ∧ (takeCrossing p s).pos.acc = s.pos.acc
     ∧ (takeCrossing p s).pos.lastDir = s.pos.lastDir ∧ (takeCrossing p s).pos.j = s.pos.j
     ∧ (takeCrossing p s).pos.evaluated = s.pos.evaluated ∧ (takeCrossing p s).pos.gq = s.pos.gq
     ∧ (takeCrossing p s).pos.jg = s.pos.jg ∧ (takeCrossing p s).pos.usable = s.pos.usable
     ∧ (takeCrossing p s).pos.lastE = s.pos.lastE ∧ (takeCrossing p s).pos.lastSj = s.pos.lastSj
     ∧ (takeCrossing p s).pos.firstQuarter = s.pos.firstQuarter ∧ (takeCrossing p s).pos.abs = s.pos.abs := by
  unfold takeCrossing; dsimp only; split <;> simp

@[simp] theorem moveBase_frame (s : State) :
    (moveBase s).pins = s.pins ∧ (moveBase s).straps = s.straps ∧ (moveBase s).epoch = s.epoch
     ∧ (moveBase s).enc = s.enc ∧ (moveBase s).pos = s.pos ∧ (moveBase s).work = s.work
     ∧ (moveBase s).coupling = s.coupling ∧ (moveBase s).peers = s.peers ∧ (moveBase s).ret = s.ret
     ∧ (moveBase s).node = s.node ∧ (moveBase s).homing = s.homing ∧ (moveBase s).sweep = s.sweep
     ∧ (moveBase s).cal = s.cal ∧ (moveBase s).setup = s.setup ∧ (moveBase s).store = s.store
     ∧ (moveBase s).selfCheck = s.selfCheck ∧ (moveBase s).link = s.link ∧ (moveBase s).faults = s.faults
     ∧ (moveBase s).gate = s.gate ∧ (moveBase s).restartPending = s.restartPending ∧ (moveBase s).free = s.free
     ∧ (moveBase s).pending = s.pending := by
  simp [moveBase]

@[simp] theorem examineCapture_frame (d : Int) (s : State) :
    (examineCapture d s).pins = s.pins ∧ (examineCapture d s).straps = s.straps
     ∧ (examineCapture d s).epoch = s.epoch ∧ (examineCapture d s).enc = s.enc ∧ (examineCapture d s).work = s.work
     ∧ (examineCapture d s).coupling = s.coupling ∧ (examineCapture d s).peers = s.peers
     ∧ (examineCapture d s).ret = s.ret ∧ (examineCapture d s).sweep = s.sweep ∧ (examineCapture d s).cal = s.cal
     ∧ (examineCapture d s).setup = s.setup ∧ (examineCapture d s).store = s.store
     ∧ (examineCapture d s).selfCheck = s.selfCheck ∧ (examineCapture d s).link = s.link
     ∧ (examineCapture d s).faults = s.faults ∧ (examineCapture d s).restartPending = s.restartPending
     ∧ (examineCapture d s).free = s.free ∧ (examineCapture d s).pending = s.pending
     ∧ (examineCapture d s).gate.rdyLevel = s.gate.rdyLevel
     ∧ (examineCapture d s).gate.travelSide = s.gate.travelSide
     ∧ (examineCapture d s).pos.established = s.pos.established ∧ (examineCapture d s).pos.p = s.pos.p
     ∧ (examineCapture d s).pos.thetaLast = s.pos.thetaLast ∧ (examineCapture d s).pos.deltaLast = s.pos.deltaLast
     ∧ (examineCapture d s).pos.failedRun = s.pos.failedRun ∧ (examineCapture d s).pos.s = s.pos.s
     ∧ (examineCapture d s).pos.playKnown = s.pos.playKnown ∧ (examineCapture d s).pos.acc = s.pos.acc
     ∧ (examineCapture d s).pos.lastDir = s.pos.lastDir ∧ (examineCapture d s).pos.j = s.pos.j
     ∧ (examineCapture d s).pos.evaluated = s.pos.evaluated ∧ (examineCapture d s).pos.gq = s.pos.gq
     ∧ (examineCapture d s).pos.jg = s.pos.jg ∧ (examineCapture d s).pos.usable = s.pos.usable
     ∧ (examineCapture d s).pos.lastE = s.pos.lastE ∧ (examineCapture d s).pos.lastSj = s.pos.lastSj
     ∧ (examineCapture d s).pos.firstQuarter = s.pos.firstQuarter ∧ (examineCapture d s).pos.abs = s.pos.abs := by
  unfold examineCapture; dsimp only; repeat' split
  all_goals simp

@[simp] theorem homingCounted_frame (d : Int) (s : State) :
    (homingCounted d s).pins = s.pins ∧ (homingCounted d s).straps = s.straps ∧ (homingCounted d s).epoch = s.epoch
     ∧ (homingCounted d s).enc = s.enc ∧ (homingCounted d s).work = s.work
     ∧ (homingCounted d s).coupling = s.coupling ∧ (homingCounted d s).peers = s.peers
     ∧ (homingCounted d s).ret = s.ret ∧ (homingCounted d s).sweep = s.sweep ∧ (homingCounted d s).cal = s.cal
     ∧ (homingCounted d s).setup = s.setup ∧ (homingCounted d s).store = s.store
     ∧ (homingCounted d s).selfCheck = s.selfCheck ∧ (homingCounted d s).link = s.link
     ∧ (homingCounted d s).faults = s.faults ∧ (homingCounted d s).restartPending = s.restartPending
     ∧ (homingCounted d s).free = s.free ∧ (homingCounted d s).pending = s.pending
     ∧ (homingCounted d s).gate.rdyLevel = s.gate.rdyLevel ∧ (homingCounted d s).gate.travelSide = s.gate.travelSide
     ∧ (homingCounted d s).pos.established = s.pos.established ∧ (homingCounted d s).pos.p = s.pos.p
     ∧ (homingCounted d s).pos.thetaLast = s.pos.thetaLast ∧ (homingCounted d s).pos.deltaLast = s.pos.deltaLast
     ∧ (homingCounted d s).pos.failedRun = s.pos.failedRun ∧ (homingCounted d s).pos.s = s.pos.s
     ∧ (homingCounted d s).pos.playKnown = s.pos.playKnown ∧ (homingCounted d s).pos.acc = s.pos.acc
     ∧ (homingCounted d s).pos.lastDir = s.pos.lastDir ∧ (homingCounted d s).pos.j = s.pos.j
     ∧ (homingCounted d s).pos.evaluated = s.pos.evaluated ∧ (homingCounted d s).pos.gq = s.pos.gq
     ∧ (homingCounted d s).pos.jg = s.pos.jg ∧ (homingCounted d s).pos.usable = s.pos.usable
     ∧ (homingCounted d s).pos.lastE = s.pos.lastE ∧ (homingCounted d s).pos.lastSj = s.pos.lastSj
     ∧ (homingCounted d s).pos.firstQuarter = s.pos.firstQuarter ∧ (homingCounted d s).pos.abs = s.pos.abs := by
  unfold homingCounted; repeat' split
  all_goals simp

@[simp] theorem homingUncounted_frame (s : State) :
    (homingUncounted s).pins = s.pins ∧ (homingUncounted s).straps = s.straps ∧ (homingUncounted s).epoch = s.epoch
     ∧ (homingUncounted s).enc = s.enc ∧ (homingUncounted s).work = s.work
     ∧ (homingUncounted s).coupling = s.coupling ∧ (homingUncounted s).peers = s.peers
     ∧ (homingUncounted s).ret = s.ret ∧ (homingUncounted s).sweep = s.sweep ∧ (homingUncounted s).cal = s.cal
     ∧ (homingUncounted s).setup = s.setup ∧ (homingUncounted s).store = s.store
     ∧ (homingUncounted s).selfCheck = s.selfCheck ∧ (homingUncounted s).link = s.link
     ∧ (homingUncounted s).faults = s.faults ∧ (homingUncounted s).restartPending = s.restartPending
     ∧ (homingUncounted s).free = s.free ∧ (homingUncounted s).pending = s.pending
     ∧ (homingUncounted s).gate.rdyLevel = s.gate.rdyLevel ∧ (homingUncounted s).gate.travelSide = s.gate.travelSide
     ∧ (homingUncounted s).pos.established = s.pos.established ∧ (homingUncounted s).pos.p = s.pos.p
     ∧ (homingUncounted s).pos.thetaLast = s.pos.thetaLast ∧ (homingUncounted s).pos.deltaLast = s.pos.deltaLast
     ∧ (homingUncounted s).pos.failedRun = s.pos.failedRun ∧ (homingUncounted s).pos.s = s.pos.s
     ∧ (homingUncounted s).pos.playKnown = s.pos.playKnown ∧ (homingUncounted s).pos.acc = s.pos.acc
     ∧ (homingUncounted s).pos.lastDir = s.pos.lastDir ∧ (homingUncounted s).pos.j = s.pos.j
     ∧ (homingUncounted s).pos.evaluated = s.pos.evaluated ∧ (homingUncounted s).pos.gq = s.pos.gq
     ∧ (homingUncounted s).pos.jg = s.pos.jg ∧ (homingUncounted s).pos.usable = s.pos.usable
     ∧ (homingUncounted s).pos.lastE = s.pos.lastE ∧ (homingUncounted s).pos.lastSj = s.pos.lastSj
     ∧ (homingUncounted s).pos.firstQuarter = s.pos.firstQuarter ∧ (homingUncounted s).pos.abs = s.pos.abs := by
  unfold homingUncounted; repeat' split
  all_goals simp

@[simp] theorem markCal_frame (s : State) :
    (markCal s).pins = s.pins ∧ (markCal s).straps = s.straps ∧ (markCal s).epoch = s.epoch ∧ (markCal s).enc = s.enc
     ∧ (markCal s).pos = s.pos ∧ (markCal s).work = s.work ∧ (markCal s).coupling = s.coupling
     ∧ (markCal s).peers = s.peers ∧ (markCal s).ret = s.ret ∧ (markCal s).node = s.node
     ∧ (markCal s).homing = s.homing ∧ (markCal s).homingOp = s.homingOp ∧ (markCal s).sweep = s.sweep
     ∧ (markCal s).setup = s.setup ∧ (markCal s).selfCheck = s.selfCheck ∧ (markCal s).link = s.link
     ∧ (markCal s).faults = s.faults ∧ (markCal s).gate = s.gate ∧ (markCal s).restartPending = s.restartPending
     ∧ (markCal s).free = s.free ∧ (markCal s).pending = s.pending ∧ (markCal s).cal.data = s.cal.data
     ∧ (markCal s).cal.valid = s.cal.valid ∧ (markCal s).store.writing = s.store.writing
     ∧ (markCal s).store.calArea = s.store.calArea ∧ (markCal s).store.setupArea = s.store.setupArea := by
  unfold markCal; dsimp only; split <;> simp

@[simp] theorem resolveConflict_frame (s : State) :
    (resolveConflict s).pins = s.pins ∧ (resolveConflict s).straps = s.straps ∧ (resolveConflict s).epoch = s.epoch
     ∧ (resolveConflict s).enc = s.enc ∧ (resolveConflict s).pos = s.pos ∧ (resolveConflict s).work = s.work
     ∧ (resolveConflict s).coupling = s.coupling ∧ (resolveConflict s).peers = s.peers
     ∧ (resolveConflict s).ret = s.ret ∧ (resolveConflict s).homing = s.homing
     ∧ (resolveConflict s).homingOp = s.homingOp ∧ (resolveConflict s).sweep = s.sweep
     ∧ (resolveConflict s).cal = s.cal ∧ (resolveConflict s).setup = s.setup ∧ (resolveConflict s).store = s.store
     ∧ (resolveConflict s).selfCheck = s.selfCheck ∧ (resolveConflict s).link = s.link
     ∧ (resolveConflict s).restartPending = s.restartPending ∧ (resolveConflict s).free = s.free
     ∧ (resolveConflict s).pending = s.pending ∧ (resolveConflict s).gate.rdyLevel = s.gate.rdyLevel
     ∧ (resolveConflict s).gate.travelSide = s.gate.travelSide := by
  simp [resolveConflict]

@[simp] theorem homingSuccess_frame (t : Int) (s : State) :
    (homingSuccess t s).pins = s.pins ∧ (homingSuccess t s).straps = s.straps ∧ (homingSuccess t s).epoch = s.epoch
     ∧ (homingSuccess t s).enc = s.enc ∧ (homingSuccess t s).work = s.work
     ∧ (homingSuccess t s).coupling = s.coupling ∧ (homingSuccess t s).peers = s.peers
     ∧ (homingSuccess t s).sweep = s.sweep ∧ (homingSuccess t s).cal = s.cal ∧ (homingSuccess t s).setup = s.setup
     ∧ (homingSuccess t s).store = s.store ∧ (homingSuccess t s).selfCheck = s.selfCheck
     ∧ (homingSuccess t s).link = s.link ∧ (homingSuccess t s).restartPending = s.restartPending
     ∧ (homingSuccess t s).free = s.free ∧ (homingSuccess t s).pending = s.pending
     ∧ (homingSuccess t s).ret.record = s.ret.record ∧ (homingSuccess t s).ret.tracker = s.ret.tracker
     ∧ (homingSuccess t s).ret.stateLost = s.ret.stateLost ∧ (homingSuccess t s).ret.dwellMet = s.ret.dwellMet
     ∧ (homingSuccess t s).gate.rdyLevel = s.gate.rdyLevel ∧ (homingSuccess t s).gate.travelSide = s.gate.travelSide
     ∧ (homingSuccess t s).pos.established = s.pos.established ∧ (homingSuccess t s).pos.thetaLast = s.pos.thetaLast
     ∧ (homingSuccess t s).pos.deltaLast = s.pos.deltaLast ∧ (homingSuccess t s).pos.failedRun = s.pos.failedRun
     ∧ (homingSuccess t s).pos.s = s.pos.s ∧ (homingSuccess t s).pos.playKnown = s.pos.playKnown
     ∧ (homingSuccess t s).pos.acc = s.pos.acc ∧ (homingSuccess t s).pos.lastDir = s.pos.lastDir
     ∧ (homingSuccess t s).pos.j = s.pos.j ∧ (homingSuccess t s).pos.evaluated = s.pos.evaluated
     ∧ (homingSuccess t s).pos.gq = s.pos.gq ∧ (homingSuccess t s).pos.jg = s.pos.jg
     ∧ (homingSuccess t s).pos.usable = s.pos.usable ∧ (homingSuccess t s).pos.lastE = s.pos.lastE
     ∧ (homingSuccess t s).pos.lastSj = s.pos.lastSj ∧ (homingSuccess t s).pos.firstQuarter = s.pos.firstQuarter := by
  simp [homingSuccess, setAbsolute]

@[simp] theorem homingLearned_frame (e : Int) (g : Sixteenths) (s : State) :
    (homingLearned e g s).pins = s.pins ∧ (homingLearned e g s).straps = s.straps
     ∧ (homingLearned e g s).epoch = s.epoch ∧ (homingLearned e g s).enc = s.enc
     ∧ (homingLearned e g s).work = s.work ∧ (homingLearned e g s).coupling = s.coupling
     ∧ (homingLearned e g s).peers = s.peers ∧ (homingLearned e g s).ret = s.ret
     ∧ (homingLearned e g s).sweep = s.sweep ∧ (homingLearned e g s).setup = s.setup
     ∧ (homingLearned e g s).selfCheck = s.selfCheck ∧ (homingLearned e g s).link = s.link
     ∧ (homingLearned e g s).faults = s.faults ∧ (homingLearned e g s).restartPending = s.restartPending
     ∧ (homingLearned e g s).free = s.free ∧ (homingLearned e g s).pending = s.pending
     ∧ (homingLearned e g s).cal.valid = s.cal.valid ∧ (homingLearned e g s).store.writing = s.store.writing
     ∧ (homingLearned e g s).gate.rdyLevel = s.gate.rdyLevel
     ∧ (homingLearned e g s).gate.travelSide = s.gate.travelSide
     ∧ (homingLearned e g s).pos.established = s.pos.established ∧ (homingLearned e g s).pos.p = s.pos.p
     ∧ (homingLearned e g s).pos.thetaLast = s.pos.thetaLast ∧ (homingLearned e g s).pos.deltaLast = s.pos.deltaLast
     ∧ (homingLearned e g s).pos.failedRun = s.pos.failedRun ∧ (homingLearned e g s).pos.s = s.pos.s
     ∧ (homingLearned e g s).pos.playKnown = s.pos.playKnown ∧ (homingLearned e g s).pos.acc = s.pos.acc
     ∧ (homingLearned e g s).pos.lastDir = s.pos.lastDir ∧ (homingLearned e g s).pos.j = s.pos.j
     ∧ (homingLearned e g s).pos.evaluated = s.pos.evaluated ∧ (homingLearned e g s).pos.gq = s.pos.gq
     ∧ (homingLearned e g s).pos.jg = s.pos.jg ∧ (homingLearned e g s).pos.usable = s.pos.usable
     ∧ (homingLearned e g s).pos.lastE = s.pos.lastE ∧ (homingLearned e g s).pos.lastSj = s.pos.lastSj
     ∧ (homingLearned e g s).pos.firstQuarter = s.pos.firstQuarter ∧ (homingLearned e g s).pos.abs = s.pos.abs := by
  simp [homingLearned]

@[simp] theorem recordCoarse_frame (u : Bool) (d : Int) (s : State) :
    (recordCoarse u d s).pins = s.pins ∧ (recordCoarse u d s).straps = s.straps
     ∧ (recordCoarse u d s).epoch = s.epoch ∧ (recordCoarse u d s).enc = s.enc ∧ (recordCoarse u d s).pos = s.pos
     ∧ (recordCoarse u d s).work = s.work ∧ (recordCoarse u d s).coupling = s.coupling
     ∧ (recordCoarse u d s).peers = s.peers ∧ (recordCoarse u d s).ret = s.ret ∧ (recordCoarse u d s).node = s.node
     ∧ (recordCoarse u d s).homingOp = s.homingOp ∧ (recordCoarse u d s).sweep = s.sweep
     ∧ (recordCoarse u d s).cal = s.cal ∧ (recordCoarse u d s).setup = s.setup ∧ (recordCoarse u d s).store = s.store
     ∧ (recordCoarse u d s).selfCheck = s.selfCheck ∧ (recordCoarse u d s).link = s.link
     ∧ (recordCoarse u d s).faults = s.faults ∧ (recordCoarse u d s).gate = s.gate
     ∧ (recordCoarse u d s).restartPending = s.restartPending ∧ (recordCoarse u d s).free = s.free
     ∧ (recordCoarse u d s).pending = s.pending := by
  unfold recordCoarse; split <;> simp

@[simp] theorem finishHome_frame (u : Bool) (d t : Int) (s : State) :
    (finishHome u d t s).pins = s.pins ∧ (finishHome u d t s).straps = s.straps
     ∧ (finishHome u d t s).epoch = s.epoch ∧ (finishHome u d t s).enc = s.enc ∧ (finishHome u d t s).work = s.work
     ∧ (finishHome u d t s).coupling = s.coupling ∧ (finishHome u d t s).peers = s.peers
     ∧ (finishHome u d t s).sweep = s.sweep ∧ (finishHome u d t s).cal = s.cal ∧ (finishHome u d t s).setup = s.setup
     ∧ (finishHome u d t s).store = s.store ∧ (finishHome u d t s).selfCheck = s.selfCheck
     ∧ (finishHome u d t s).link = s.link ∧ (finishHome u d t s).restartPending = s.restartPending
     ∧ (finishHome u d t s).free = s.free ∧ (finishHome u d t s).pending = s.pending
     ∧ (finishHome u d t s).ret.record = s.ret.record ∧ (finishHome u d t s).ret.tracker = s.ret.tracker
     ∧ (finishHome u d t s).ret.stateLost = s.ret.stateLost ∧ (finishHome u d t s).ret.dwellMet = s.ret.dwellMet
     ∧ (finishHome u d t s).gate.rdyLevel = s.gate.rdyLevel
     ∧ (finishHome u d t s).gate.travelSide = s.gate.travelSide
     ∧ (finishHome u d t s).pos.established = s.pos.established
     ∧ (finishHome u d t s).pos.thetaLast = s.pos.thetaLast ∧ (finishHome u d t s).pos.deltaLast = s.pos.deltaLast
     ∧ (finishHome u d t s).pos.failedRun = s.pos.failedRun ∧ (finishHome u d t s).pos.s = s.pos.s
     ∧ (finishHome u d t s).pos.playKnown = s.pos.playKnown ∧ (finishHome u d t s).pos.acc = s.pos.acc
     ∧ (finishHome u d t s).pos.lastDir = s.pos.lastDir ∧ (finishHome u d t s).pos.j = s.pos.j
     ∧ (finishHome u d t s).pos.evaluated = s.pos.evaluated ∧ (finishHome u d t s).pos.gq = s.pos.gq
     ∧ (finishHome u d t s).pos.jg = s.pos.jg ∧ (finishHome u d t s).pos.usable = s.pos.usable
     ∧ (finishHome u d t s).pos.lastE = s.pos.lastE ∧ (finishHome u d t s).pos.lastSj = s.pos.lastSj
     ∧ (finishHome u d t s).pos.firstQuarter = s.pos.firstQuarter := by
  unfold finishHome; split <;> simp

@[simp] theorem finishLearn_frame (u : Bool) (d e : Int) (g : Sixteenths) (s : State) :
    (finishLearn u d e g s).pins = s.pins ∧ (finishLearn u d e g s).straps = s.straps
     ∧ (finishLearn u d e g s).epoch = s.epoch ∧ (finishLearn u d e g s).enc = s.enc
     ∧ (finishLearn u d e g s).work = s.work ∧ (finishLearn u d e g s).coupling = s.coupling
     ∧ (finishLearn u d e g s).peers = s.peers ∧ (finishLearn u d e g s).ret = s.ret
     ∧ (finishLearn u d e g s).sweep = s.sweep ∧ (finishLearn u d e g s).setup = s.setup
     ∧ (finishLearn u d e g s).selfCheck = s.selfCheck ∧ (finishLearn u d e g s).link = s.link
     ∧ (finishLearn u d e g s).faults = s.faults ∧ (finishLearn u d e g s).restartPending = s.restartPending
     ∧ (finishLearn u d e g s).free = s.free ∧ (finishLearn u d e g s).pending = s.pending
     ∧ (finishLearn u d e g s).cal.valid = s.cal.valid ∧ (finishLearn u d e g s).store.writing = s.store.writing
     ∧ (finishLearn u d e g s).gate.rdyLevel = s.gate.rdyLevel
     ∧ (finishLearn u d e g s).gate.travelSide = s.gate.travelSide
     ∧ (finishLearn u d e g s).pos.established = s.pos.established ∧ (finishLearn u d e g s).pos.p = s.pos.p
     ∧ (finishLearn u d e g s).pos.thetaLast = s.pos.thetaLast
     ∧ (finishLearn u d e g s).pos.deltaLast = s.pos.deltaLast
     ∧ (finishLearn u d e g s).pos.failedRun = s.pos.failedRun ∧ (finishLearn u d e g s).pos.s = s.pos.s
     ∧ (finishLearn u d e g s).pos.playKnown = s.pos.playKnown ∧ (finishLearn u d e g s).pos.acc = s.pos.acc
     ∧ (finishLearn u d e g s).pos.lastDir = s.pos.lastDir ∧ (finishLearn u d e g s).pos.j = s.pos.j
     ∧ (finishLearn u d e g s).pos.evaluated = s.pos.evaluated ∧ (finishLearn u d e g s).pos.gq = s.pos.gq
     ∧ (finishLearn u d e g s).pos.jg = s.pos.jg ∧ (finishLearn u d e g s).pos.usable = s.pos.usable
     ∧ (finishLearn u d e g s).pos.lastE = s.pos.lastE ∧ (finishLearn u d e g s).pos.lastSj = s.pos.lastSj
     ∧ (finishLearn u d e g s).pos.firstQuarter = s.pos.firstQuarter ∧ (finishLearn u d e g s).pos.abs = s.pos.abs := by
  unfold finishLearn; split <;> simp

@[simp] theorem completeCapture_frame (k : Int) (u : Bool) (s : State) :
    (completeCapture k u s).pins = s.pins ∧ (completeCapture k u s).straps = s.straps
     ∧ (completeCapture k u s).epoch = s.epoch ∧ (completeCapture k u s).enc = s.enc
     ∧ (completeCapture k u s).work = s.work ∧ (completeCapture k u s).coupling = s.coupling
     ∧ (completeCapture k u s).peers = s.peers ∧ (completeCapture k u s).sweep = s.sweep
     ∧ (completeCapture k u s).setup = s.setup ∧ (completeCapture k u s).selfCheck = s.selfCheck
     ∧ (completeCapture k u s).link = s.link ∧ (completeCapture k u s).restartPending = s.restartPending
     ∧ (completeCapture k u s).free = s.free ∧ (completeCapture k u s).pending = s.pending
     ∧ (completeCapture k u s).ret.record = s.ret.record ∧ (completeCapture k u s).ret.tracker = s.ret.tracker
     ∧ (completeCapture k u s).ret.stateLost = s.ret.stateLost
     ∧ (completeCapture k u s).ret.dwellMet = s.ret.dwellMet ∧ (completeCapture k u s).cal.valid = s.cal.valid
     ∧ (completeCapture k u s).store.writing = s.store.writing
     ∧ (completeCapture k u s).gate.rdyLevel = s.gate.rdyLevel
     ∧ (completeCapture k u s).gate.travelSide = s.gate.travelSide
     ∧ (completeCapture k u s).pos.established = s.pos.established
     ∧ (completeCapture k u s).pos.thetaLast = s.pos.thetaLast
     ∧ (completeCapture k u s).pos.deltaLast = s.pos.deltaLast
     ∧ (completeCapture k u s).pos.failedRun = s.pos.failedRun ∧ (completeCapture k u s).pos.s = s.pos.s
     ∧ (completeCapture k u s).pos.playKnown = s.pos.playKnown ∧ (completeCapture k u s).pos.acc = s.pos.acc
     ∧ (completeCapture k u s).pos.lastDir = s.pos.lastDir ∧ (completeCapture k u s).pos.j = s.pos.j
     ∧ (completeCapture k u s).pos.evaluated = s.pos.evaluated ∧ (completeCapture k u s).pos.gq = s.pos.gq
     ∧ (completeCapture k u s).pos.jg = s.pos.jg ∧ (completeCapture k u s).pos.usable = s.pos.usable
     ∧ (completeCapture k u s).pos.lastE = s.pos.lastE ∧ (completeCapture k u s).pos.lastSj = s.pos.lastSj
     ∧ (completeCapture k u s).pos.firstQuarter = s.pos.firstQuarter := by
  unfold completeCapture; dsimp only; repeat' split
  all_goals simp

@[simp] theorem judgeSample_frame (joint : Joint) (sj : Int) (u : Bool) (s : State) :
    (judgeSample joint sj u s).pins = s.pins ∧ (judgeSample joint sj u s).straps = s.straps
     ∧ (judgeSample joint sj u s).epoch = s.epoch ∧ (judgeSample joint sj u s).enc = s.enc
     ∧ (judgeSample joint sj u s).pos = s.pos ∧ (judgeSample joint sj u s).work = s.work
     ∧ (judgeSample joint sj u s).coupling = s.coupling ∧ (judgeSample joint sj u s).peers = s.peers
     ∧ (judgeSample joint sj u s).ret = s.ret ∧ (judgeSample joint sj u s).node = s.node
     ∧ (judgeSample joint sj u s).homing = s.homing ∧ (judgeSample joint sj u s).homingOp = s.homingOp
     ∧ (judgeSample joint sj u s).cal = s.cal ∧ (judgeSample joint sj u s).setup = s.setup
     ∧ (judgeSample joint sj u s).store = s.store ∧ (judgeSample joint sj u s).selfCheck = s.selfCheck
     ∧ (judgeSample joint sj u s).link = s.link ∧ (judgeSample joint sj u s).faults = s.faults
     ∧ (judgeSample joint sj u s).gate = s.gate ∧ (judgeSample joint sj u s).restartPending = s.restartPending
     ∧ (judgeSample joint sj u s).free = s.free ∧ (judgeSample joint sj u s).pending = s.pending := by
  unfold judgeSample; repeat' split
  all_goals simp

@[simp] theorem driftRaised_frame (s : State) :
    (driftRaised s).pins = s.pins ∧ (driftRaised s).straps = s.straps ∧ (driftRaised s).epoch = s.epoch
     ∧ (driftRaised s).enc = s.enc ∧ (driftRaised s).work = s.work ∧ (driftRaised s).coupling = s.coupling
     ∧ (driftRaised s).peers = s.peers ∧ (driftRaised s).ret = s.ret ∧ (driftRaised s).cal = s.cal
     ∧ (driftRaised s).setup = s.setup ∧ (driftRaised s).store = s.store ∧ (driftRaised s).selfCheck = s.selfCheck
     ∧ (driftRaised s).link = s.link ∧ (driftRaised s).restartPending = s.restartPending
     ∧ (driftRaised s).free = s.free ∧ (driftRaised s).pending = s.pending
     ∧ (driftRaised s).gate.rdyLevel = s.gate.rdyLevel ∧ (driftRaised s).gate.travelSide = s.gate.travelSide
     ∧ (driftRaised s).pos.established = s.pos.established ∧ (driftRaised s).pos.p = s.pos.p
     ∧ (driftRaised s).pos.thetaLast = s.pos.thetaLast ∧ (driftRaised s).pos.deltaLast = s.pos.deltaLast
     ∧ (driftRaised s).pos.failedRun = s.pos.failedRun ∧ (driftRaised s).pos.s = s.pos.s
     ∧ (driftRaised s).pos.playKnown = s.pos.playKnown ∧ (driftRaised s).pos.acc = s.pos.acc
     ∧ (driftRaised s).pos.lastDir = s.pos.lastDir ∧ (driftRaised s).pos.j = s.pos.j
     ∧ (driftRaised s).pos.evaluated = s.pos.evaluated ∧ (driftRaised s).pos.gq = s.pos.gq
     ∧ (driftRaised s).pos.jg = s.pos.jg ∧ (driftRaised s).pos.usable = s.pos.usable
     ∧ (driftRaised s).pos.lastE = s.pos.lastE ∧ (driftRaised s).pos.lastSj = s.pos.lastSj
     ∧ (driftRaised s).pos.firstQuarter = s.pos.firstQuarter := by
  simp [driftRaised]

@[simp] theorem driftRun3_frame (s : State) :
    (driftRun3 s).pins = s.pins ∧ (driftRun3 s).straps = s.straps ∧ (driftRun3 s).epoch = s.epoch
     ∧ (driftRun3 s).enc = s.enc ∧ (driftRun3 s).work = s.work ∧ (driftRun3 s).coupling = s.coupling
     ∧ (driftRun3 s).peers = s.peers ∧ (driftRun3 s).ret = s.ret ∧ (driftRun3 s).cal = s.cal
     ∧ (driftRun3 s).setup = s.setup ∧ (driftRun3 s).store = s.store ∧ (driftRun3 s).selfCheck = s.selfCheck
     ∧ (driftRun3 s).link = s.link ∧ (driftRun3 s).restartPending = s.restartPending ∧ (driftRun3 s).free = s.free
     ∧ (driftRun3 s).pending = s.pending ∧ (driftRun3 s).gate.rdyLevel = s.gate.rdyLevel
     ∧ (driftRun3 s).gate.travelSide = s.gate.travelSide ∧ (driftRun3 s).pos.established = s.pos.established
     ∧ (driftRun3 s).pos.p = s.pos.p ∧ (driftRun3 s).pos.thetaLast = s.pos.thetaLast
     ∧ (driftRun3 s).pos.deltaLast = s.pos.deltaLast ∧ (driftRun3 s).pos.failedRun = s.pos.failedRun
     ∧ (driftRun3 s).pos.s = s.pos.s ∧ (driftRun3 s).pos.playKnown = s.pos.playKnown
     ∧ (driftRun3 s).pos.acc = s.pos.acc ∧ (driftRun3 s).pos.lastDir = s.pos.lastDir ∧ (driftRun3 s).pos.j = s.pos.j
     ∧ (driftRun3 s).pos.evaluated = s.pos.evaluated ∧ (driftRun3 s).pos.gq = s.pos.gq
     ∧ (driftRun3 s).pos.jg = s.pos.jg ∧ (driftRun3 s).pos.usable = s.pos.usable
     ∧ (driftRun3 s).pos.lastE = s.pos.lastE ∧ (driftRun3 s).pos.lastSj = s.pos.lastSj
     ∧ (driftRun3 s).pos.firstQuarter = s.pos.firstQuarter := by
  unfold driftRun3; split <;> simp

@[simp] theorem driftCount_frame (d : Int) (s : State) :
    (driftCount d s).pins = s.pins ∧ (driftCount d s).straps = s.straps ∧ (driftCount d s).epoch = s.epoch
     ∧ (driftCount d s).enc = s.enc ∧ (driftCount d s).work = s.work ∧ (driftCount d s).coupling = s.coupling
     ∧ (driftCount d s).peers = s.peers ∧ (driftCount d s).ret = s.ret ∧ (driftCount d s).cal = s.cal
     ∧ (driftCount d s).setup = s.setup ∧ (driftCount d s).store = s.store ∧ (driftCount d s).selfCheck = s.selfCheck
     ∧ (driftCount d s).link = s.link ∧ (driftCount d s).restartPending = s.restartPending
     ∧ (driftCount d s).free = s.free ∧ (driftCount d s).pending = s.pending
     ∧ (driftCount d s).gate.rdyLevel = s.gate.rdyLevel ∧ (driftCount d s).gate.travelSide = s.gate.travelSide
     ∧ (driftCount d s).pos.established = s.pos.established ∧ (driftCount d s).pos.p = s.pos.p
     ∧ (driftCount d s).pos.thetaLast = s.pos.thetaLast ∧ (driftCount d s).pos.deltaLast = s.pos.deltaLast
     ∧ (driftCount d s).pos.failedRun = s.pos.failedRun ∧ (driftCount d s).pos.s = s.pos.s
     ∧ (driftCount d s).pos.playKnown = s.pos.playKnown ∧ (driftCount d s).pos.acc = s.pos.acc
     ∧ (driftCount d s).pos.lastDir = s.pos.lastDir ∧ (driftCount d s).pos.j = s.pos.j
     ∧ (driftCount d s).pos.evaluated = s.pos.evaluated ∧ (driftCount d s).pos.gq = s.pos.gq
     ∧ (driftCount d s).pos.jg = s.pos.jg ∧ (driftCount d s).pos.usable = s.pos.usable
     ∧ (driftCount d s).pos.lastE = s.pos.lastE ∧ (driftCount d s).pos.lastSj = s.pos.lastSj
     ∧ (driftCount d s).pos.firstQuarter = s.pos.firstQuarter := by
  unfold driftCount; split <;> simp

@[simp] theorem driftMonitor_frame (joint : Joint) (base : Int) (u : Bool) (s : State) :
    (driftMonitor joint base u s).pins = s.pins ∧ (driftMonitor joint base u s).straps = s.straps
     ∧ (driftMonitor joint base u s).epoch = s.epoch ∧ (driftMonitor joint base u s).enc = s.enc
     ∧ (driftMonitor joint base u s).work = s.work ∧ (driftMonitor joint base u s).coupling = s.coupling
     ∧ (driftMonitor joint base u s).peers = s.peers ∧ (driftMonitor joint base u s).ret = s.ret
     ∧ (driftMonitor joint base u s).cal = s.cal ∧ (driftMonitor joint base u s).setup = s.setup
     ∧ (driftMonitor joint base u s).store = s.store ∧ (driftMonitor joint base u s).selfCheck = s.selfCheck
     ∧ (driftMonitor joint base u s).link = s.link ∧ (driftMonitor joint base u s).restartPending = s.restartPending
     ∧ (driftMonitor joint base u s).free = s.free ∧ (driftMonitor joint base u s).pending = s.pending
     ∧ (driftMonitor joint base u s).gate.rdyLevel = s.gate.rdyLevel
     ∧ (driftMonitor joint base u s).gate.travelSide = s.gate.travelSide
     ∧ (driftMonitor joint base u s).pos.established = s.pos.established
     ∧ (driftMonitor joint base u s).pos.p = s.pos.p ∧ (driftMonitor joint base u s).pos.thetaLast = s.pos.thetaLast
     ∧ (driftMonitor joint base u s).pos.deltaLast = s.pos.deltaLast
     ∧ (driftMonitor joint base u s).pos.failedRun = s.pos.failedRun ∧ (driftMonitor joint base u s).pos.s = s.pos.s
     ∧ (driftMonitor joint base u s).pos.playKnown = s.pos.playKnown
     ∧ (driftMonitor joint base u s).pos.acc = s.pos.acc ∧ (driftMonitor joint base u s).pos.lastDir = s.pos.lastDir
     ∧ (driftMonitor joint base u s).pos.j = s.pos.j ∧ (driftMonitor joint base u s).pos.evaluated = s.pos.evaluated
     ∧ (driftMonitor joint base u s).pos.gq = s.pos.gq ∧ (driftMonitor joint base u s).pos.jg = s.pos.jg
     ∧ (driftMonitor joint base u s).pos.usable = s.pos.usable
     ∧ (driftMonitor joint base u s).pos.lastE = s.pos.lastE
     ∧ (driftMonitor joint base u s).pos.lastSj = s.pos.lastSj
     ∧ (driftMonitor joint base u s).pos.firstQuarter = s.pos.firstQuarter := by
  unfold driftMonitor; split <;> simp

@[simp] theorem evaluationCarries_frame (joint : Joint) (base sj : Int) (u : Bool) (s : State) :
    (evaluationCarries joint base sj u s).pins = s.pins ∧ (evaluationCarries joint base sj u s).straps = s.straps
     ∧ (evaluationCarries joint base sj u s).epoch = s.epoch ∧ (evaluationCarries joint base sj u s).enc = s.enc
     ∧ (evaluationCarries joint base sj u s).work = s.work
     ∧ (evaluationCarries joint base sj u s).coupling = s.coupling
     ∧ (evaluationCarries joint base sj u s).peers = s.peers ∧ (evaluationCarries joint base sj u s).setup = s.setup
     ∧ (evaluationCarries joint base sj u s).selfCheck = s.selfCheck
     ∧ (evaluationCarries joint base sj u s).link = s.link
     ∧ (evaluationCarries joint base sj u s).restartPending = s.restartPending
     ∧ (evaluationCarries joint base sj u s).free = s.free
     ∧ (evaluationCarries joint base sj u s).pending = s.pending
     ∧ (evaluationCarries joint base sj u s).ret.record = s.ret.record
     ∧ (evaluationCarries joint base sj u s).ret.tracker = s.ret.tracker
     ∧ (evaluationCarries joint base sj u s).ret.stateLost = s.ret.stateLost
     ∧ (evaluationCarries joint base sj u s).ret.dwellMet = s.ret.dwellMet
     ∧ (evaluationCarries joint base sj u s).cal.valid = s.cal.valid
     ∧ (evaluationCarries joint base sj u s).store.writing = s.store.writing
     ∧ (evaluationCarries joint base sj u s).gate.rdyLevel = s.gate.rdyLevel
     ∧ (evaluationCarries joint base sj u s).gate.travelSide = s.gate.travelSide
     ∧ (evaluationCarries joint base sj u s).pos.established = s.pos.established
     ∧ (evaluationCarries joint base sj u s).pos.thetaLast = s.pos.thetaLast
     ∧ (evaluationCarries joint base sj u s).pos.deltaLast = s.pos.deltaLast
     ∧ (evaluationCarries joint base sj u s).pos.failedRun = s.pos.failedRun
     ∧ (evaluationCarries joint base sj u s).pos.lastDir = s.pos.lastDir
     ∧ (evaluationCarries joint base sj u s).pos.j = s.pos.j
     ∧ (evaluationCarries joint base sj u s).pos.firstQuarter = s.pos.firstQuarter := by
  unfold evaluationCarries; repeat' split
  all_goals simp

@[simp] theorem evaluate_frame (joint : Joint) (e : Int) (s : State) :
    (evaluate joint e s).pins = s.pins ∧ (evaluate joint e s).straps = s.straps
     ∧ (evaluate joint e s).epoch = s.epoch ∧ (evaluate joint e s).enc = s.enc
     ∧ (evaluate joint e s).coupling = s.coupling ∧ (evaluate joint e s).peers = s.peers
     ∧ (evaluate joint e s).setup = s.setup ∧ (evaluate joint e s).selfCheck = s.selfCheck
     ∧ (evaluate joint e s).link = s.link ∧ (evaluate joint e s).restartPending = s.restartPending
     ∧ (evaluate joint e s).free = s.free ∧ (evaluate joint e s).pending = s.pending
     ∧ (evaluate joint e s).ret.record = s.ret.record ∧ (evaluate joint e s).ret.tracker = s.ret.tracker
     ∧ (evaluate joint e s).ret.stateLost = s.ret.stateLost ∧ (evaluate joint e s).ret.dwellMet = s.ret.dwellMet
     ∧ (evaluate joint e s).cal.valid = s.cal.valid ∧ (evaluate joint e s).store.writing = s.store.writing
     ∧ (evaluate joint e s).work.motor = s.work.motor ∧ (evaluate joint e s).work.coarse = s.work.coarse
     ∧ (evaluate joint e s).work.joint = s.work.joint ∧ (evaluate joint e s).gate.rdyLevel = s.gate.rdyLevel
     ∧ (evaluate joint e s).gate.travelSide = s.gate.travelSide
     ∧ (evaluate joint e s).pos.established = s.pos.established
     ∧ (evaluate joint e s).pos.thetaLast = s.pos.thetaLast ∧ (evaluate joint e s).pos.deltaLast = s.pos.deltaLast
     ∧ (evaluate joint e s).pos.failedRun = s.pos.failedRun ∧ (evaluate joint e s).pos.lastDir = s.pos.lastDir
     ∧ (evaluate joint e s).pos.j = s.pos.j ∧ (evaluate joint e s).pos.firstQuarter = s.pos.firstQuarter := by
  have h : ∀ c u k e sj (x : PositionUnit), (coarseResult c u k e sj x).established = x.established ∧ (coarseResult c u k e sj x).thetaLast = x.thetaLast ∧
      (coarseResult c u k e sj x).deltaLast = x.deltaLast ∧ (coarseResult c u k e sj x).failedRun = x.failedRun ∧
      (coarseResult c u k e sj x).lastDir = x.lastDir ∧ (coarseResult c u k e sj x).j = x.j ∧
      (coarseResult c u k e sj x).firstQuarter = x.firstQuarter := by
    intro c u k e sj x; unfold coarseResult; split <;> simp
  simp [evaluate, h]

@[simp] theorem evaluateJoint_frame (joint : Joint) (s : State) :
    (evaluateJoint joint s).pins = s.pins ∧ (evaluateJoint joint s).straps = s.straps
     ∧ (evaluateJoint joint s).epoch = s.epoch ∧ (evaluateJoint joint s).enc = s.enc
     ∧ (evaluateJoint joint s).coupling = s.coupling ∧ (evaluateJoint joint s).peers = s.peers
     ∧ (evaluateJoint joint s).setup = s.setup ∧ (evaluateJoint joint s).selfCheck = s.selfCheck
     ∧ (evaluateJoint joint s).link = s.link ∧ (evaluateJoint joint s).restartPending = s.restartPending
     ∧ (evaluateJoint joint s).pending = s.pending ∧ (evaluateJoint joint s).ret.record = s.ret.record
     ∧ (evaluateJoint joint s).ret.tracker = s.ret.tracker ∧ (evaluateJoint joint s).ret.stateLost = s.ret.stateLost
     ∧ (evaluateJoint joint s).ret.dwellMet = s.ret.dwellMet ∧ (evaluateJoint joint s).cal.valid = s.cal.valid
     ∧ (evaluateJoint joint s).store.writing = s.store.writing ∧ (evaluateJoint joint s).work.motor = s.work.motor
     ∧ (evaluateJoint joint s).work.coarse = s.work.coarse ∧ (evaluateJoint joint s).work.joint = s.work.joint
     ∧ (evaluateJoint joint s).gate.rdyLevel = s.gate.rdyLevel
     ∧ (evaluateJoint joint s).gate.travelSide = s.gate.travelSide
     ∧ (evaluateJoint joint s).pos.established = s.pos.established
     ∧ (evaluateJoint joint s).pos.thetaLast = s.pos.thetaLast
     ∧ (evaluateJoint joint s).pos.deltaLast = s.pos.deltaLast
     ∧ (evaluateJoint joint s).pos.failedRun = s.pos.failedRun ∧ (evaluateJoint joint s).pos.lastDir = s.pos.lastDir
     ∧ (evaluateJoint joint s).pos.j = s.pos.j ∧ (evaluateJoint joint s).pos.firstQuarter = s.pos.firstQuarter := by
  unfold evaluateJoint; split <;> simp

@[simp] theorem coarseEvaluate_frame (s : State) :
    (coarseEvaluate s).pins = s.pins ∧ (coarseEvaluate s).straps = s.straps ∧ (coarseEvaluate s).epoch = s.epoch
     ∧ (coarseEvaluate s).enc = s.enc ∧ (coarseEvaluate s).coupling = s.coupling ∧ (coarseEvaluate s).peers = s.peers
     ∧ (coarseEvaluate s).setup = s.setup ∧ (coarseEvaluate s).selfCheck = s.selfCheck
     ∧ (coarseEvaluate s).link = s.link ∧ (coarseEvaluate s).restartPending = s.restartPending
     ∧ (coarseEvaluate s).pending = s.pending ∧ (coarseEvaluate s).ret.record = s.ret.record
     ∧ (coarseEvaluate s).ret.tracker = s.ret.tracker ∧ (coarseEvaluate s).ret.stateLost = s.ret.stateLost
     ∧ (coarseEvaluate s).ret.dwellMet = s.ret.dwellMet ∧ (coarseEvaluate s).cal.valid = s.cal.valid
     ∧ (coarseEvaluate s).store.writing = s.store.writing ∧ (coarseEvaluate s).work.motor = s.work.motor
     ∧ (coarseEvaluate s).work.coarse = s.work.coarse ∧ (coarseEvaluate s).gate.rdyLevel = s.gate.rdyLevel
     ∧ (coarseEvaluate s).gate.travelSide = s.gate.travelSide
     ∧ (coarseEvaluate s).pos.established = s.pos.established ∧ (coarseEvaluate s).pos.thetaLast = s.pos.thetaLast
     ∧ (coarseEvaluate s).pos.deltaLast = s.pos.deltaLast ∧ (coarseEvaluate s).pos.failedRun = s.pos.failedRun
     ∧ (coarseEvaluate s).pos.lastDir = s.pos.lastDir ∧ (coarseEvaluate s).pos.j = s.pos.j
     ∧ (coarseEvaluate s).pos.firstQuarter = s.pos.firstQuarter := by
  unfold coarseEvaluate; repeat' split
  all_goals simp

@[simp] theorem openCoupling_frame (s : State) :
    (openCoupling s).pins = s.pins ∧ (openCoupling s).straps = s.straps ∧ (openCoupling s).epoch = s.epoch
     ∧ (openCoupling s).enc = s.enc ∧ (openCoupling s).pos = s.pos ∧ (openCoupling s).work = s.work
     ∧ (openCoupling s).peers = s.peers ∧ (openCoupling s).ret = s.ret ∧ (openCoupling s).node = s.node
     ∧ (openCoupling s).homing = s.homing ∧ (openCoupling s).homingOp = s.homingOp ∧ (openCoupling s).sweep = s.sweep
     ∧ (openCoupling s).cal = s.cal ∧ (openCoupling s).setup = s.setup ∧ (openCoupling s).store = s.store
     ∧ (openCoupling s).selfCheck = s.selfCheck ∧ (openCoupling s).link = s.link ∧ (openCoupling s).faults = s.faults
     ∧ (openCoupling s).gate = s.gate ∧ (openCoupling s).restartPending = s.restartPending
     ∧ (openCoupling s).free = s.free ∧ (openCoupling s).pending = s.pending := by
  unfold openCoupling; split <;> simp

@[simp] theorem referenceOnMatch_frame (a : Bool) (s : State) :
    (referenceOnMatch a s).pins = s.pins ∧ (referenceOnMatch a s).straps = s.straps
     ∧ (referenceOnMatch a s).epoch = s.epoch ∧ (referenceOnMatch a s).enc = s.enc
     ∧ (referenceOnMatch a s).work = s.work ∧ (referenceOnMatch a s).coupling = s.coupling
     ∧ (referenceOnMatch a s).peers = s.peers ∧ (referenceOnMatch a s).ret = s.ret
     ∧ (referenceOnMatch a s).cal = s.cal ∧ (referenceOnMatch a s).setup = s.setup
     ∧ (referenceOnMatch a s).store = s.store ∧ (referenceOnMatch a s).selfCheck = s.selfCheck
     ∧ (referenceOnMatch a s).link = s.link ∧ (referenceOnMatch a s).faults = s.faults
     ∧ (referenceOnMatch a s).restartPending = s.restartPending ∧ (referenceOnMatch a s).free = s.free
     ∧ (referenceOnMatch a s).pending = s.pending ∧ (referenceOnMatch a s).gate.rdyLevel = s.gate.rdyLevel
     ∧ (referenceOnMatch a s).gate.travelSide = s.gate.travelSide
     ∧ (referenceOnMatch a s).pos.established = s.pos.established ∧ (referenceOnMatch a s).pos.p = s.pos.p
     ∧ (referenceOnMatch a s).pos.thetaLast = s.pos.thetaLast
     ∧ (referenceOnMatch a s).pos.deltaLast = s.pos.deltaLast
     ∧ (referenceOnMatch a s).pos.failedRun = s.pos.failedRun ∧ (referenceOnMatch a s).pos.s = s.pos.s
     ∧ (referenceOnMatch a s).pos.playKnown = s.pos.playKnown ∧ (referenceOnMatch a s).pos.acc = s.pos.acc
     ∧ (referenceOnMatch a s).pos.lastDir = s.pos.lastDir ∧ (referenceOnMatch a s).pos.j = s.pos.j
     ∧ (referenceOnMatch a s).pos.evaluated = s.pos.evaluated ∧ (referenceOnMatch a s).pos.gq = s.pos.gq
     ∧ (referenceOnMatch a s).pos.jg = s.pos.jg ∧ (referenceOnMatch a s).pos.usable = s.pos.usable
     ∧ (referenceOnMatch a s).pos.lastE = s.pos.lastE ∧ (referenceOnMatch a s).pos.lastSj = s.pos.lastSj
     ∧ (referenceOnMatch a s).pos.firstQuarter = s.pos.firstQuarter ∧ (referenceOnMatch a s).pos.abs = s.pos.abs := by
  unfold referenceOnMatch; repeat' split
  all_goals simp

@[simp] theorem makeMatch_frame (f : SourceFrame) (s : State) :
    (makeMatch f s).pins = s.pins ∧ (makeMatch f s).straps = s.straps ∧ (makeMatch f s).epoch = s.epoch
     ∧ (makeMatch f s).enc = s.enc ∧ (makeMatch f s).peers = s.peers ∧ (makeMatch f s).setup = s.setup
     ∧ (makeMatch f s).selfCheck = s.selfCheck ∧ (makeMatch f s).restartPending = s.restartPending
     ∧ (makeMatch f s).pending = s.pending ∧ (makeMatch f s).ret.record = s.ret.record
     ∧ (makeMatch f s).ret.tracker = s.ret.tracker ∧ (makeMatch f s).ret.stateLost = s.ret.stateLost
     ∧ (makeMatch f s).ret.dwellMet = s.ret.dwellMet ∧ (makeMatch f s).cal.valid = s.cal.valid
     ∧ (makeMatch f s).store.writing = s.store.writing ∧ (makeMatch f s).work.motor = s.work.motor
     ∧ (makeMatch f s).work.coarse = s.work.coarse ∧ (makeMatch f s).pos.established = s.pos.established
     ∧ (makeMatch f s).pos.thetaLast = s.pos.thetaLast ∧ (makeMatch f s).pos.deltaLast = s.pos.deltaLast
     ∧ (makeMatch f s).pos.failedRun = s.pos.failedRun ∧ (makeMatch f s).pos.lastDir = s.pos.lastDir
     ∧ (makeMatch f s).pos.firstQuarter = s.pos.firstQuarter ∧ (makeMatch f s).link.watching = s.link.watching
     ∧ (makeMatch f s).link.joined = s.link.joined ∧ (makeMatch f s).link.awaitIdle = s.link.awaitIdle
     ∧ (makeMatch f s).link.health = s.link.health ∧ (makeMatch f s).link.intact = s.link.intact
     ∧ (makeMatch f s).link.tx = s.link.tx ∧ (makeMatch f s).link.replies = s.link.replies
     ∧ (makeMatch f s).link.requests = s.link.requests ∧ (makeMatch f s).link.recessiveRun = s.link.recessiveRun
     ∧ (makeMatch f s).link.dominantRun = s.link.dominantRun ∧ (makeMatch f s).link.stuck = s.link.stuck
     ∧ (makeMatch f s).link.idlePeriods = s.link.idlePeriods
     ∧ (makeMatch f s).link.requestOverrun = s.link.requestOverrun
     ∧ (makeMatch f s).link.stuckCount = s.link.stuckCount ∧ (makeMatch f s).gate.rdyLevel = s.gate.rdyLevel := by
  simp [makeMatch]

@[simp] theorem tryMatch_frame (s : State) :
    (tryMatch s).pins = s.pins ∧ (tryMatch s).straps = s.straps ∧ (tryMatch s).epoch = s.epoch
     ∧ (tryMatch s).enc = s.enc ∧ (tryMatch s).peers = s.peers ∧ (tryMatch s).setup = s.setup
     ∧ (tryMatch s).selfCheck = s.selfCheck ∧ (tryMatch s).restartPending = s.restartPending
     ∧ (tryMatch s).pending = s.pending ∧ (tryMatch s).ret.record = s.ret.record
     ∧ (tryMatch s).ret.tracker = s.ret.tracker ∧ (tryMatch s).ret.stateLost = s.ret.stateLost
     ∧ (tryMatch s).ret.dwellMet = s.ret.dwellMet ∧ (tryMatch s).cal.valid = s.cal.valid
     ∧ (tryMatch s).store.writing = s.store.writing ∧ (tryMatch s).work.motor = s.work.motor
     ∧ (tryMatch s).work.coarse = s.work.coarse ∧ (tryMatch s).pos.established = s.pos.established
     ∧ (tryMatch s).pos.thetaLast = s.pos.thetaLast ∧ (tryMatch s).pos.deltaLast = s.pos.deltaLast
     ∧ (tryMatch s).pos.failedRun = s.pos.failedRun ∧ (tryMatch s).pos.lastDir = s.pos.lastDir
     ∧ (tryMatch s).pos.firstQuarter = s.pos.firstQuarter ∧ (tryMatch s).link.watching = s.link.watching
     ∧ (tryMatch s).link.joined = s.link.joined ∧ (tryMatch s).link.awaitIdle = s.link.awaitIdle
     ∧ (tryMatch s).link.health = s.link.health ∧ (tryMatch s).link.intact = s.link.intact
     ∧ (tryMatch s).link.tx = s.link.tx ∧ (tryMatch s).link.replies = s.link.replies
     ∧ (tryMatch s).link.requests = s.link.requests ∧ (tryMatch s).link.recessiveRun = s.link.recessiveRun
     ∧ (tryMatch s).link.dominantRun = s.link.dominantRun ∧ (tryMatch s).link.stuck = s.link.stuck
     ∧ (tryMatch s).link.idlePeriods = s.link.idlePeriods ∧ (tryMatch s).link.requestOverrun = s.link.requestOverrun
     ∧ (tryMatch s).link.stuckCount = s.link.stuckCount ∧ (tryMatch s).gate.rdyLevel = s.gate.rdyLevel := by
  unfold tryMatch; repeat' split
  all_goals simp

@[simp] theorem loseCoupling_frame (s : State) :
    (loseCoupling s).pins = s.pins ∧ (loseCoupling s).straps = s.straps ∧ (loseCoupling s).epoch = s.epoch
     ∧ (loseCoupling s).enc = s.enc ∧ (loseCoupling s).work = s.work ∧ (loseCoupling s).coupling = s.coupling
     ∧ (loseCoupling s).peers = s.peers ∧ (loseCoupling s).ret = s.ret ∧ (loseCoupling s).cal = s.cal
     ∧ (loseCoupling s).setup = s.setup ∧ (loseCoupling s).store = s.store ∧ (loseCoupling s).selfCheck = s.selfCheck
     ∧ (loseCoupling s).link = s.link ∧ (loseCoupling s).restartPending = s.restartPending
     ∧ (loseCoupling s).free = s.free ∧ (loseCoupling s).pending = s.pending
     ∧ (loseCoupling s).gate.rdyLevel = s.gate.rdyLevel ∧ (loseCoupling s).gate.travelSide = s.gate.travelSide
     ∧ (loseCoupling s).pos.established = s.pos.established ∧ (loseCoupling s).pos.p = s.pos.p
     ∧ (loseCoupling s).pos.thetaLast = s.pos.thetaLast ∧ (loseCoupling s).pos.deltaLast = s.pos.deltaLast
     ∧ (loseCoupling s).pos.failedRun = s.pos.failedRun ∧ (loseCoupling s).pos.s = s.pos.s
     ∧ (loseCoupling s).pos.playKnown = s.pos.playKnown ∧ (loseCoupling s).pos.acc = s.pos.acc
     ∧ (loseCoupling s).pos.lastDir = s.pos.lastDir ∧ (loseCoupling s).pos.j = s.pos.j
     ∧ (loseCoupling s).pos.evaluated = s.pos.evaluated ∧ (loseCoupling s).pos.gq = s.pos.gq
     ∧ (loseCoupling s).pos.jg = s.pos.jg ∧ (loseCoupling s).pos.usable = s.pos.usable
     ∧ (loseCoupling s).pos.lastE = s.pos.lastE ∧ (loseCoupling s).pos.lastSj = s.pos.lastSj
     ∧ (loseCoupling s).pos.firstQuarter = s.pos.firstQuarter := by
  simp [loseCoupling]

@[simp] theorem judgeMissCount_frame (s : State) :
    (judgeMissCount s).pins = s.pins ∧ (judgeMissCount s).straps = s.straps ∧ (judgeMissCount s).epoch = s.epoch
     ∧ (judgeMissCount s).enc = s.enc ∧ (judgeMissCount s).work = s.work ∧ (judgeMissCount s).coupling = s.coupling
     ∧ (judgeMissCount s).peers = s.peers ∧ (judgeMissCount s).ret = s.ret ∧ (judgeMissCount s).cal = s.cal
     ∧ (judgeMissCount s).setup = s.setup ∧ (judgeMissCount s).store = s.store
     ∧ (judgeMissCount s).selfCheck = s.selfCheck ∧ (judgeMissCount s).link = s.link
     ∧ (judgeMissCount s).restartPending = s.restartPending ∧ (judgeMissCount s).free = s.free
     ∧ (judgeMissCount s).pending = s.pending ∧ (judgeMissCount s).gate.rdyLevel = s.gate.rdyLevel
     ∧ (judgeMissCount s).gate.travelSide = s.gate.travelSide
     ∧ (judgeMissCount s).pos.established = s.pos.established ∧ (judgeMissCount s).pos.p = s.pos.p
     ∧ (judgeMissCount s).pos.thetaLast = s.pos.thetaLast ∧ (judgeMissCount s).pos.deltaLast = s.pos.deltaLast
     ∧ (judgeMissCount s).pos.failedRun = s.pos.failedRun ∧ (judgeMissCount s).pos.s = s.pos.s
     ∧ (judgeMissCount s).pos.playKnown = s.pos.playKnown ∧ (judgeMissCount s).pos.acc = s.pos.acc
     ∧ (judgeMissCount s).pos.lastDir = s.pos.lastDir ∧ (judgeMissCount s).pos.j = s.pos.j
     ∧ (judgeMissCount s).pos.evaluated = s.pos.evaluated ∧ (judgeMissCount s).pos.gq = s.pos.gq
     ∧ (judgeMissCount s).pos.jg = s.pos.jg ∧ (judgeMissCount s).pos.usable = s.pos.usable
     ∧ (judgeMissCount s).pos.lastE = s.pos.lastE ∧ (judgeMissCount s).pos.lastSj = s.pos.lastSj
     ∧ (judgeMissCount s).pos.firstQuarter = s.pos.firstQuarter := by
  unfold judgeMissCount; split <;> simp

@[simp] theorem missCapture_frame (s : State) :
    (missCapture s).pins = s.pins ∧ (missCapture s).straps = s.straps ∧ (missCapture s).epoch = s.epoch
     ∧ (missCapture s).enc = s.enc ∧ (missCapture s).work = s.work ∧ (missCapture s).coupling = s.coupling
     ∧ (missCapture s).peers = s.peers ∧ (missCapture s).ret = s.ret ∧ (missCapture s).sweep = s.sweep
     ∧ (missCapture s).cal = s.cal ∧ (missCapture s).setup = s.setup ∧ (missCapture s).store = s.store
     ∧ (missCapture s).selfCheck = s.selfCheck ∧ (missCapture s).link = s.link ∧ (missCapture s).faults = s.faults
     ∧ (missCapture s).restartPending = s.restartPending ∧ (missCapture s).free = s.free
     ∧ (missCapture s).pending = s.pending ∧ (missCapture s).gate.rdyLevel = s.gate.rdyLevel
     ∧ (missCapture s).gate.travelSide = s.gate.travelSide ∧ (missCapture s).pos.established = s.pos.established
     ∧ (missCapture s).pos.p = s.pos.p ∧ (missCapture s).pos.thetaLast = s.pos.thetaLast
     ∧ (missCapture s).pos.deltaLast = s.pos.deltaLast ∧ (missCapture s).pos.failedRun = s.pos.failedRun
     ∧ (missCapture s).pos.s = s.pos.s ∧ (missCapture s).pos.playKnown = s.pos.playKnown
     ∧ (missCapture s).pos.acc = s.pos.acc ∧ (missCapture s).pos.lastDir = s.pos.lastDir
     ∧ (missCapture s).pos.j = s.pos.j ∧ (missCapture s).pos.evaluated = s.pos.evaluated
     ∧ (missCapture s).pos.gq = s.pos.gq ∧ (missCapture s).pos.jg = s.pos.jg
     ∧ (missCapture s).pos.usable = s.pos.usable ∧ (missCapture s).pos.lastE = s.pos.lastE
     ∧ (missCapture s).pos.lastSj = s.pos.lastSj ∧ (missCapture s).pos.firstQuarter = s.pos.firstQuarter
     ∧ (missCapture s).pos.abs = s.pos.abs := by
  unfold missCapture; split <;> simp

@[simp] theorem countMiss_frame (s : State) :
    (countMiss s).pins = s.pins ∧ (countMiss s).straps = s.straps ∧ (countMiss s).epoch = s.epoch
     ∧ (countMiss s).enc = s.enc ∧ (countMiss s).work = s.work ∧ (countMiss s).peers = s.peers
     ∧ (countMiss s).ret = s.ret ∧ (countMiss s).cal = s.cal ∧ (countMiss s).setup = s.setup
     ∧ (countMiss s).store = s.store ∧ (countMiss s).selfCheck = s.selfCheck ∧ (countMiss s).link = s.link
     ∧ (countMiss s).restartPending = s.restartPending ∧ (countMiss s).free = s.free
     ∧ (countMiss s).pending = s.pending ∧ (countMiss s).gate.rdyLevel = s.gate.rdyLevel
     ∧ (countMiss s).gate.travelSide = s.gate.travelSide ∧ (countMiss s).pos.established = s.pos.established
     ∧ (countMiss s).pos.p = s.pos.p ∧ (countMiss s).pos.thetaLast = s.pos.thetaLast
     ∧ (countMiss s).pos.deltaLast = s.pos.deltaLast ∧ (countMiss s).pos.failedRun = s.pos.failedRun
     ∧ (countMiss s).pos.s = s.pos.s ∧ (countMiss s).pos.playKnown = s.pos.playKnown
     ∧ (countMiss s).pos.acc = s.pos.acc ∧ (countMiss s).pos.lastDir = s.pos.lastDir ∧ (countMiss s).pos.j = s.pos.j
     ∧ (countMiss s).pos.evaluated = s.pos.evaluated ∧ (countMiss s).pos.gq = s.pos.gq
     ∧ (countMiss s).pos.jg = s.pos.jg ∧ (countMiss s).pos.usable = s.pos.usable
     ∧ (countMiss s).pos.lastE = s.pos.lastE ∧ (countMiss s).pos.lastSj = s.pos.lastSj
     ∧ (countMiss s).pos.firstQuarter = s.pos.firstQuarter := by
  simp [countMiss]

@[simp] theorem closeCoupling_frame (s : State) :
    (closeCoupling s).pins = s.pins ∧ (closeCoupling s).straps = s.straps ∧ (closeCoupling s).epoch = s.epoch
     ∧ (closeCoupling s).enc = s.enc ∧ (closeCoupling s).work = s.work ∧ (closeCoupling s).peers = s.peers
     ∧ (closeCoupling s).ret = s.ret ∧ (closeCoupling s).cal = s.cal ∧ (closeCoupling s).setup = s.setup
     ∧ (closeCoupling s).store = s.store ∧ (closeCoupling s).selfCheck = s.selfCheck
     ∧ (closeCoupling s).link = s.link ∧ (closeCoupling s).restartPending = s.restartPending
     ∧ (closeCoupling s).free = s.free ∧ (closeCoupling s).pending = s.pending
     ∧ (closeCoupling s).gate.rdyLevel = s.gate.rdyLevel ∧ (closeCoupling s).gate.travelSide = s.gate.travelSide
     ∧ (closeCoupling s).pos.established = s.pos.established ∧ (closeCoupling s).pos.p = s.pos.p
     ∧ (closeCoupling s).pos.thetaLast = s.pos.thetaLast ∧ (closeCoupling s).pos.deltaLast = s.pos.deltaLast
     ∧ (closeCoupling s).pos.failedRun = s.pos.failedRun ∧ (closeCoupling s).pos.s = s.pos.s
     ∧ (closeCoupling s).pos.playKnown = s.pos.playKnown ∧ (closeCoupling s).pos.acc = s.pos.acc
     ∧ (closeCoupling s).pos.lastDir = s.pos.lastDir ∧ (closeCoupling s).pos.j = s.pos.j
     ∧ (closeCoupling s).pos.evaluated = s.pos.evaluated ∧ (closeCoupling s).pos.gq = s.pos.gq
     ∧ (closeCoupling s).pos.jg = s.pos.jg ∧ (closeCoupling s).pos.usable = s.pos.usable
     ∧ (closeCoupling s).pos.lastE = s.pos.lastE ∧ (closeCoupling s).pos.lastSj = s.pos.lastSj
     ∧ (closeCoupling s).pos.firstQuarter = s.pos.firstQuarter := by
  unfold closeCoupling; repeat' split
  all_goals simp

@[simp] theorem couplingLostOp_frame (s : State) :
    (couplingLostOp s).pins = s.pins ∧ (couplingLostOp s).straps = s.straps ∧ (couplingLostOp s).epoch = s.epoch
     ∧ (couplingLostOp s).enc = s.enc ∧ (couplingLostOp s).work = s.work ∧ (couplingLostOp s).coupling = s.coupling
     ∧ (couplingLostOp s).peers = s.peers ∧ (couplingLostOp s).ret = s.ret ∧ (couplingLostOp s).cal = s.cal
     ∧ (couplingLostOp s).setup = s.setup ∧ (couplingLostOp s).store = s.store
     ∧ (couplingLostOp s).selfCheck = s.selfCheck ∧ (couplingLostOp s).link = s.link
     ∧ (couplingLostOp s).restartPending = s.restartPending ∧ (couplingLostOp s).free = s.free
     ∧ (couplingLostOp s).pending = s.pending ∧ (couplingLostOp s).gate.rdyLevel = s.gate.rdyLevel
     ∧ (couplingLostOp s).gate.travelSide = s.gate.travelSide
     ∧ (couplingLostOp s).pos.established = s.pos.established ∧ (couplingLostOp s).pos.p = s.pos.p
     ∧ (couplingLostOp s).pos.thetaLast = s.pos.thetaLast ∧ (couplingLostOp s).pos.deltaLast = s.pos.deltaLast
     ∧ (couplingLostOp s).pos.failedRun = s.pos.failedRun ∧ (couplingLostOp s).pos.s = s.pos.s
     ∧ (couplingLostOp s).pos.playKnown = s.pos.playKnown ∧ (couplingLostOp s).pos.acc = s.pos.acc
     ∧ (couplingLostOp s).pos.lastDir = s.pos.lastDir ∧ (couplingLostOp s).pos.j = s.pos.j
     ∧ (couplingLostOp s).pos.evaluated = s.pos.evaluated ∧ (couplingLostOp s).pos.gq = s.pos.gq
     ∧ (couplingLostOp s).pos.jg = s.pos.jg ∧ (couplingLostOp s).pos.usable = s.pos.usable
     ∧ (couplingLostOp s).pos.lastE = s.pos.lastE ∧ (couplingLostOp s).pos.lastSj = s.pos.lastSj
     ∧ (couplingLostOp s).pos.firstQuarter = s.pos.firstQuarter := by
  unfold couplingLostOp; split <;> simp

@[simp] theorem absentNotices_frame (a : Address) (s : State) :
    (absentNotices a s).pins = s.pins ∧ (absentNotices a s).straps = s.straps ∧ (absentNotices a s).epoch = s.epoch
     ∧ (absentNotices a s).enc = s.enc ∧ (absentNotices a s).work = s.work
     ∧ (absentNotices a s).coupling = s.coupling ∧ (absentNotices a s).peers = s.peers
     ∧ (absentNotices a s).ret = s.ret ∧ (absentNotices a s).cal = s.cal ∧ (absentNotices a s).setup = s.setup
     ∧ (absentNotices a s).store = s.store ∧ (absentNotices a s).selfCheck = s.selfCheck
     ∧ (absentNotices a s).link = s.link ∧ (absentNotices a s).restartPending = s.restartPending
     ∧ (absentNotices a s).pending = s.pending ∧ (absentNotices a s).gate.rdyLevel = s.gate.rdyLevel
     ∧ (absentNotices a s).gate.travelSide = s.gate.travelSide
     ∧ (absentNotices a s).pos.established = s.pos.established ∧ (absentNotices a s).pos.p = s.pos.p
     ∧ (absentNotices a s).pos.thetaLast = s.pos.thetaLast ∧ (absentNotices a s).pos.deltaLast = s.pos.deltaLast
     ∧ (absentNotices a s).pos.failedRun = s.pos.failedRun ∧ (absentNotices a s).pos.s = s.pos.s
     ∧ (absentNotices a s).pos.playKnown = s.pos.playKnown ∧ (absentNotices a s).pos.acc = s.pos.acc
     ∧ (absentNotices a s).pos.lastDir = s.pos.lastDir ∧ (absentNotices a s).pos.j = s.pos.j
     ∧ (absentNotices a s).pos.evaluated = s.pos.evaluated ∧ (absentNotices a s).pos.gq = s.pos.gq
     ∧ (absentNotices a s).pos.jg = s.pos.jg ∧ (absentNotices a s).pos.usable = s.pos.usable
     ∧ (absentNotices a s).pos.lastE = s.pos.lastE ∧ (absentNotices a s).pos.lastSj = s.pos.lastSj
     ∧ (absentNotices a s).pos.firstQuarter = s.pos.firstQuarter := by
  unfold absentNotices; dsimp only; split <;> simp

@[simp] theorem markAbsent_frame (a : Address) (s : State) :
    (markAbsent a s).pins = s.pins ∧ (markAbsent a s).straps = s.straps ∧ (markAbsent a s).epoch = s.epoch
     ∧ (markAbsent a s).enc = s.enc ∧ (markAbsent a s).work = s.work ∧ (markAbsent a s).coupling = s.coupling
     ∧ (markAbsent a s).ret = s.ret ∧ (markAbsent a s).cal = s.cal ∧ (markAbsent a s).setup = s.setup
     ∧ (markAbsent a s).store = s.store ∧ (markAbsent a s).selfCheck = s.selfCheck ∧ (markAbsent a s).link = s.link
     ∧ (markAbsent a s).restartPending = s.restartPending ∧ (markAbsent a s).pending = s.pending
     ∧ (markAbsent a s).gate.rdyLevel = s.gate.rdyLevel ∧ (markAbsent a s).gate.travelSide = s.gate.travelSide
     ∧ (markAbsent a s).pos.established = s.pos.established ∧ (markAbsent a s).pos.p = s.pos.p
     ∧ (markAbsent a s).pos.thetaLast = s.pos.thetaLast ∧ (markAbsent a s).pos.deltaLast = s.pos.deltaLast
     ∧ (markAbsent a s).pos.failedRun = s.pos.failedRun ∧ (markAbsent a s).pos.s = s.pos.s
     ∧ (markAbsent a s).pos.playKnown = s.pos.playKnown ∧ (markAbsent a s).pos.acc = s.pos.acc
     ∧ (markAbsent a s).pos.lastDir = s.pos.lastDir ∧ (markAbsent a s).pos.j = s.pos.j
     ∧ (markAbsent a s).pos.evaluated = s.pos.evaluated ∧ (markAbsent a s).pos.gq = s.pos.gq
     ∧ (markAbsent a s).pos.jg = s.pos.jg ∧ (markAbsent a s).pos.usable = s.pos.usable
     ∧ (markAbsent a s).pos.lastE = s.pos.lastE ∧ (markAbsent a s).pos.lastSj = s.pos.lastSj
     ∧ (markAbsent a s).pos.firstQuarter = s.pos.firstQuarter := by
  unfold markAbsent; dsimp only; split <;> simp

@[simp] theorem peerAbsentOp_frame (a : Address) (s : State) :
    (peerAbsentOp a s).pins = s.pins ∧ (peerAbsentOp a s).straps = s.straps ∧ (peerAbsentOp a s).epoch = s.epoch
     ∧ (peerAbsentOp a s).enc = s.enc ∧ (peerAbsentOp a s).work = s.work ∧ (peerAbsentOp a s).coupling = s.coupling
     ∧ (peerAbsentOp a s).ret = s.ret ∧ (peerAbsentOp a s).cal = s.cal ∧ (peerAbsentOp a s).setup = s.setup
     ∧ (peerAbsentOp a s).store = s.store ∧ (peerAbsentOp a s).selfCheck = s.selfCheck
     ∧ (peerAbsentOp a s).link = s.link ∧ (peerAbsentOp a s).restartPending = s.restartPending
     ∧ (peerAbsentOp a s).pending = s.pending ∧ (peerAbsentOp a s).gate.rdyLevel = s.gate.rdyLevel
     ∧ (peerAbsentOp a s).gate.travelSide = s.gate.travelSide
     ∧ (peerAbsentOp a s).pos.established = s.pos.established ∧ (peerAbsentOp a s).pos.p = s.pos.p
     ∧ (peerAbsentOp a s).pos.thetaLast = s.pos.thetaLast ∧ (peerAbsentOp a s).pos.deltaLast = s.pos.deltaLast
     ∧ (peerAbsentOp a s).pos.failedRun = s.pos.failedRun ∧ (peerAbsentOp a s).pos.s = s.pos.s
     ∧ (peerAbsentOp a s).pos.playKnown = s.pos.playKnown ∧ (peerAbsentOp a s).pos.acc = s.pos.acc
     ∧ (peerAbsentOp a s).pos.lastDir = s.pos.lastDir ∧ (peerAbsentOp a s).pos.j = s.pos.j
     ∧ (peerAbsentOp a s).pos.evaluated = s.pos.evaluated ∧ (peerAbsentOp a s).pos.gq = s.pos.gq
     ∧ (peerAbsentOp a s).pos.jg = s.pos.jg ∧ (peerAbsentOp a s).pos.usable = s.pos.usable
     ∧ (peerAbsentOp a s).pos.lastE = s.pos.lastE ∧ (peerAbsentOp a s).pos.lastSj = s.pos.lastSj
     ∧ (peerAbsentOp a s).pos.firstQuarter = s.pos.firstQuarter := by
  unfold peerAbsentOp; split <;> simp

@[simp] theorem absentCleared_frame (s0 : State) (s : State) :
    (absentCleared s0 s).pins = s.pins ∧ (absentCleared s0 s).straps = s.straps
     ∧ (absentCleared s0 s).epoch = s.epoch ∧ (absentCleared s0 s).enc = s.enc ∧ (absentCleared s0 s).pos = s.pos
     ∧ (absentCleared s0 s).work = s.work ∧ (absentCleared s0 s).coupling = s.coupling
     ∧ (absentCleared s0 s).peers = s.peers ∧ (absentCleared s0 s).ret = s.ret ∧ (absentCleared s0 s).node = s.node
     ∧ (absentCleared s0 s).homing = s.homing ∧ (absentCleared s0 s).homingOp = s.homingOp
     ∧ (absentCleared s0 s).sweep = s.sweep ∧ (absentCleared s0 s).cal = s.cal ∧ (absentCleared s0 s).setup = s.setup
     ∧ (absentCleared s0 s).store = s.store ∧ (absentCleared s0 s).selfCheck = s.selfCheck
     ∧ (absentCleared s0 s).link = s.link ∧ (absentCleared s0 s).restartPending = s.restartPending
     ∧ (absentCleared s0 s).free = s.free ∧ (absentCleared s0 s).pending = s.pending
     ∧ (absentCleared s0 s).gate.rdyLevel = s.gate.rdyLevel
     ∧ (absentCleared s0 s).gate.travelSide = s.gate.travelSide := by
  unfold absentCleared; split <;> simp

@[simp] theorem quietRun64Op_frame (s : State) :
    (quietRun64Op s).pins = s.pins ∧ (quietRun64Op s).straps = s.straps ∧ (quietRun64Op s).epoch = s.epoch
     ∧ (quietRun64Op s).enc = s.enc ∧ (quietRun64Op s).pos = s.pos ∧ (quietRun64Op s).work = s.work
     ∧ (quietRun64Op s).coupling = s.coupling ∧ (quietRun64Op s).peers = s.peers ∧ (quietRun64Op s).ret = s.ret
     ∧ (quietRun64Op s).node = s.node ∧ (quietRun64Op s).homing = s.homing ∧ (quietRun64Op s).homingOp = s.homingOp
     ∧ (quietRun64Op s).sweep = s.sweep ∧ (quietRun64Op s).cal = s.cal ∧ (quietRun64Op s).setup = s.setup
     ∧ (quietRun64Op s).store = s.store ∧ (quietRun64Op s).selfCheck = s.selfCheck ∧ (quietRun64Op s).link = s.link
     ∧ (quietRun64Op s).restartPending = s.restartPending ∧ (quietRun64Op s).free = s.free
     ∧ (quietRun64Op s).pending = s.pending ∧ (quietRun64Op s).gate.rdyLevel = s.gate.rdyLevel
     ∧ (quietRun64Op s).gate.travelSide = s.gate.travelSide := by
  unfold quietRun64Op; split <;> simp

@[simp] theorem quietTick_frame (s : State) :
    (quietTick s).pins = s.pins ∧ (quietTick s).straps = s.straps ∧ (quietTick s).epoch = s.epoch
     ∧ (quietTick s).enc = s.enc ∧ (quietTick s).pos = s.pos ∧ (quietTick s).work = s.work
     ∧ (quietTick s).coupling = s.coupling ∧ (quietTick s).ret = s.ret ∧ (quietTick s).node = s.node
     ∧ (quietTick s).homing = s.homing ∧ (quietTick s).homingOp = s.homingOp ∧ (quietTick s).sweep = s.sweep
     ∧ (quietTick s).cal = s.cal ∧ (quietTick s).setup = s.setup ∧ (quietTick s).store = s.store
     ∧ (quietTick s).selfCheck = s.selfCheck ∧ (quietTick s).link = s.link
     ∧ (quietTick s).restartPending = s.restartPending ∧ (quietTick s).free = s.free
     ∧ (quietTick s).pending = s.pending ∧ (quietTick s).gate.rdyLevel = s.gate.rdyLevel
     ∧ (quietTick s).gate.travelSide = s.gate.travelSide := by
  unfold quietTick; repeat' split
  all_goals simp

@[simp] theorem foldAbsent_frame (l : List Address) : ∀ (s : State),
    (l.foldl (fun s a => peerAbsentOp a s) s).pins = s.pins
     ∧ (l.foldl (fun s a => peerAbsentOp a s) s).straps = s.straps
     ∧ (l.foldl (fun s a => peerAbsentOp a s) s).epoch = s.epoch
     ∧ (l.foldl (fun s a => peerAbsentOp a s) s).enc = s.enc
     ∧ (l.foldl (fun s a => peerAbsentOp a s) s).work = s.work
     ∧ (l.foldl (fun s a => peerAbsentOp a s) s).coupling = s.coupling
     ∧ (l.foldl (fun s a => peerAbsentOp a s) s).ret = s.ret ∧ (l.foldl (fun s a => peerAbsentOp a s) s).cal = s.cal
     ∧ (l.foldl (fun s a => peerAbsentOp a s) s).setup = s.setup
     ∧ (l.foldl (fun s a => peerAbsentOp a s) s).store = s.store
     ∧ (l.foldl (fun s a => peerAbsentOp a s) s).selfCheck = s.selfCheck
     ∧ (l.foldl (fun s a => peerAbsentOp a s) s).link = s.link
     ∧ (l.foldl (fun s a => peerAbsentOp a s) s).restartPending = s.restartPending
     ∧ (l.foldl (fun s a => peerAbsentOp a s) s).pending = s.pending
     ∧ (l.foldl (fun s a => peerAbsentOp a s) s).pos.established = s.pos.established
     ∧ (l.foldl (fun s a => peerAbsentOp a s) s).pos.p = s.pos.p
     ∧ (l.foldl (fun s a => peerAbsentOp a s) s).pos.thetaLast = s.pos.thetaLast
     ∧ (l.foldl (fun s a => peerAbsentOp a s) s).pos.deltaLast = s.pos.deltaLast
     ∧ (l.foldl (fun s a => peerAbsentOp a s) s).pos.failedRun = s.pos.failedRun
     ∧ (l.foldl (fun s a => peerAbsentOp a s) s).pos.s = s.pos.s
     ∧ (l.foldl (fun s a => peerAbsentOp a s) s).pos.playKnown = s.pos.playKnown
     ∧ (l.foldl (fun s a => peerAbsentOp a s) s).pos.acc = s.pos.acc
     ∧ (l.foldl (fun s a => peerAbsentOp a s) s).pos.lastDir = s.pos.lastDir
     ∧ (l.foldl (fun s a => peerAbsentOp a s) s).pos.j = s.pos.j
     ∧ (l.foldl (fun s a => peerAbsentOp a s) s).pos.evaluated = s.pos.evaluated
     ∧ (l.foldl (fun s a => peerAbsentOp a s) s).pos.gq = s.pos.gq
     ∧ (l.foldl (fun s a => peerAbsentOp a s) s).pos.jg = s.pos.jg
     ∧ (l.foldl (fun s a => peerAbsentOp a s) s).pos.usable = s.pos.usable
     ∧ (l.foldl (fun s a => peerAbsentOp a s) s).pos.lastE = s.pos.lastE
     ∧ (l.foldl (fun s a => peerAbsentOp a s) s).pos.lastSj = s.pos.lastSj
     ∧ (l.foldl (fun s a => peerAbsentOp a s) s).pos.firstQuarter = s.pos.firstQuarter
     ∧ (l.foldl (fun s a => peerAbsentOp a s) s).gate.rdyLevel = s.gate.rdyLevel
     ∧ (l.foldl (fun s a => peerAbsentOp a s) s).gate.travelSide = s.gate.travelSide := by
  induction l with
  | nil => intro s; simp
  | cons a l ih => intro s; simp [ih]

@[simp] theorem agePeers_frame (s : State) :
    (agePeers s).pins = s.pins ∧ (agePeers s).straps = s.straps ∧ (agePeers s).epoch = s.epoch
     ∧ (agePeers s).enc = s.enc ∧ (agePeers s).work = s.work ∧ (agePeers s).coupling = s.coupling
     ∧ (agePeers s).ret = s.ret ∧ (agePeers s).cal = s.cal ∧ (agePeers s).setup = s.setup
     ∧ (agePeers s).store = s.store ∧ (agePeers s).selfCheck = s.selfCheck ∧ (agePeers s).link = s.link
     ∧ (agePeers s).restartPending = s.restartPending ∧ (agePeers s).pending = s.pending
     ∧ (agePeers s).gate.rdyLevel = s.gate.rdyLevel ∧ (agePeers s).gate.travelSide = s.gate.travelSide
     ∧ (agePeers s).pos.established = s.pos.established ∧ (agePeers s).pos.p = s.pos.p
     ∧ (agePeers s).pos.thetaLast = s.pos.thetaLast ∧ (agePeers s).pos.deltaLast = s.pos.deltaLast
     ∧ (agePeers s).pos.failedRun = s.pos.failedRun ∧ (agePeers s).pos.s = s.pos.s
     ∧ (agePeers s).pos.playKnown = s.pos.playKnown ∧ (agePeers s).pos.acc = s.pos.acc
     ∧ (agePeers s).pos.lastDir = s.pos.lastDir ∧ (agePeers s).pos.j = s.pos.j
     ∧ (agePeers s).pos.evaluated = s.pos.evaluated ∧ (agePeers s).pos.gq = s.pos.gq ∧ (agePeers s).pos.jg = s.pos.jg
     ∧ (agePeers s).pos.usable = s.pos.usable ∧ (agePeers s).pos.lastE = s.pos.lastE
     ∧ (agePeers s).pos.lastSj = s.pos.lastSj ∧ (agePeers s).pos.firstQuarter = s.pos.firstQuarter := by
  simp [agePeers]

end Sys2Proof.Machine
end

