-- ==== Sys2Proof/Laws/Epoch.lean ====
section
/-! SUPPORT. What the encoder reads and the sample instant leave unchanged: one frame lemma per operation. -/

namespace Sys2Proof.Machine

@[simp] theorem portResponded_frame (p : Port) (s : State) :
    (portResponded p s).pins = s.pins ∧ (portResponded p s).straps = s.straps ∧ (portResponded p s).epoch = s.epoch
     ∧ (portResponded p s).enc = s.enc ∧ (portResponded p s).pos = s.pos ∧ (portResponded p s).work = s.work
     ∧ (portResponded p s).coupling = s.coupling ∧ (portResponded p s).peers = s.peers
     ∧ (portResponded p s).ret = s.ret ∧ (portResponded p s).node = s.node ∧ (portResponded p s).homing = s.homing
     ∧ (portResponded p s).homingOp = s.homingOp ∧ (portResponded p s).sweep = s.sweep
     ∧ (portResponded p s).cal = s.cal ∧ (portResponded p s).setup = s.setup ∧ (portResponded p s).store = s.store
     ∧ (portResponded p s).link = s.link ∧ (portResponded p s).faults = s.faults ∧ (portResponded p s).gate = s.gate
     ∧ (portResponded p s).restartPending = s.restartPending ∧ (portResponded p s).free = s.free
     ∧ (portResponded p s).pending = s.pending := by
  unfold portResponded; split <;> simp

@[simp] theorem noteResponse_frame (p : Port) (a : Bool) (s : State) :
    (noteResponse p a s).pins = s.pins ∧ (noteResponse p a s).straps = s.straps
     ∧ (noteResponse p a s).epoch = s.epoch ∧ (noteResponse p a s).enc = s.enc ∧ (noteResponse p a s).pos = s.pos
     ∧ (noteResponse p a s).work = s.work ∧ (noteResponse p a s).coupling = s.coupling
     ∧ (noteResponse p a s).peers = s.peers ∧ (noteResponse p a s).ret = s.ret ∧ (noteResponse p a s).node = s.node
     ∧ (noteResponse p a s).homing = s.homing ∧ (noteResponse p a s).homingOp = s.homingOp
     ∧ (noteResponse p a s).sweep = s.sweep ∧ (noteResponse p a s).cal = s.cal ∧ (noteResponse p a s).setup = s.setup
     ∧ (noteResponse p a s).store = s.store ∧ (noteResponse p a s).link = s.link
     ∧ (noteResponse p a s).faults = s.faults ∧ (noteResponse p a s).gate = s.gate
     ∧ (noteResponse p a s).restartPending = s.restartPending ∧ (noteResponse p a s).free = s.free
     ∧ (noteResponse p a s).pending = s.pending := by
  unfold noteResponse; split <;> simp

@[simp] theorem motorFailureNotice_frame (s : State) :
    (motorFailureNotice s).pins = s.pins ∧ (motorFailureNotice s).straps = s.straps
     ∧ (motorFailureNotice s).epoch = s.epoch ∧ (motorFailureNotice s).enc = s.enc
     ∧ (motorFailureNotice s).work = s.work ∧ (motorFailureNotice s).coupling = s.coupling
     ∧ (motorFailureNotice s).peers = s.peers ∧ (motorFailureNotice s).ret = s.ret
     ∧ (motorFailureNotice s).cal = s.cal ∧ (motorFailureNotice s).setup = s.setup
     ∧ (motorFailureNotice s).store = s.store ∧ (motorFailureNotice s).selfCheck = s.selfCheck
     ∧ (motorFailureNotice s).link = s.link ∧ (motorFailureNotice s).restartPending = s.restartPending
     ∧ (motorFailureNotice s).free = s.free ∧ (motorFailureNotice s).pending = s.pending
     ∧ (motorFailureNotice s).gate.rdyLevel = s.gate.rdyLevel
     ∧ (motorFailureNotice s).gate.travelSide = s.gate.travelSide
     ∧ (motorFailureNotice s).pos.established = s.pos.established ∧ (motorFailureNotice s).pos.p = s.pos.p
     ∧ (motorFailureNotice s).pos.thetaLast = s.pos.thetaLast
     ∧ (motorFailureNotice s).pos.deltaLast = s.pos.deltaLast
     ∧ (motorFailureNotice s).pos.failedRun = s.pos.failedRun ∧ (motorFailureNotice s).pos.s = s.pos.s
     ∧ (motorFailureNotice s).pos.playKnown = s.pos.playKnown ∧ (motorFailureNotice s).pos.acc = s.pos.acc
     ∧ (motorFailureNotice s).pos.lastDir = s.pos.lastDir ∧ (motorFailureNotice s).pos.j = s.pos.j
     ∧ (motorFailureNotice s).pos.evaluated = s.pos.evaluated ∧ (motorFailureNotice s).pos.gq = s.pos.gq
     ∧ (motorFailureNotice s).pos.jg = s.pos.jg ∧ (motorFailureNotice s).pos.usable = s.pos.usable
     ∧ (motorFailureNotice s).pos.lastE = s.pos.lastE ∧ (motorFailureNotice s).pos.lastSj = s.pos.lastSj
     ∧ (motorFailureNotice s).pos.firstQuarter = s.pos.firstQuarter := by
  unfold motorFailureNotice; split <;> simp

@[simp] theorem coarseFailureNotice_frame (s : State) :
    (coarseFailureNotice s).pins = s.pins ∧ (coarseFailureNotice s).straps = s.straps
     ∧ (coarseFailureNotice s).epoch = s.epoch ∧ (coarseFailureNotice s).enc = s.enc
     ∧ (coarseFailureNotice s).work = s.work ∧ (coarseFailureNotice s).coupling = s.coupling
     ∧ (coarseFailureNotice s).peers = s.peers ∧ (coarseFailureNotice s).ret = s.ret
     ∧ (coarseFailureNotice s).cal = s.cal ∧ (coarseFailureNotice s).setup = s.setup
     ∧ (coarseFailureNotice s).store = s.store ∧ (coarseFailureNotice s).selfCheck = s.selfCheck
     ∧ (coarseFailureNotice s).link = s.link ∧ (coarseFailureNotice s).restartPending = s.restartPending
     ∧ (coarseFailureNotice s).free = s.free ∧ (coarseFailureNotice s).pending = s.pending
     ∧ (coarseFailureNotice s).gate.rdyLevel = s.gate.rdyLevel
     ∧ (coarseFailureNotice s).gate.travelSide = s.gate.travelSide
     ∧ (coarseFailureNotice s).pos.established = s.pos.established ∧ (coarseFailureNotice s).pos.p = s.pos.p
     ∧ (coarseFailureNotice s).pos.thetaLast = s.pos.thetaLast
     ∧ (coarseFailureNotice s).pos.deltaLast = s.pos.deltaLast
     ∧ (coarseFailureNotice s).pos.failedRun = s.pos.failedRun ∧ (coarseFailureNotice s).pos.s = s.pos.s
     ∧ (coarseFailureNotice s).pos.playKnown = s.pos.playKnown ∧ (coarseFailureNotice s).pos.acc = s.pos.acc
     ∧ (coarseFailureNotice s).pos.lastDir = s.pos.lastDir ∧ (coarseFailureNotice s).pos.j = s.pos.j
     ∧ (coarseFailureNotice s).pos.evaluated = s.pos.evaluated ∧ (coarseFailureNotice s).pos.gq = s.pos.gq
     ∧ (coarseFailureNotice s).pos.jg = s.pos.jg ∧ (coarseFailureNotice s).pos.usable = s.pos.usable
     ∧ (coarseFailureNotice s).pos.lastE = s.pos.lastE ∧ (coarseFailureNotice s).pos.lastSj = s.pos.lastSj
     ∧ (coarseFailureNotice s).pos.firstQuarter = s.pos.firstQuarter := by
  unfold coarseFailureNotice; split <;> simp

@[simp] theorem motorGoodGone_frame (s : State) :
    (motorGoodGone s).pins = s.pins ∧ (motorGoodGone s).straps = s.straps ∧ (motorGoodGone s).epoch = s.epoch
     ∧ (motorGoodGone s).enc = s.enc ∧ (motorGoodGone s).pos = s.pos ∧ (motorGoodGone s).work = s.work
     ∧ (motorGoodGone s).coupling = s.coupling ∧ (motorGoodGone s).peers = s.peers ∧ (motorGoodGone s).ret = s.ret
     ∧ (motorGoodGone s).node = s.node ∧ (motorGoodGone s).homing = s.homing
     ∧ (motorGoodGone s).homingOp = s.homingOp ∧ (motorGoodGone s).sweep = s.sweep ∧ (motorGoodGone s).cal = s.cal
     ∧ (motorGoodGone s).setup = s.setup ∧ (motorGoodGone s).store = s.store
     ∧ (motorGoodGone s).selfCheck = s.selfCheck ∧ (motorGoodGone s).link = s.link
     ∧ (motorGoodGone s).restartPending = s.restartPending ∧ (motorGoodGone s).free = s.free
     ∧ (motorGoodGone s).pending = s.pending ∧ (motorGoodGone s).gate.rdyLevel = s.gate.rdyLevel
     ∧ (motorGoodGone s).gate.travelSide = s.gate.travelSide := by
  unfold motorGoodGone; split <;> simp

@[simp] theorem coarseGoodGone_frame (s : State) :
    (coarseGoodGone s).pins = s.pins ∧ (coarseGoodGone s).straps = s.straps ∧ (coarseGoodGone s).epoch = s.epoch
     ∧ (coarseGoodGone s).enc = s.enc ∧ (coarseGoodGone s).pos = s.pos ∧ (coarseGoodGone s).work = s.work
     ∧ (coarseGoodGone s).coupling = s.coupling ∧ (coarseGoodGone s).peers = s.peers ∧ (coarseGoodGone s).ret = s.ret
     ∧ (coarseGoodGone s).node = s.node ∧ (coarseGoodGone s).homing = s.homing
     ∧ (coarseGoodGone s).homingOp = s.homingOp ∧ (coarseGoodGone s).sweep = s.sweep ∧ (coarseGoodGone s).cal = s.cal
     ∧ (coarseGoodGone s).setup = s.setup ∧ (coarseGoodGone s).store = s.store
     ∧ (coarseGoodGone s).selfCheck = s.selfCheck ∧ (coarseGoodGone s).link = s.link
     ∧ (coarseGoodGone s).restartPending = s.restartPending ∧ (coarseGoodGone s).free = s.free
     ∧ (coarseGoodGone s).pending = s.pending ∧ (coarseGoodGone s).gate.rdyLevel = s.gate.rdyLevel
     ∧ (coarseGoodGone s).gate.travelSide = s.gate.travelSide := by
  unfold coarseGoodGone; split <;> simp

@[simp] theorem endHoldByMotion_frame (s : State) :
    (endHoldByMotion s).pins = s.pins ∧ (endHoldByMotion s).straps = s.straps ∧ (endHoldByMotion s).epoch = s.epoch
     ∧ (endHoldByMotion s).enc = s.enc ∧ (endHoldByMotion s).pos = s.pos ∧ (endHoldByMotion s).work = s.work
     ∧ (endHoldByMotion s).coupling = s.coupling ∧ (endHoldByMotion s).peers = s.peers
     ∧ (endHoldByMotion s).node = s.node ∧ (endHoldByMotion s).homing = s.homing
     ∧ (endHoldByMotion s).homingOp = s.homingOp ∧ (endHoldByMotion s).sweep = s.sweep
     ∧ (endHoldByMotion s).cal = s.cal ∧ (endHoldByMotion s).setup = s.setup ∧ (endHoldByMotion s).store = s.store
     ∧ (endHoldByMotion s).selfCheck = s.selfCheck ∧ (endHoldByMotion s).link = s.link
     ∧ (endHoldByMotion s).faults = s.faults ∧ (endHoldByMotion s).gate = s.gate
     ∧ (endHoldByMotion s).restartPending = s.restartPending ∧ (endHoldByMotion s).free = s.free
     ∧ (endHoldByMotion s).pending = s.pending ∧ (endHoldByMotion s).ret.tracker = s.ret.tracker
     ∧ (endHoldByMotion s).ret.stateLost = s.ret.stateLost ∧ (endHoldByMotion s).ret.dwellMet = s.ret.dwellMet := by
  unfold endHoldByMotion; split <;> simp

@[simp] theorem jumpAndHoming_frame (r : JumpReason) (d : Int) (s : State) :
    (jumpAndHoming r d s).pins = s.pins ∧ (jumpAndHoming r d s).straps = s.straps
     ∧ (jumpAndHoming r d s).epoch = s.epoch ∧ (jumpAndHoming r d s).enc = s.enc
     ∧ (jumpAndHoming r d s).work = s.work ∧ (jumpAndHoming r d s).coupling = s.coupling
     ∧ (jumpAndHoming r d s).peers = s.peers ∧ (jumpAndHoming r d s).ret = s.ret ∧ (jumpAndHoming r d s).cal = s.cal
     ∧ (jumpAndHoming r d s).setup = s.setup ∧ (jumpAndHoming r d s).store = s.store
     ∧ (jumpAndHoming r d s).selfCheck = s.selfCheck ∧ (jumpAndHoming r d s).link = s.link
     ∧ (jumpAndHoming r d s).restartPending = s.restartPending ∧ (jumpAndHoming r d s).pending = s.pending
     ∧ (jumpAndHoming r d s).gate.rdyLevel = s.gate.rdyLevel
     ∧ (jumpAndHoming r d s).gate.travelSide = s.gate.travelSide
     ∧ (jumpAndHoming r d s).pos.established = s.pos.established ∧ (jumpAndHoming r d s).pos.p = s.pos.p
     ∧ (jumpAndHoming r d s).pos.thetaLast = s.pos.thetaLast ∧ (jumpAndHoming r d s).pos.deltaLast = s.pos.deltaLast
     ∧ (jumpAndHoming r d s).pos.failedRun = s.pos.failedRun ∧ (jumpAndHoming r d s).pos.s = s.pos.s
     ∧ (jumpAndHoming r d s).pos.playKnown = s.pos.playKnown ∧ (jumpAndHoming r d s).pos.acc = s.pos.acc
     ∧ (jumpAndHoming r d s).pos.lastDir = s.pos.lastDir ∧ (jumpAndHoming r d s).pos.j = s.pos.j
     ∧ (jumpAndHoming r d s).pos.evaluated = s.pos.evaluated ∧ (jumpAndHoming r d s).pos.gq = s.pos.gq
     ∧ (jumpAndHoming r d s).pos.jg = s.pos.jg ∧ (jumpAndHoming r d s).pos.usable = s.pos.usable
     ∧ (jumpAndHoming r d s).pos.lastE = s.pos.lastE ∧ (jumpAndHoming r d s).pos.lastSj = s.pos.lastSj
     ∧ (jumpAndHoming r d s).pos.firstQuarter = s.pos.firstQuarter := by
  unfold jumpAndHoming; dsimp only; repeat' split
  all_goals simp

@[simp] theorem exitNoCal_frame (s : State) :
    (exitNoCal s).pins = s.pins ∧ (exitNoCal s).straps = s.straps ∧ (exitNoCal s).epoch = s.epoch
     ∧ (exitNoCal s).enc = s.enc ∧ (exitNoCal s).pos = s.pos ∧ (exitNoCal s).work = s.work
     ∧ (exitNoCal s).coupling = s.coupling ∧ (exitNoCal s).peers = s.peers ∧ (exitNoCal s).ret = s.ret
     ∧ (exitNoCal s).homing = s.homing ∧ (exitNoCal s).homingOp = s.homingOp ∧ (exitNoCal s).sweep = s.sweep
     ∧ (exitNoCal s).cal = s.cal ∧ (exitNoCal s).setup = s.setup ∧ (exitNoCal s).store = s.store
     ∧ (exitNoCal s).selfCheck = s.selfCheck ∧ (exitNoCal s).link = s.link ∧ (exitNoCal s).faults = s.faults
     ∧ (exitNoCal s).restartPending = s.restartPending ∧ (exitNoCal s).free = s.free
     ∧ (exitNoCal s).pending = s.pending ∧ (exitNoCal s).gate.rdyLevel = s.gate.rdyLevel
     ∧ (exitNoCal s).gate.travelSide = s.gate.travelSide := by
  simp [exitNoCal]

@[simp] theorem exitStartup_frame (s : State) :
    (exitStartup s).pins = s.pins ∧ (exitStartup s).straps = s.straps ∧ (exitStartup s).epoch = s.epoch
     ∧ (exitStartup s).enc = s.enc ∧ (exitStartup s).pos = s.pos ∧ (exitStartup s).work = s.work
     ∧ (exitStartup s).coupling = s.coupling ∧ (exitStartup s).peers = s.peers ∧ (exitStartup s).ret = s.ret
     ∧ (exitStartup s).homing = s.homing ∧ (exitStartup s).homingOp = s.homingOp ∧ (exitStartup s).sweep = s.sweep
     ∧ (exitStartup s).cal = s.cal ∧ (exitStartup s).setup = s.setup ∧ (exitStartup s).store = s.store
     ∧ (exitStartup s).selfCheck = s.selfCheck ∧ (exitStartup s).link = s.link ∧ (exitStartup s).faults = s.faults
     ∧ (exitStartup s).restartPending = s.restartPending ∧ (exitStartup s).free = s.free
     ∧ (exitStartup s).pending = s.pending ∧ (exitStartup s).gate.rdyLevel = s.gate.rdyLevel
     ∧ (exitStartup s).gate.travelSide = s.gate.travelSide := by
  unfold exitStartup; repeat' split
  all_goals simp

@[simp] theorem afterCount_frame (s : State) :
    (afterCount s).pins = s.pins ∧ (afterCount s).straps = s.straps ∧ (afterCount s).epoch = s.epoch
     ∧ (afterCount s).enc = s.enc ∧ (afterCount s).peers = s.peers ∧ (afterCount s).setup = s.setup
     ∧ (afterCount s).selfCheck = s.selfCheck ∧ (afterCount s).restartPending = s.restartPending
     ∧ (afterCount s).pending = s.pending ∧ (afterCount s).ret.record = s.ret.record
     ∧ (afterCount s).ret.tracker = s.ret.tracker ∧ (afterCount s).ret.stateLost = s.ret.stateLost
     ∧ (afterCount s).ret.dwellMet = s.ret.dwellMet ∧ (afterCount s).cal.valid = s.cal.valid
     ∧ (afterCount s).store.writing = s.store.writing ∧ (afterCount s).work.motor = s.work.motor
     ∧ (afterCount s).work.coarse = s.work.coarse ∧ (afterCount s).pos.established = s.pos.established
     ∧ (afterCount s).pos.thetaLast = s.pos.thetaLast ∧ (afterCount s).pos.deltaLast = s.pos.deltaLast
     ∧ (afterCount s).pos.failedRun = s.pos.failedRun ∧ (afterCount s).pos.lastDir = s.pos.lastDir
     ∧ (afterCount s).pos.firstQuarter = s.pos.firstQuarter ∧ (afterCount s).link.watching = s.link.watching
     ∧ (afterCount s).link.joined = s.link.joined ∧ (afterCount s).link.awaitIdle = s.link.awaitIdle
     ∧ (afterCount s).link.health = s.link.health ∧ (afterCount s).link.intact = s.link.intact
     ∧ (afterCount s).link.tx = s.link.tx ∧ (afterCount s).link.replies = s.link.replies
     ∧ (afterCount s).link.requests = s.link.requests ∧ (afterCount s).link.recessiveRun = s.link.recessiveRun
     ∧ (afterCount s).link.dominantRun = s.link.dominantRun ∧ (afterCount s).link.stuck = s.link.stuck
     ∧ (afterCount s).link.idlePeriods = s.link.idlePeriods
     ∧ (afterCount s).link.requestOverrun = s.link.requestOverrun
     ∧ (afterCount s).link.stuckCount = s.link.stuckCount ∧ (afterCount s).gate.rdyLevel = s.gate.rdyLevel := by
  unfold afterCount; split <;> simp

@[simp] theorem takeCount_frame (r : CountResult) (s : State) :
    (takeCount r s).pins = s.pins ∧ (takeCount r s).straps = s.straps ∧ (takeCount r s).epoch = s.epoch
     ∧ (takeCount r s).enc = s.enc ∧ (takeCount r s).coupling = s.coupling ∧ (takeCount r s).peers = s.peers
     ∧ (takeCount r s).node = s.node ∧ (takeCount r s).homing = s.homing ∧ (takeCount r s).homingOp = s.homingOp
     ∧ (takeCount r s).sweep = s.sweep ∧ (takeCount r s).cal = s.cal ∧ (takeCount r s).setup = s.setup
     ∧ (takeCount r s).store = s.store ∧ (takeCount r s).selfCheck = s.selfCheck ∧ (takeCount r s).link = s.link
     ∧ (takeCount r s).faults = s.faults ∧ (takeCount r s).gate = s.gate
     ∧ (takeCount r s).restartPending = s.restartPending ∧ (takeCount r s).free = s.free
     ∧ (takeCount r s).pending = s.pending ∧ (takeCount r s).pos = r.pos
     ∧ (takeCount r s).work = { s.work with motor := .counted r.delta } ∧ (takeCount r s).ret.tracker = s.ret.tracker
     ∧ (takeCount r s).ret.stateLost = s.ret.stateLost ∧ (takeCount r s).ret.dwellMet = s.ret.dwellMet := by
  simp [takeCount]

@[simp] theorem motorGood_frame (θ : Theta) (s : State) :
    (motorGood θ s).pins = s.pins ∧ (motorGood θ s).straps = s.straps ∧ (motorGood θ s).epoch = s.epoch
     ∧ (motorGood θ s).peers = s.peers ∧ (motorGood θ s).setup = s.setup ∧ (motorGood θ s).selfCheck = s.selfCheck
     ∧ (motorGood θ s).restartPending = s.restartPending ∧ (motorGood θ s).pending = s.pending
     ∧ (motorGood θ s).ret.tracker = s.ret.tracker ∧ (motorGood θ s).ret.stateLost = s.ret.stateLost
     ∧ (motorGood θ s).ret.dwellMet = s.ret.dwellMet ∧ (motorGood θ s).cal.valid = s.cal.valid
     ∧ (motorGood θ s).store.writing = s.store.writing ∧ (motorGood θ s).work.coarse = s.work.coarse
     ∧ (motorGood θ s).enc = { s.enc with motor := goodRuns s.enc.motor }
     ∧ (motorGood θ s).link.watching = s.link.watching ∧ (motorGood θ s).link.joined = s.link.joined
     ∧ (motorGood θ s).link.awaitIdle = s.link.awaitIdle ∧ (motorGood θ s).link.health = s.link.health
     ∧ (motorGood θ s).link.intact = s.link.intact ∧ (motorGood θ s).link.tx = s.link.tx
     ∧ (motorGood θ s).link.replies = s.link.replies ∧ (motorGood θ s).link.requests = s.link.requests
     ∧ (motorGood θ s).link.recessiveRun = s.link.recessiveRun
     ∧ (motorGood θ s).link.dominantRun = s.link.dominantRun ∧ (motorGood θ s).link.stuck = s.link.stuck
     ∧ (motorGood θ s).link.idlePeriods = s.link.idlePeriods
     ∧ (motorGood θ s).link.requestOverrun = s.link.requestOverrun
     ∧ (motorGood θ s).link.stuckCount = s.link.stuckCount ∧ (motorGood θ s).gate.rdyLevel = s.gate.rdyLevel := by
  simp [motorGood]

@[simp] theorem afterFailed_frame (m : EpochMotor) (s : State) :
    (afterFailed m s).pins = s.pins ∧ (afterFailed m s).straps = s.straps ∧ (afterFailed m s).epoch = s.epoch
     ∧ (afterFailed m s).enc = s.enc ∧ (afterFailed m s).peers = s.peers ∧ (afterFailed m s).setup = s.setup
     ∧ (afterFailed m s).selfCheck = s.selfCheck ∧ (afterFailed m s).restartPending = s.restartPending
     ∧ (afterFailed m s).pending = s.pending ∧ (afterFailed m s).ret.record = s.ret.record
     ∧ (afterFailed m s).ret.tracker = s.ret.tracker ∧ (afterFailed m s).ret.stateLost = s.ret.stateLost
     ∧ (afterFailed m s).ret.dwellMet = s.ret.dwellMet ∧ (afterFailed m s).cal.valid = s.cal.valid
     ∧ (afterFailed m s).store.writing = s.store.writing ∧ (afterFailed m s).work.motor = s.work.motor
     ∧ (afterFailed m s).work.coarse = s.work.coarse ∧ (afterFailed m s).pos.established = s.pos.established
     ∧ (afterFailed m s).pos.thetaLast = s.pos.thetaLast ∧ (afterFailed m s).pos.deltaLast = s.pos.deltaLast
     ∧ (afterFailed m s).pos.failedRun = s.pos.failedRun ∧ (afterFailed m s).pos.lastDir = s.pos.lastDir
     ∧ (afterFailed m s).pos.firstQuarter = s.pos.firstQuarter ∧ (afterFailed m s).link.watching = s.link.watching
     ∧ (afterFailed m s).link.joined = s.link.joined ∧ (afterFailed m s).link.awaitIdle = s.link.awaitIdle
     ∧ (afterFailed m s).link.health = s.link.health ∧ (afterFailed m s).link.intact = s.link.intact
     ∧ (afterFailed m s).link.tx = s.link.tx ∧ (afterFailed m s).link.replies = s.link.replies
     ∧ (afterFailed m s).link.requests = s.link.requests ∧ (afterFailed m s).link.recessiveRun = s.link.recessiveRun
     ∧ (afterFailed m s).link.dominantRun = s.link.dominantRun ∧ (afterFailed m s).link.stuck = s.link.stuck
     ∧ (afterFailed m s).link.idlePeriods = s.link.idlePeriods
     ∧ (afterFailed m s).link.requestOverrun = s.link.requestOverrun
     ∧ (afterFailed m s).link.stuckCount = s.link.stuckCount ∧ (afterFailed m s).gate.rdyLevel = s.gate.rdyLevel := by
  unfold afterFailed; split <;> simp

@[simp] theorem motorFailed_frame (c : ReadCause) (s : State) :
    (motorFailed c s).pins = s.pins ∧ (motorFailed c s).straps = s.straps ∧ (motorFailed c s).epoch = s.epoch
     ∧ (motorFailed c s).peers = s.peers ∧ (motorFailed c s).setup = s.setup
     ∧ (motorFailed c s).selfCheck = s.selfCheck ∧ (motorFailed c s).restartPending = s.restartPending
     ∧ (motorFailed c s).pending = s.pending ∧ (motorFailed c s).ret.record = s.ret.record
     ∧ (motorFailed c s).ret.tracker = s.ret.tracker ∧ (motorFailed c s).ret.stateLost = s.ret.stateLost
     ∧ (motorFailed c s).ret.dwellMet = s.ret.dwellMet ∧ (motorFailed c s).cal.valid = s.cal.valid
     ∧ (motorFailed c s).store.writing = s.store.writing ∧ (motorFailed c s).work.coarse = s.work.coarse
     ∧ (motorFailed c s).enc = { s.enc with motor := failedRuns c s.enc.motor }
     ∧ (motorFailed c s).pos.established = s.pos.established ∧ (motorFailed c s).pos.thetaLast = s.pos.thetaLast
     ∧ (motorFailed c s).pos.deltaLast = s.pos.deltaLast ∧ (motorFailed c s).pos.lastDir = s.pos.lastDir
     ∧ (motorFailed c s).pos.firstQuarter = s.pos.firstQuarter ∧ (motorFailed c s).link.watching = s.link.watching
     ∧ (motorFailed c s).link.joined = s.link.joined ∧ (motorFailed c s).link.awaitIdle = s.link.awaitIdle
     ∧ (motorFailed c s).link.health = s.link.health ∧ (motorFailed c s).link.intact = s.link.intact
     ∧ (motorFailed c s).link.tx = s.link.tx ∧ (motorFailed c s).link.replies = s.link.replies
     ∧ (motorFailed c s).link.requests = s.link.requests ∧ (motorFailed c s).link.recessiveRun = s.link.recessiveRun
     ∧ (motorFailed c s).link.dominantRun = s.link.dominantRun ∧ (motorFailed c s).link.stuck = s.link.stuck
     ∧ (motorFailed c s).link.idlePeriods = s.link.idlePeriods
     ∧ (motorFailed c s).link.requestOverrun = s.link.requestOverrun
     ∧ (motorFailed c s).link.stuckCount = s.link.stuckCount ∧ (motorFailed c s).gate.rdyLevel = s.gate.rdyLevel := by
  have h : ∀ u : PositionUnit, (countFailed u).1.established = u.established ∧ (countFailed u).1.thetaLast = u.thetaLast ∧
      (countFailed u).1.deltaLast = u.deltaLast ∧ (countFailed u).1.lastDir = u.lastDir ∧
      (countFailed u).1.firstQuarter = u.firstQuarter := by intro u; unfold countFailed; split <;> simp
  simp [motorFailed, h]

@[simp] theorem coarseGood_frame (g : CoarseAngle) (s : State) :
    (coarseGood g s).pins = s.pins ∧ (coarseGood g s).straps = s.straps ∧ (coarseGood g s).epoch = s.epoch
     ∧ (coarseGood g s).coupling = s.coupling ∧ (coarseGood g s).peers = s.peers ∧ (coarseGood g s).setup = s.setup
     ∧ (coarseGood g s).selfCheck = s.selfCheck ∧ (coarseGood g s).link = s.link
     ∧ (coarseGood g s).restartPending = s.restartPending ∧ (coarseGood g s).pending = s.pending
     ∧ (coarseGood g s).ret.record = s.ret.record ∧ (coarseGood g s).ret.tracker = s.ret.tracker
     ∧ (coarseGood g s).ret.stateLost = s.ret.stateLost ∧ (coarseGood g s).ret.dwellMet = s.ret.dwellMet
     ∧ (coarseGood g s).cal.valid = s.cal.valid ∧ (coarseGood g s).store.writing = s.store.writing
     ∧ (coarseGood g s).work.motor = s.work.motor
     ∧ (coarseGood g s).enc = { s.enc with coarse := goodRuns s.enc.coarse }
     ∧ (coarseGood g s).gate.rdyLevel = s.gate.rdyLevel ∧ (coarseGood g s).gate.travelSide = s.gate.travelSide
     ∧ (coarseGood g s).pos.established = s.pos.established ∧ (coarseGood g s).pos.thetaLast = s.pos.thetaLast
     ∧ (coarseGood g s).pos.deltaLast = s.pos.deltaLast ∧ (coarseGood g s).pos.failedRun = s.pos.failedRun
     ∧ (coarseGood g s).pos.lastDir = s.pos.lastDir ∧ (coarseGood g s).pos.j = s.pos.j
     ∧ (coarseGood g s).pos.firstQuarter = s.pos.firstQuarter := by
  simp [coarseGood]

@[simp] theorem coarseFailed_frame (c : ReadCause) (s : State) :
    (coarseFailed c s).pins = s.pins ∧ (coarseFailed c s).straps = s.straps ∧ (coarseFailed c s).epoch = s.epoch
     ∧ (coarseFailed c s).coupling = s.coupling ∧ (coarseFailed c s).peers = s.peers
     ∧ (coarseFailed c s).setup = s.setup ∧ (coarseFailed c s).selfCheck = s.selfCheck
     ∧ (coarseFailed c s).link = s.link ∧ (coarseFailed c s).restartPending = s.restartPending
     ∧ (coarseFailed c s).pending = s.pending ∧ (coarseFailed c s).ret.record = s.ret.record
     ∧ (coarseFailed c s).ret.tracker = s.ret.tracker ∧ (coarseFailed c s).ret.stateLost = s.ret.stateLost
     ∧ (coarseFailed c s).ret.dwellMet = s.ret.dwellMet ∧ (coarseFailed c s).cal.valid = s.cal.valid
     ∧ (coarseFailed c s).store.writing = s.store.writing ∧ (coarseFailed c s).work.motor = s.work.motor
     ∧ (coarseFailed c s).enc = { s.enc with coarse := failedRuns c s.enc.coarse }
     ∧ (coarseFailed c s).gate.rdyLevel = s.gate.rdyLevel ∧ (coarseFailed c s).gate.travelSide = s.gate.travelSide
     ∧ (coarseFailed c s).pos.established = s.pos.established ∧ (coarseFailed c s).pos.thetaLast = s.pos.thetaLast
     ∧ (coarseFailed c s).pos.deltaLast = s.pos.deltaLast ∧ (coarseFailed c s).pos.failedRun = s.pos.failedRun
     ∧ (coarseFailed c s).pos.lastDir = s.pos.lastDir ∧ (coarseFailed c s).pos.j = s.pos.j
     ∧ (coarseFailed c s).pos.firstQuarter = s.pos.firstQuarter := by
  simp [coarseFailed]

@[simp] theorem motorWord_frame (θ : Theta) (e c1 c0 : Bool) (s : State) :
    (motorWord θ e c1 c0 s).pins = s.pins ∧ (motorWord θ e c1 c0 s).straps = s.straps
     ∧ (motorWord θ e c1 c0 s).epoch = s.epoch ∧ (motorWord θ e c1 c0 s).peers = s.peers
     ∧ (motorWord θ e c1 c0 s).setup = s.setup ∧ (motorWord θ e c1 c0 s).restartPending = s.restartPending
     ∧ (motorWord θ e c1 c0 s).pending = s.pending ∧ (motorWord θ e c1 c0 s).ret.tracker = s.ret.tracker
     ∧ (motorWord θ e c1 c0 s).ret.stateLost = s.ret.stateLost
     ∧ (motorWord θ e c1 c0 s).ret.dwellMet = s.ret.dwellMet ∧ (motorWord θ e c1 c0 s).cal.valid = s.cal.valid
     ∧ (motorWord θ e c1 c0 s).store.writing = s.store.writing
     ∧ (motorWord θ e c1 c0 s).link.watching = s.link.watching ∧ (motorWord θ e c1 c0 s).link.joined = s.link.joined
     ∧ (motorWord θ e c1 c0 s).link.awaitIdle = s.link.awaitIdle
     ∧ (motorWord θ e c1 c0 s).link.health = s.link.health ∧ (motorWord θ e c1 c0 s).link.intact = s.link.intact
     ∧ (motorWord θ e c1 c0 s).link.tx = s.link.tx ∧ (motorWord θ e c1 c0 s).link.replies = s.link.replies
     ∧ (motorWord θ e c1 c0 s).link.requests = s.link.requests
     ∧ (motorWord θ e c1 c0 s).link.recessiveRun = s.link.recessiveRun
     ∧ (motorWord θ e c1 c0 s).link.dominantRun = s.link.dominantRun
     ∧ (motorWord θ e c1 c0 s).link.stuck = s.link.stuck
     ∧ (motorWord θ e c1 c0 s).link.idlePeriods = s.link.idlePeriods
     ∧ (motorWord θ e c1 c0 s).link.requestOverrun = s.link.requestOverrun
     ∧ (motorWord θ e c1 c0 s).link.stuckCount = s.link.stuckCount
     ∧ (motorWord θ e c1 c0 s).gate.rdyLevel = s.gate.rdyLevel := by
  unfold motorWord; repeat' split
  all_goals simp

@[simp] theorem coarseWord_frame (g : CoarseAngle) (e c1 c0 : Bool) (s : State) :
    (coarseWord g e c1 c0 s).pins = s.pins ∧ (coarseWord g e c1 c0 s).straps = s.straps
     ∧ (coarseWord g e c1 c0 s).epoch = s.epoch ∧ (coarseWord g e c1 c0 s).coupling = s.coupling
     ∧ (coarseWord g e c1 c0 s).peers = s.peers ∧ (coarseWord g e c1 c0 s).setup = s.setup
     ∧ (coarseWord g e c1 c0 s).link = s.link ∧ (coarseWord g e c1 c0 s).restartPending = s.restartPending
     ∧ (coarseWord g e c1 c0 s).pending = s.pending ∧ (coarseWord g e c1 c0 s).ret.record = s.ret.record
     ∧ (coarseWord g e c1 c0 s).ret.tracker = s.ret.tracker
     ∧ (coarseWord g e c1 c0 s).ret.stateLost = s.ret.stateLost
     ∧ (coarseWord g e c1 c0 s).ret.dwellMet = s.ret.dwellMet ∧ (coarseWord g e c1 c0 s).cal.valid = s.cal.valid
     ∧ (coarseWord g e c1 c0 s).store.writing = s.store.writing
     ∧ (coarseWord g e c1 c0 s).gate.rdyLevel = s.gate.rdyLevel
     ∧ (coarseWord g e c1 c0 s).gate.travelSide = s.gate.travelSide
     ∧ (coarseWord g e c1 c0 s).pos.established = s.pos.established
     ∧ (coarseWord g e c1 c0 s).pos.thetaLast = s.pos.thetaLast
     ∧ (coarseWord g e c1 c0 s).pos.deltaLast = s.pos.deltaLast
     ∧ (coarseWord g e c1 c0 s).pos.failedRun = s.pos.failedRun
     ∧ (coarseWord g e c1 c0 s).pos.lastDir = s.pos.lastDir ∧ (coarseWord g e c1 c0 s).pos.j = s.pos.j
     ∧ (coarseWord g e c1 c0 s).pos.firstQuarter = s.pos.firstQuarter := by
  unfold coarseWord; repeat' split
  all_goals simp

@[simp] theorem readComplete_frame (w : EncoderWord) (s : State) :
    (readComplete w s).pins = s.pins ∧ (readComplete w s).straps = s.straps ∧ (readComplete w s).epoch = s.epoch
     ∧ (readComplete w s).peers = s.peers ∧ (readComplete w s).setup = s.setup
     ∧ (readComplete w s).restartPending = s.restartPending ∧ (readComplete w s).pending = s.pending
     ∧ (readComplete w s).ret.tracker = s.ret.tracker ∧ (readComplete w s).ret.stateLost = s.ret.stateLost
     ∧ (readComplete w s).ret.dwellMet = s.ret.dwellMet ∧ (readComplete w s).cal.valid = s.cal.valid
     ∧ (readComplete w s).store.writing = s.store.writing ∧ (readComplete w s).link.watching = s.link.watching
     ∧ (readComplete w s).link.joined = s.link.joined ∧ (readComplete w s).link.awaitIdle = s.link.awaitIdle
     ∧ (readComplete w s).link.health = s.link.health ∧ (readComplete w s).link.intact = s.link.intact
     ∧ (readComplete w s).link.tx = s.link.tx ∧ (readComplete w s).link.replies = s.link.replies
     ∧ (readComplete w s).link.requests = s.link.requests
     ∧ (readComplete w s).link.recessiveRun = s.link.recessiveRun
     ∧ (readComplete w s).link.dominantRun = s.link.dominantRun ∧ (readComplete w s).link.stuck = s.link.stuck
     ∧ (readComplete w s).link.idlePeriods = s.link.idlePeriods
     ∧ (readComplete w s).link.requestOverrun = s.link.requestOverrun
     ∧ (readComplete w s).link.stuckCount = s.link.stuckCount ∧ (readComplete w s).gate.rdyLevel = s.gate.rdyLevel := by
  unfold readComplete; split <;> simp

@[simp] theorem failReading_frame (p : Port) (a : Bool) (c : ReadCause) (s : State) :
    (failReading p a c s).pins = s.pins ∧ (failReading p a c s).straps = s.straps
     ∧ (failReading p a c s).epoch = s.epoch ∧ (failReading p a c s).peers = s.peers
     ∧ (failReading p a c s).setup = s.setup ∧ (failReading p a c s).restartPending = s.restartPending
     ∧ (failReading p a c s).pending = s.pending ∧ (failReading p a c s).ret.record = s.ret.record
     ∧ (failReading p a c s).ret.tracker = s.ret.tracker ∧ (failReading p a c s).ret.stateLost = s.ret.stateLost
     ∧ (failReading p a c s).ret.dwellMet = s.ret.dwellMet ∧ (failReading p a c s).cal.valid = s.cal.valid
     ∧ (failReading p a c s).store.writing = s.store.writing
     ∧ (failReading p a c s).pos.established = s.pos.established
     ∧ (failReading p a c s).pos.thetaLast = s.pos.thetaLast ∧ (failReading p a c s).pos.deltaLast = s.pos.deltaLast
     ∧ (failReading p a c s).pos.lastDir = s.pos.lastDir
     ∧ (failReading p a c s).pos.firstQuarter = s.pos.firstQuarter
     ∧ (failReading p a c s).link.watching = s.link.watching ∧ (failReading p a c s).link.joined = s.link.joined
     ∧ (failReading p a c s).link.awaitIdle = s.link.awaitIdle ∧ (failReading p a c s).link.health = s.link.health
     ∧ (failReading p a c s).link.intact = s.link.intact ∧ (failReading p a c s).link.tx = s.link.tx
     ∧ (failReading p a c s).link.replies = s.link.replies ∧ (failReading p a c s).link.requests = s.link.requests
     ∧ (failReading p a c s).link.recessiveRun = s.link.recessiveRun
     ∧ (failReading p a c s).link.dominantRun = s.link.dominantRun ∧ (failReading p a c s).link.stuck = s.link.stuck
     ∧ (failReading p a c s).link.idlePeriods = s.link.idlePeriods
     ∧ (failReading p a c s).link.requestOverrun = s.link.requestOverrun
     ∧ (failReading p a c s).link.stuckCount = s.link.stuckCount
     ∧ (failReading p a c s).gate.rdyLevel = s.gate.rdyLevel := by
  unfold failReading; repeat' split
  all_goals simp

@[simp] theorem portPresence_frame (p : Port) (s : State) :
    (portPresence p s).pins = s.pins ∧ (portPresence p s).straps = s.straps ∧ (portPresence p s).epoch = s.epoch
     ∧ (portPresence p s).enc = s.enc ∧ (portPresence p s).pos = s.pos ∧ (portPresence p s).work = s.work
     ∧ (portPresence p s).coupling = s.coupling ∧ (portPresence p s).peers = s.peers ∧ (portPresence p s).ret = s.ret
     ∧ (portPresence p s).node = s.node ∧ (portPresence p s).homing = s.homing
     ∧ (portPresence p s).homingOp = s.homingOp ∧ (portPresence p s).sweep = s.sweep ∧ (portPresence p s).cal = s.cal
     ∧ (portPresence p s).setup = s.setup ∧ (portPresence p s).store = s.store ∧ (portPresence p s).link = s.link
     ∧ (portPresence p s).faults = s.faults ∧ (portPresence p s).gate = s.gate
     ∧ (portPresence p s).restartPending = s.restartPending ∧ (portPresence p s).free = s.free
     ∧ (portPresence p s).pending = s.pending := by
  unfold portPresence; repeat' split
  all_goals simp

@[simp] theorem becomeAligned_frame (s : State) :
    (becomeAligned s).pins = s.pins ∧ (becomeAligned s).straps = s.straps ∧ (becomeAligned s).enc = s.enc
     ∧ (becomeAligned s).pos = s.pos ∧ (becomeAligned s).work = s.work ∧ (becomeAligned s).peers = s.peers
     ∧ (becomeAligned s).ret = s.ret ∧ (becomeAligned s).node = s.node ∧ (becomeAligned s).homing = s.homing
     ∧ (becomeAligned s).homingOp = s.homingOp ∧ (becomeAligned s).sweep = s.sweep ∧ (becomeAligned s).cal = s.cal
     ∧ (becomeAligned s).setup = s.setup ∧ (becomeAligned s).store = s.store
     ∧ (becomeAligned s).selfCheck = s.selfCheck ∧ (becomeAligned s).link = s.link
     ∧ (becomeAligned s).faults = s.faults ∧ (becomeAligned s).gate = s.gate
     ∧ (becomeAligned s).restartPending = s.restartPending ∧ (becomeAligned s).free = s.free
     ∧ (becomeAligned s).pending = s.pending ∧ (becomeAligned s).epoch = { s.epoch with alignment := .aligned } := by
  simp [becomeAligned]

@[simp] theorem alignmentTimeout_frame (s : State) :
    (alignmentTimeout s).pins = s.pins ∧ (alignmentTimeout s).straps = s.straps ∧ (alignmentTimeout s).enc = s.enc
     ∧ (alignmentTimeout s).pos = s.pos ∧ (alignmentTimeout s).work = s.work ∧ (alignmentTimeout s).peers = s.peers
     ∧ (alignmentTimeout s).ret = s.ret ∧ (alignmentTimeout s).node = s.node ∧ (alignmentTimeout s).homing = s.homing
     ∧ (alignmentTimeout s).homingOp = s.homingOp ∧ (alignmentTimeout s).sweep = s.sweep
     ∧ (alignmentTimeout s).cal = s.cal ∧ (alignmentTimeout s).setup = s.setup ∧ (alignmentTimeout s).store = s.store
     ∧ (alignmentTimeout s).selfCheck = s.selfCheck ∧ (alignmentTimeout s).link = s.link
     ∧ (alignmentTimeout s).faults = s.faults ∧ (alignmentTimeout s).gate = s.gate
     ∧ (alignmentTimeout s).restartPending = s.restartPending ∧ (alignmentTimeout s).free = s.free
     ∧ (alignmentTimeout s).pending = s.pending ∧ (alignmentTimeout s).epoch.running = s.epoch.running
     ∧ (alignmentTimeout s).epoch.count = s.epoch.count ∧ (alignmentTimeout s).epoch.sync = s.epoch.sync
     ∧ (alignmentTimeout s).epoch.timer = s.epoch.timer ∧ (alignmentTimeout s).epoch.driveLow = s.epoch.driveLow
     ∧ (alignmentTimeout s).epoch.holding = s.epoch.holding ∧ (alignmentTimeout s).epoch.lowWatch = s.epoch.lowWatch
     ∧ (alignmentTimeout s).epoch.highWatch = s.epoch.highWatch
     ∧ (alignmentTimeout s).epoch.rejoinArmed = s.epoch.rejoinArmed
     ∧ (alignmentTimeout s).epoch.syncedRun = s.epoch.syncedRun
     ∧ (alignmentTimeout s).epoch.realignRun = s.epoch.realignRun
     ∧ (alignmentTimeout s).epoch.realignOffset = s.epoch.realignOffset
     ∧ (alignmentTimeout s).epoch.realignCount = s.epoch.realignCount
     ∧ (alignmentTimeout s).epoch.epochSynced = s.epoch.epochSynced
     ∧ (alignmentTimeout s).epoch.frames = s.epoch.frames ∧ (alignmentTimeout s).epoch.instants = s.epoch.instants
     ∧ (alignmentTimeout s).epoch.alignEdges = s.epoch.alignEdges := by
  unfold alignmentTimeout; split <;> simp

@[simp] theorem alignmentEdge_frame (s : State) :
    (alignmentEdge s).pins = s.pins ∧ (alignmentEdge s).straps = s.straps ∧ (alignmentEdge s).enc = s.enc
     ∧ (alignmentEdge s).pos = s.pos ∧ (alignmentEdge s).work = s.work ∧ (alignmentEdge s).peers = s.peers
     ∧ (alignmentEdge s).ret = s.ret ∧ (alignmentEdge s).node = s.node ∧ (alignmentEdge s).homing = s.homing
     ∧ (alignmentEdge s).homingOp = s.homingOp ∧ (alignmentEdge s).sweep = s.sweep ∧ (alignmentEdge s).cal = s.cal
     ∧ (alignmentEdge s).setup = s.setup ∧ (alignmentEdge s).store = s.store
     ∧ (alignmentEdge s).selfCheck = s.selfCheck ∧ (alignmentEdge s).link = s.link
     ∧ (alignmentEdge s).faults = s.faults ∧ (alignmentEdge s).gate = s.gate
     ∧ (alignmentEdge s).restartPending = s.restartPending ∧ (alignmentEdge s).free = s.free
     ∧ (alignmentEdge s).pending = s.pending ∧ (alignmentEdge s).epoch.running = s.epoch.running
     ∧ (alignmentEdge s).epoch.count = s.epoch.count ∧ (alignmentEdge s).epoch.sync = s.epoch.sync
     ∧ (alignmentEdge s).epoch.timer = s.epoch.timer ∧ (alignmentEdge s).epoch.driveLow = s.epoch.driveLow
     ∧ (alignmentEdge s).epoch.holding = s.epoch.holding ∧ (alignmentEdge s).epoch.lowWatch = s.epoch.lowWatch
     ∧ (alignmentEdge s).epoch.highWatch = s.epoch.highWatch
     ∧ (alignmentEdge s).epoch.rejoinArmed = s.epoch.rejoinArmed
     ∧ (alignmentEdge s).epoch.syncedRun = s.epoch.syncedRun
     ∧ (alignmentEdge s).epoch.realignRun = s.epoch.realignRun
     ∧ (alignmentEdge s).epoch.realignOffset = s.epoch.realignOffset
     ∧ (alignmentEdge s).epoch.realignCount = s.epoch.realignCount
     ∧ (alignmentEdge s).epoch.epochSynced = s.epoch.epochSynced ∧ (alignmentEdge s).epoch.frames = s.epoch.frames
     ∧ (alignmentEdge s).epoch.instants = s.epoch.instants := by
  unfold alignmentEdge; split <;> simp

@[simp] theorem syncedRun16_frame (s : State) :
    (syncedRun16 s).pins = s.pins ∧ (syncedRun16 s).straps = s.straps ∧ (syncedRun16 s).epoch = s.epoch
     ∧ (syncedRun16 s).enc = s.enc ∧ (syncedRun16 s).pos = s.pos ∧ (syncedRun16 s).work = s.work
     ∧ (syncedRun16 s).coupling = s.coupling ∧ (syncedRun16 s).peers = s.peers ∧ (syncedRun16 s).ret = s.ret
     ∧ (syncedRun16 s).node = s.node ∧ (syncedRun16 s).homing = s.homing ∧ (syncedRun16 s).homingOp = s.homingOp
     ∧ (syncedRun16 s).sweep = s.sweep ∧ (syncedRun16 s).cal = s.cal ∧ (syncedRun16 s).setup = s.setup
     ∧ (syncedRun16 s).store = s.store ∧ (syncedRun16 s).selfCheck = s.selfCheck ∧ (syncedRun16 s).link = s.link
     ∧ (syncedRun16 s).restartPending = s.restartPending ∧ (syncedRun16 s).free = s.free
     ∧ (syncedRun16 s).pending = s.pending ∧ (syncedRun16 s).gate.rdyLevel = s.gate.rdyLevel
     ∧ (syncedRun16 s).gate.travelSide = s.gate.travelSide := by
  unfold syncedRun16; split <;> simp

@[simp] theorem closeSweep_frame (s : State) :
    (closeSweep s).pins = s.pins ∧ (closeSweep s).straps = s.straps ∧ (closeSweep s).epoch = s.epoch
     ∧ (closeSweep s).enc = s.enc ∧ (closeSweep s).pos = s.pos ∧ (closeSweep s).work = s.work
     ∧ (closeSweep s).coupling = s.coupling ∧ (closeSweep s).peers = s.peers ∧ (closeSweep s).ret = s.ret
     ∧ (closeSweep s).node = s.node ∧ (closeSweep s).homing = s.homing ∧ (closeSweep s).homingOp = s.homingOp
     ∧ (closeSweep s).cal = s.cal ∧ (closeSweep s).setup = s.setup ∧ (closeSweep s).store = s.store
     ∧ (closeSweep s).selfCheck = s.selfCheck ∧ (closeSweep s).link = s.link ∧ (closeSweep s).faults = s.faults
     ∧ (closeSweep s).gate = s.gate ∧ (closeSweep s).restartPending = s.restartPending ∧ (closeSweep s).free = s.free
     ∧ (closeSweep s).pending = s.pending := by
  unfold closeSweep; split <;> simp

@[simp] theorem closeEpoch_frame (i : SampleInputs) (s : State) :
    (closeEpoch i s).pins = s.pins ∧ (closeEpoch i s).straps = s.straps ∧ (closeEpoch i s).epoch = s.epoch
     ∧ (closeEpoch i s).peers = s.peers ∧ (closeEpoch i s).setup = s.setup
     ∧ (closeEpoch i s).restartPending = s.restartPending ∧ (closeEpoch i s).pending = s.pending
     ∧ (closeEpoch i s).ret.record = s.ret.record ∧ (closeEpoch i s).ret.tracker = s.ret.tracker
     ∧ (closeEpoch i s).ret.stateLost = s.ret.stateLost ∧ (closeEpoch i s).ret.dwellMet = s.ret.dwellMet
     ∧ (closeEpoch i s).cal.valid = s.cal.valid ∧ (closeEpoch i s).store.writing = s.store.writing
     ∧ (closeEpoch i s).pos.established = s.pos.established ∧ (closeEpoch i s).pos.thetaLast = s.pos.thetaLast
     ∧ (closeEpoch i s).pos.deltaLast = s.pos.deltaLast ∧ (closeEpoch i s).pos.lastDir = s.pos.lastDir
     ∧ (closeEpoch i s).pos.firstQuarter = s.pos.firstQuarter ∧ (closeEpoch i s).link.watching = s.link.watching
     ∧ (closeEpoch i s).link.joined = s.link.joined ∧ (closeEpoch i s).link.awaitIdle = s.link.awaitIdle
     ∧ (closeEpoch i s).link.health = s.link.health ∧ (closeEpoch i s).link.intact = s.link.intact
     ∧ (closeEpoch i s).link.tx = s.link.tx ∧ (closeEpoch i s).link.replies = s.link.replies
     ∧ (closeEpoch i s).link.requests = s.link.requests ∧ (closeEpoch i s).link.recessiveRun = s.link.recessiveRun
     ∧ (closeEpoch i s).link.dominantRun = s.link.dominantRun ∧ (closeEpoch i s).link.stuck = s.link.stuck
     ∧ (closeEpoch i s).link.idlePeriods = s.link.idlePeriods
     ∧ (closeEpoch i s).link.requestOverrun = s.link.requestOverrun
     ∧ (closeEpoch i s).link.stuckCount = s.link.stuckCount ∧ (closeEpoch i s).gate.rdyLevel = s.gate.rdyLevel := by
  simp [closeEpoch]

@[simp] theorem beginEpoch_frame (i : SampleInputs) (s : State) :
    (beginEpoch i s).pins = s.pins ∧ (beginEpoch i s).straps = s.straps ∧ (beginEpoch i s).epoch = s.epoch
     ∧ (beginEpoch i s).pos = s.pos ∧ (beginEpoch i s).peers = s.peers ∧ (beginEpoch i s).ret = s.ret
     ∧ (beginEpoch i s).node = s.node ∧ (beginEpoch i s).homing = s.homing ∧ (beginEpoch i s).homingOp = s.homingOp
     ∧ (beginEpoch i s).sweep = s.sweep ∧ (beginEpoch i s).cal = s.cal ∧ (beginEpoch i s).setup = s.setup
     ∧ (beginEpoch i s).store = s.store ∧ (beginEpoch i s).selfCheck = s.selfCheck ∧ (beginEpoch i s).link = s.link
     ∧ (beginEpoch i s).faults = s.faults ∧ (beginEpoch i s).gate = s.gate
     ∧ (beginEpoch i s).restartPending = s.restartPending ∧ (beginEpoch i s).free = s.free
     ∧ (beginEpoch i s).pending = s.pending := by
  simp [beginEpoch]

@[simp] theorem beaconDue_frame (s : State) :
    (beaconDue s).pins = s.pins ∧ (beaconDue s).straps = s.straps ∧ (beaconDue s).epoch = s.epoch
     ∧ (beaconDue s).enc = s.enc ∧ (beaconDue s).pos = s.pos ∧ (beaconDue s).work = s.work
     ∧ (beaconDue s).coupling = s.coupling ∧ (beaconDue s).peers = s.peers ∧ (beaconDue s).ret = s.ret
     ∧ (beaconDue s).node = s.node ∧ (beaconDue s).homing = s.homing ∧ (beaconDue s).homingOp = s.homingOp
     ∧ (beaconDue s).sweep = s.sweep ∧ (beaconDue s).cal = s.cal ∧ (beaconDue s).setup = s.setup
     ∧ (beaconDue s).store = s.store ∧ (beaconDue s).selfCheck = s.selfCheck ∧ (beaconDue s).faults = s.faults
     ∧ (beaconDue s).gate = s.gate ∧ (beaconDue s).restartPending = s.restartPending ∧ (beaconDue s).free = s.free
     ∧ (beaconDue s).pending = s.pending ∧ (beaconDue s).link.watching = s.link.watching
     ∧ (beaconDue s).link.joined = s.link.joined ∧ (beaconDue s).link.awaitIdle = s.link.awaitIdle
     ∧ (beaconDue s).link.health = s.link.health ∧ (beaconDue s).link.intact = s.link.intact
     ∧ (beaconDue s).link.tx = s.link.tx ∧ (beaconDue s).link.replies = s.link.replies
     ∧ (beaconDue s).link.requests = s.link.requests ∧ (beaconDue s).link.recessiveRun = s.link.recessiveRun
     ∧ (beaconDue s).link.dominantRun = s.link.dominantRun ∧ (beaconDue s).link.stuck = s.link.stuck
     ∧ (beaconDue s).link.idlePeriods = s.link.idlePeriods
     ∧ (beaconDue s).link.requestOverrun = s.link.requestOverrun ∧ (beaconDue s).link.stuckCount = s.link.stuckCount := by
  unfold beaconDue; split <;> simp

@[simp] theorem beaconTick_frame (s : State) :
    (beaconTick s).pins = s.pins ∧ (beaconTick s).straps = s.straps ∧ (beaconTick s).epoch = s.epoch
     ∧ (beaconTick s).enc = s.enc ∧ (beaconTick s).pos = s.pos ∧ (beaconTick s).work = s.work
     ∧ (beaconTick s).coupling = s.coupling ∧ (beaconTick s).peers = s.peers ∧ (beaconTick s).ret = s.ret
     ∧ (beaconTick s).node = s.node ∧ (beaconTick s).homing = s.homing ∧ (beaconTick s).homingOp = s.homingOp
     ∧ (beaconTick s).sweep = s.sweep ∧ (beaconTick s).cal = s.cal ∧ (beaconTick s).setup = s.setup
     ∧ (beaconTick s).store = s.store ∧ (beaconTick s).selfCheck = s.selfCheck ∧ (beaconTick s).faults = s.faults
     ∧ (beaconTick s).gate = s.gate ∧ (beaconTick s).restartPending = s.restartPending ∧ (beaconTick s).free = s.free
     ∧ (beaconTick s).pending = s.pending ∧ (beaconTick s).link.watching = s.link.watching
     ∧ (beaconTick s).link.joined = s.link.joined ∧ (beaconTick s).link.awaitIdle = s.link.awaitIdle
     ∧ (beaconTick s).link.health = s.link.health ∧ (beaconTick s).link.intact = s.link.intact
     ∧ (beaconTick s).link.tx = s.link.tx ∧ (beaconTick s).link.replies = s.link.replies
     ∧ (beaconTick s).link.requests = s.link.requests ∧ (beaconTick s).link.recessiveRun = s.link.recessiveRun
     ∧ (beaconTick s).link.dominantRun = s.link.dominantRun ∧ (beaconTick s).link.stuck = s.link.stuck
     ∧ (beaconTick s).link.idlePeriods = s.link.idlePeriods
     ∧ (beaconTick s).link.requestOverrun = s.link.requestOverrun
     ∧ (beaconTick s).link.stuckCount = s.link.stuckCount := by
  unfold beaconTick; split <;> simp

@[simp] theorem handInstant_frame (s : State) :
    (handInstant s).pins = s.pins ∧ (handInstant s).straps = s.straps ∧ (handInstant s).epoch = s.epoch
     ∧ (handInstant s).enc = s.enc ∧ (handInstant s).work = s.work ∧ (handInstant s).coupling = s.coupling
     ∧ (handInstant s).ret = s.ret ∧ (handInstant s).cal = s.cal ∧ (handInstant s).setup = s.setup
     ∧ (handInstant s).store = s.store ∧ (handInstant s).restartPending = s.restartPending
     ∧ (handInstant s).pending = s.pending ∧ (handInstant s).gate.rdyLevel = s.gate.rdyLevel
     ∧ (handInstant s).gate.travelSide = s.gate.travelSide ∧ (handInstant s).pos.established = s.pos.established
     ∧ (handInstant s).pos.p = s.pos.p ∧ (handInstant s).pos.thetaLast = s.pos.thetaLast
     ∧ (handInstant s).pos.deltaLast = s.pos.deltaLast ∧ (handInstant s).pos.failedRun = s.pos.failedRun
     ∧ (handInstant s).pos.s = s.pos.s ∧ (handInstant s).pos.playKnown = s.pos.playKnown
     ∧ (handInstant s).pos.acc = s.pos.acc ∧ (handInstant s).pos.lastDir = s.pos.lastDir
     ∧ (handInstant s).pos.j = s.pos.j ∧ (handInstant s).pos.evaluated = s.pos.evaluated
     ∧ (handInstant s).pos.gq = s.pos.gq ∧ (handInstant s).pos.jg = s.pos.jg
     ∧ (handInstant s).pos.usable = s.pos.usable ∧ (handInstant s).pos.lastE = s.pos.lastE
     ∧ (handInstant s).pos.lastSj = s.pos.lastSj ∧ (handInstant s).pos.firstQuarter = s.pos.firstQuarter
     ∧ (handInstant s).link.watching = s.link.watching ∧ (handInstant s).link.joined = s.link.joined
     ∧ (handInstant s).link.awaitIdle = s.link.awaitIdle ∧ (handInstant s).link.health = s.link.health
     ∧ (handInstant s).link.intact = s.link.intact ∧ (handInstant s).link.tx = s.link.tx
     ∧ (handInstant s).link.replies = s.link.replies ∧ (handInstant s).link.requests = s.link.requests
     ∧ (handInstant s).link.recessiveRun = s.link.recessiveRun
     ∧ (handInstant s).link.dominantRun = s.link.dominantRun ∧ (handInstant s).link.stuck = s.link.stuck
     ∧ (handInstant s).link.idlePeriods = s.link.idlePeriods
     ∧ (handInstant s).link.requestOverrun = s.link.requestOverrun
     ∧ (handInstant s).link.stuckCount = s.link.stuckCount := by
  simp [handInstant]

@[simp] theorem sampleInstant_frame (b : Bool) (i : SampleInputs) (s : State) :
    (sampleInstant b i s).pins = s.pins ∧ (sampleInstant b i s).straps = s.straps
     ∧ (sampleInstant b i s).setup = s.setup ∧ (sampleInstant b i s).restartPending = s.restartPending
     ∧ (sampleInstant b i s).pending = s.pending ∧ (sampleInstant b i s).ret.record = s.ret.record
     ∧ (sampleInstant b i s).ret.tracker = s.ret.tracker ∧ (sampleInstant b i s).ret.stateLost = s.ret.stateLost
     ∧ (sampleInstant b i s).ret.dwellMet = s.ret.dwellMet ∧ (sampleInstant b i s).cal.valid = s.cal.valid
     ∧ (sampleInstant b i s).store.writing = s.store.writing
     ∧ (sampleInstant b i s).pos.established = s.pos.established
     ∧ (sampleInstant b i s).pos.thetaLast = s.pos.thetaLast ∧ (sampleInstant b i s).pos.deltaLast = s.pos.deltaLast
     ∧ (sampleInstant b i s).pos.lastDir = s.pos.lastDir
     ∧ (sampleInstant b i s).pos.firstQuarter = s.pos.firstQuarter
     ∧ (sampleInstant b i s).link.watching = s.link.watching ∧ (sampleInstant b i s).link.joined = s.link.joined
     ∧ (sampleInstant b i s).link.awaitIdle = s.link.awaitIdle ∧ (sampleInstant b i s).link.health = s.link.health
     ∧ (sampleInstant b i s).link.intact = s.link.intact ∧ (sampleInstant b i s).link.tx = s.link.tx
     ∧ (sampleInstant b i s).link.replies = s.link.replies ∧ (sampleInstant b i s).link.requests = s.link.requests
     ∧ (sampleInstant b i s).link.recessiveRun = s.link.recessiveRun
     ∧ (sampleInstant b i s).link.dominantRun = s.link.dominantRun ∧ (sampleInstant b i s).link.stuck = s.link.stuck
     ∧ (sampleInstant b i s).link.idlePeriods = s.link.idlePeriods
     ∧ (sampleInstant b i s).link.requestOverrun = s.link.requestOverrun
     ∧ (sampleInstant b i s).link.stuckCount = s.link.stuckCount
     ∧ (sampleInstant b i s).gate.rdyLevel = s.gate.rdyLevel := by
  simp [sampleInstant]

@[simp] theorem risingEdge_frame (i : SampleInputs) (s : State) :
    (risingEdge i s).pins = s.pins ∧ (risingEdge i s).straps = s.straps ∧ (risingEdge i s).setup = s.setup
     ∧ (risingEdge i s).restartPending = s.restartPending ∧ (risingEdge i s).pending = s.pending
     ∧ (risingEdge i s).ret.record = s.ret.record ∧ (risingEdge i s).ret.tracker = s.ret.tracker
     ∧ (risingEdge i s).ret.stateLost = s.ret.stateLost ∧ (risingEdge i s).ret.dwellMet = s.ret.dwellMet
     ∧ (risingEdge i s).cal.valid = s.cal.valid ∧ (risingEdge i s).store.writing = s.store.writing
     ∧ (risingEdge i s).pos.established = s.pos.established ∧ (risingEdge i s).pos.thetaLast = s.pos.thetaLast
     ∧ (risingEdge i s).pos.deltaLast = s.pos.deltaLast ∧ (risingEdge i s).pos.lastDir = s.pos.lastDir
     ∧ (risingEdge i s).pos.firstQuarter = s.pos.firstQuarter ∧ (risingEdge i s).link.watching = s.link.watching
     ∧ (risingEdge i s).link.joined = s.link.joined ∧ (risingEdge i s).link.awaitIdle = s.link.awaitIdle
     ∧ (risingEdge i s).link.health = s.link.health ∧ (risingEdge i s).link.intact = s.link.intact
     ∧ (risingEdge i s).link.tx = s.link.tx ∧ (risingEdge i s).link.replies = s.link.replies
     ∧ (risingEdge i s).link.requests = s.link.requests ∧ (risingEdge i s).link.recessiveRun = s.link.recessiveRun
     ∧ (risingEdge i s).link.dominantRun = s.link.dominantRun ∧ (risingEdge i s).link.stuck = s.link.stuck
     ∧ (risingEdge i s).link.idlePeriods = s.link.idlePeriods
     ∧ (risingEdge i s).link.requestOverrun = s.link.requestOverrun
     ∧ (risingEdge i s).link.stuckCount = s.link.stuckCount ∧ (risingEdge i s).gate.rdyLevel = s.gate.rdyLevel := by
  unfold risingEdge; repeat' split
  all_goals simp

end Sys2Proof.Machine
end

