-- ==== Sys2Proof/Laws/Ops.lean ====
section
/-! SUPPORT. What the shared arithmetic answers: ranges, clamps, saturating counters, rounding, residues,
kind sets and bin masks, one lemma each. -/

namespace Sys2Proof.Machine

theorem inRange_iff {lo hi x : Int} : inRange lo hi x = true ↔ lo ≤ x ∧ x ≤ hi := by
  unfold inRange; rw [Bool.and_eq_true, decide_eq_true_iff, decide_eq_true_iff]

theorem inRange_eq_false_iff {lo hi x : Int} : inRange lo hi x = false ↔ x < lo ∨ hi < x := by
  rw [← Bool.not_eq_true, inRange_iff]; omega

theorem clampInt_eq {lo hi : Int} (h : lo ≤ hi) (x : Int) : clampInt lo hi x = max lo (min hi x) := by
  unfold clampInt; split
  · omega
  · split <;> omega

theorem clampNat_bounds {lo hi : Nat} (h : lo ≤ hi) (x : Nat) : lo ≤ clampNat lo hi x ∧ clampNat lo hi x ≤ hi := by
  unfold clampNat; split
  · omega
  · split <;> omega

theorem satSucc_le (bound n : Nat) : satSucc bound n ≤ bound := by
  unfold satSucc; split <;> omega

theorem satSucc_eq_min (bound n : Nat) : satSucc bound n = min bound (n + 1) := by
  unfold satSucc; split <;> omega

/-- The rounded quotient lies within half a divisor of the quotient. -/
theorem roundDiv_near (a : Int) (b : Nat) (hb : 0 < b) :
    2 * (a - b * roundDiv a b) ≤ b ∧ -(b : Int) ≤ 2 * (a - b * roundDiv a b) := by
  unfold roundDiv
  split
  · have h := Int.mul_ediv_add_emod (2 * a + b) (2 * b)
    have h1 := Int.emod_nonneg (2 * a + b) (b := 2 * b) (by omega)
    have h2 := Int.emod_lt_of_pos (2 * a + b) (b := 2 * b) (by omega)
    generalize (2 * a + b) / (2 * b) = q at *
    generalize (2 * a + b) % (2 * b) = r at *
    have e : 2 * (b : Int) * q = 2 * (b * q) := mul_assoc _ _ _
    constructor <;> linarith
  · have h := Int.mul_ediv_add_emod (2 * -a + b) (2 * b)
    have h1 := Int.emod_nonneg (2 * -a + b) (b := 2 * b) (by omega)
    have h2 := Int.emod_lt_of_pos (2 * -a + b) (b := 2 * b) (by omega)
    generalize (2 * -a + b) / (2 * b) = q at *
    generalize (2 * -a + b) % (2 * b) = r at *
    have e : 2 * (b : Int) * q = 2 * (b * q) := mul_assoc _ _ _
    constructor <;> linarith [mul_neg (b : Int) q]

theorem wrapS_bounds (x : Int) : -8192 ≤ wrapS x ∧ wrapS x ≤ 8191 ∧ (x - wrapS x) % 16384 = 0 := by
  unfold wrapS
  rw [BitVec.toInt_ofInt]
  unfold Int.bmod
  refine ⟨?_, ?_, ?_⟩ <;> (norm_num; split <;> omega)

theorem signed65536_bounds (x : Int) :
    -32768 ≤ signed65536 x ∧ signed65536 x ≤ 32767 ∧ (x - signed65536 x) % 65536 = 0 := by
  unfold signed65536
  rw [BitVec.toInt_ofInt]
  unfold Int.bmod
  refine ⟨?_, ?_, ?_⟩ <;> (norm_num; split <;> omega)

theorem home32_bounds (x : Int) : -2147483648 ≤ home32 x ∧ home32 x ≤ 2147483647 := by
  unfold home32
  split
  · rename_i h
    exact inRange_iff.1 h
  · have h1 := BitVec.le_toInt (BitVec.ofInt 32 (Config.outside32 x))
    have h2 := BitVec.toInt_lt (x := BitVec.ofInt 32 (Config.outside32 x))
    rw [show (2 : Int) ^ (32 - 1) = 2147483648 by norm_num] at h1 h2
    omega

theorem home32_eq {x : Int} (h1 : -2147483648 ≤ x) (h2 : x ≤ 2147483647) : home32 x = x := by
  exact if_pos (inRange_iff.2 ⟨h1, h2⟩)

/-- Membership after an addition. -/
@[simp] theorem kindHas_kindAdd (x : KindSet) (k j : FaultKind) :
    kindHas (kindAdd x k) j = (decide (k = j) || kindHas x j) := by
  have h : kindHas (kindAdd x k) j = (kindHas x j || (1#16 <<< (kindIndex k).val).getLsbD (kindIndex j).val) := by
    simp [kindHas, kindAdd]
  rw [h]
  cases k <;> cases j <;> simp [kindIndex]

/-- Membership after a removal. -/
@[simp] theorem kindHas_kindRemove (x : KindSet) (k j : FaultKind) :
    kindHas (kindRemove x k) j = (decide (k ≠ j) && kindHas x j) := by
  have h : kindHas (kindRemove x k) j = (kindHas x j && (~~~(1#16 <<< (kindIndex k).val)).getLsbD (kindIndex j).val) := by
    simp only [kindHas, kindRemove, BitVec.getLsbD_and]
  rw [h]
  cases k <;> cases j <;> simp [kindIndex]

end Sys2Proof.Machine
end

