-- ==== Sys2Proof/Laws/Settle.lean ====
section
/-! SUPPORT. How an event settles: `conclude` in the vocabulary of Safety.lean, and when it changes
nothing. -/

namespace Sys2Proof.Machine

theorem mirrorSync_eq (s0 s : State) :
    mirrorSync s0 s = { s with ret := { s.ret with mirror := mirrorAfter s0 s } } := by
  unfold mirrorSync mirrorAfter
  by_cases h1 : s.mainUp = true <;> by_cases h2 : s.ret.mirror.held = true <;> simp_all [State.setRet]
  split <;> simp_all

theorem conclude_eq (s0 s : State) :
    conclude s0 s =
      publish s0 { s with ret := { s.ret with mirror := mirrorAfter s0 s }, gate := gateAfter s0 s } := by
  unfold conclude
  rw [mirrorSync_eq]
  congr 1
  unfold judgeGate gateAfter
  have hp : ({ s with ret := { s.ret with mirror := mirrorAfter s0 s } } : State).permission = s.permission := rfl
  rw [hp]
  split
  · rename_i h
    simp
  · rename_i h
    simp [State.setGate]

/-- Every event ends as `Settles` says. -/
theorem conclude_settles (s0 s : State) : Settles s0 s (conclude s0 s) := by
  rw [conclude_eq]
  unfold publish
  split
  · constructor <;> simp_all
  · rename_i h
    unfold placeStatus
    by_cases hpl : s.link.placing = true
    · simp only [hpl, if_true]
      constructor <;> try rfl
      · intro _ _
        exact ⟨rfl, rfl⟩
      · rintro (h' | h')
        · exact absurd h' h
        · simp [hpl] at h'
    · simp only [hpl]
      constructor <;> try rfl
      · intro _ h'
        exact absurd h' hpl
      · intro _
        exact ⟨rfl, rfl⟩

/-- An event that changes no input of the mirror, the gate or the STATUS frame settles at once. -/
theorem conclude_quiet {s0 s : State} (hm : mirrorAfter s0 s = s.ret.mirror) (hp : s0.permission = s.permission)
    (ht : s0.statusTriggers = s.statusTriggers) : conclude s0 s = s := by
  obtain ⟨r, m, g, p, k⟩ := conclude_settles s0 s
  have hg : gateAfter s0 s = s.gate := by simp [gateAfter, hp]
  rw [hm] at m
  rw [hg] at g
  have hst : (conclude s0 s).statusTriggers = s.statusTriggers := by
    rw [r, g]
    rfl
  have h := k (Or.inl (by rw [hst, ht]))
  rw [r, m, g, h.1, h.2]

/-- The mirror is not written when neither its hold nor the Position Unit has changed. -/
theorem mirrorAfter_same {s0 s : State} (h1 : s.ret.mirror.held = s0.ret.mirror.held) (h2 : s.pos = s0.pos) :
    mirrorAfter s0 s = s.ret.mirror := by
  unfold mirrorAfter
  split
  · rename_i h
    obtain ⟨_, h, h' | h'⟩ := h
    · rw [← h1, h] at h'
      cases h'
    · rw [h2] at h'
      exact absurd rfl h'
  · rfl

/-- Nor is it written while the main domain is down. -/
theorem mirrorAfter_down {s0 s : State} (h : s.mainUp = false) : mirrorAfter s0 s = s.ret.mirror := by
  simp [mirrorAfter, h]

/-- An event without an effect leaves the state as it was. -/
theorem conclude_self (s : State) : conclude s s = s :=
  conclude_quiet (mirrorAfter_same rfl rfl) rfl rfl

/-! ### A permission judged twice -/

/-- One judgement of the permission, as the gate after it. -/
theorem judgeGate_eq (s0 s : State) : judgeGate s0 s = { s with gate := gateAfter s0 s } := by
  unfold judgeGate gateAfter
  split <;> rfl

/-- A gate that has answered a permission answers it no second time. -/
theorem gateOn_gateOn (p : Bool) (g : MotionGate) : gateOn p (gateOn p g) = gateOn p g := by
  rcases g with ⟨gs, _, _, _, _⟩
  cases gs <;> cases p <;> rfl

/-- The permission reads the grant, the jog flag and the RDY level of the gate, and not its state. -/
theorem permission_gate (s : State) (g : GateState) :
    ({ s with gate := { s.gate with state := g } } : State).permission = s.permission := rfl

/-- Without a grant there is no permission. -/
theorem permission_noGrant (s : State) (h : s.gate.grant = false) : s.permission = false := by
  simp [State.permission, h]

/-- The gate's answer does not change the permission it answers. -/
theorem permission_gateOn (s : State) (p : Bool) (h : s.permission = p) :
    ({ s with gate := gateOn p s.gate } : State).permission = p := by
  have same : ({ s with gate := s.gate } : State).permission = p := h
  cases hg : s.gate.state <;> cases p <;> simp only [gateOn, hg]
  · exact same
  · exact (permission_gate s .enabling).trans h
  · exact permission_noGrant _ rfl
  · exact same
  · exact permission_noGrant _ rfl
  · exact same
  · exact same
  · exact same

/-- A permission judged inside an event and again at its end acts once. -/
theorem gateAfter_judged (s0 s : State) : gateAfter s0 { s with gate := gateAfter s0 s } = gateAfter s0 s := by
  by_cases h : s0.permission = s.permission
  · simp [gateAfter, h]
  · have hg : gateAfter s0 s = gateOn s.permission s.gate := by simp [gateAfter, h]
    rw [hg]
    unfold gateAfter
    rw [permission_gateOn s _ rfl]
    simp [h, gateOn_gateOn]

/-- An event settles from the state of its own effects, whether or not the permission was judged at them. -/
theorem settles_judged (s0 s : State) : Settles s0 s (conclude s0 (judgeGate s0 s)) := by
  rw [judgeGate_eq]
  obtain ⟨r, m, g, p, k⟩ := conclude_settles s0 { s with gate := gateAfter s0 s }
  exact ⟨r, m, g.trans (gateAfter_judged s0 s), p, k⟩

end Sys2Proof.Machine
end

