-- ==== Sys2Proof/Laws/Faults.lean ====
section
/-! SUPPORT. What a notice and the end of a condition do to the supervisor's record, and which part of
the node a notice reaches. -/

namespace Sys2Proof.Machine

theorem eventKind_iff (k : FaultKind) :
    eventKind k = true ↔ k = .trackJump ∨ k = .vernierDrift ∨ k = .travelLimit ∨ k = .storeFailed := by
  cases k <;> simp [eventKind]

theorem removingKind_iff (k : FaultKind) :
    removingKind k = true ↔ k = .motorEncoder ∨ k = .trackJump ∨ k = .vernierDrift := by
  cases k <;> simp [removingKind]

theorem any_kinds (p : FaultKind → Bool) : allKinds.any p = true ↔ ∃ k, p k = true := by
  constructor
  · intro h
    obtain ⟨k, _, h⟩ := List.any_eq_true.1 h
    exact ⟨k, h⟩
  · rintro ⟨k, h⟩
    exact List.any_eq_true.2 ⟨k, by cases k <;> decide, h⟩

theorem notedPresent_self (p : KindSet) (k : FaultKind) : kindHas (notedPresent p k) k = !eventKind k := by
  unfold notedPresent
  split <;> simp_all

theorem notedPresent_other (p : KindSet) {k j : FaultKind} (h : j ≠ k) :
    kindHas (notedPresent p k) j = kindHas p j := by
  unfold notedPresent
  split <;> simp [h.symm]

/-- The retry timer of a notice (R177). -/
theorem startRetry_faults (k : FaultKind) (s : State) :
    (startRetry k s).faults = { s.faults with
      retryTimer := if k = .motorEncoder ∧ s.setup.latched.recovery = .retry then .running else s.faults.retryTimer } := by
  unfold startRetry
  by_cases h : k = .motorEncoder <;> by_cases h2 : s.setup.latched.recovery = .retry <;> simp [h, h2]

theorem startRetry_node (k : FaultKind) (s : State) : (startRetry k s).node = s.node := by
  unfold startRetry
  split <;> rfl

/-- A notice of a kind that is not active enters it. -/
theorem noticeWith_entry (k : FaultKind) (why : JumpReason) (s : State) (h : s.active k = false) :
    (noticeWith k why s).faults = { enterKind k (s.recordOf k why) s.faults with
      retryTimer := if k = .motorEncoder ∧ s.setup.latched.recovery = .retry then .running else s.faults.retryTimer } := by
  simp only [noticeWith, h, entryNotice]
  simp [startRetry_faults, enterKind]

/-- A notice of an active kind repeats it. -/
theorem noticeWith_repeat (k : FaultKind) (why : JumpReason) (s : State) (h : s.active k = true) :
    (noticeWith k why s).faults = { s.faults with
      present := notedPresent s.faults.present k
      retryTimer := if k = .motorEncoder ∧ s.setup.latched.recovery = .retry then .running else s.faults.retryTimer } := by
  simp only [noticeWith, h, repeatNotice]
  simp [startRetry_faults]
  congr

theorem noticeWith_active (k : FaultKind) (why : JumpReason) (s : State) :
    kindHas (noticeWith k why s).faults.active k = true := by
  by_cases h : s.active k = true
  · rw [noticeWith_repeat k why s h]
    simpa [State.active] using h
  · rw [noticeWith_entry k why s (by simpa using h)]
    simp [enterKind]

/-- A notice keeps every other kind active that was active. -/
theorem noticeWith_keeps {k j : FaultKind} (why : JumpReason) {s : State} (h : s.active j = true) :
    (noticeWith k why s).active j = true := by
  by_cases hk : j = k
  · subst hk
    exact noticeWith_active j why s
  · have hs : kindHas s.faults.active j = true := h
    rw [State.active]
    by_cases ha : s.active k = true
    · rw [noticeWith_repeat k why s ha]
      exact hs
    · rw [noticeWith_entry k why s (by simpa using ha)]
      simp [enterKind, Ne.symm hk, hs]

/-- An entry changes the supervisor's record and the gate before the node moves. -/
theorem startRetry_entry (k : FaultKind) (f : FaultSupervisor) (s : State) :
    ∃ f' g, startRetry k (moveFaults f s) = (s.setFaults f').setGate g := by
  refine ⟨(startRetry k (moveFaults f s)).faults, (startRetry k (moveFaults f s)).gate, ?_⟩
  unfold startRetry moveFaults judgeGate
  repeat' split
  all_goals rfl

/-- A repeat changes the supervisor's record. -/
theorem startRetry_repeat (k : FaultKind) (f : FaultSupervisor) (s : State) :
    ∃ f' g, startRetry k (s.setFaults f) = (s.setFaults f').setGate g := by
  refine ⟨(startRetry k (s.setFaults f)).faults, s.gate, ?_⟩
  unfold startRetry
  split <;> rfl

/-- A notice of a removing kind is the removal of the absolute count over the supervisor's new record and
the gate it leaves. -/
theorem noticeWith_removing (k : FaultKind) (why : JumpReason) (s : State) (h : removingKind k = true) :
    ∃ f g, noticeWith k why s = removeAbsolute (!s.active k) ((s.setFaults f).setGate g) := by
  by_cases ha : s.active k = true
  · obtain ⟨f, g, e⟩ := startRetry_repeat k { s.faults with present := notedPresent s.faults.present k } s
    refine ⟨f, g, ?_⟩
    simp only [noticeWith, ha, if_true, repeatNotice, removeByKind, h, e]
    rfl
  · obtain ⟨f, g, e⟩ := startRetry_entry k (enterKind k (s.recordOf k why) s.faults) s
    refine ⟨f, g, ?_⟩
    simp only [noticeWith, ha, entryNotice, removeByKind, h, endHomingByFault, e]
    simp

/-- A notice of any other kind changes the supervisor's record and the gate and, at an entry, may end a
homing. -/
theorem noticeWith_keeping (k : FaultKind) (why : JumpReason) (s : State) (h : removingKind k = false) :
    ∃ f g, noticeWith k why s =
      if s.active k then (s.setFaults f).setGate g else endHomingByFault k ((s.setFaults f).setGate g) := by
  by_cases ha : s.active k = true
  · obtain ⟨f, g, e⟩ := startRetry_repeat k { s.faults with present := notedPresent s.faults.present k } s
    refine ⟨f, g, ?_⟩
    simp [noticeWith, ha, repeatNotice, removeByKind, h, e]
  · obtain ⟨f, g, e⟩ := startRetry_entry k (enterKind k (s.recordOf k why) s.faults) s
    refine ⟨f, g, ?_⟩
    simp [noticeWith, ha, entryNotice, removeByKind, h, e]

/-- A notice of a kind that keeps the absolute count leaves ABS as it was. -/
theorem notice_pos_abs (k : FaultKind) (s : State) (h : removingKind k = false) : (notice k s).pos.abs = s.pos.abs := by
  cases k <;> simp [removingKind] at h <;>
    simp [notice, noticeWith, entryNotice, repeatNotice, removeByKind, removingKind] <;> split <;> simp

/-- The end of a homing: the record closed, the node back where it came from. -/
theorem endHoming_homing (o : HomingOutcome) (r : HomingReason) (s : State) (h : s.inHoming = true) :
    (endHoming o r s).homing = { s.homing with outcome := o, reason := r } := by
  rw [endHoming, if_pos h]
  unfold returnFromHoming closeHoming
  split <;> simp

theorem endHoming_state (o : HomingOutcome) (r : HomingReason) (s : State) (h : s.inHoming = true) :
    (endHoming o r s).node.state = (if s.homing.before = some .referenced then .referenced else .unreferenced) := by
  rw [endHoming, if_pos h]
  unfold returnFromHoming closeHoming
  rcases hb : s.homing.before with _ | (_ | _) <;> simp [hb]

end Sys2Proof.Machine
end

