-- ==== Sys2Proof/Laws/Link.lean ====
section
/-! SUPPORT. What the store's and the Link Controller's operations leave unchanged: one frame lemma per operation. -/

namespace Sys2Proof.Machine

@[simp] theorem restartEntry_frame (low : Bool) (s : State) :
    (restartEntry low s).straps = s.straps ∧ (restartEntry low s).free = s.free
     ∧ (restartEntry low s).pending = s.pending := by
  simp [restartEntry, enterRetain, mainStart]

@[simp] theorem detach_frame (low : Bool) (s : State) :
    (detach low s).straps = s.straps ∧ (detach low s).free = s.free ∧ (detach low s).pending = s.pending := by
  unfold detach; dsimp only; split <;> simp

@[simp] theorem easeHealth_frame (s : State) :
    (easeHealth s).pins = s.pins ∧ (easeHealth s).straps = s.straps ∧ (easeHealth s).epoch = s.epoch
     ∧ (easeHealth s).enc = s.enc ∧ (easeHealth s).pos = s.pos ∧ (easeHealth s).work = s.work
     ∧ (easeHealth s).coupling = s.coupling ∧ (easeHealth s).peers = s.peers ∧ (easeHealth s).ret = s.ret
     ∧ (easeHealth s).node = s.node ∧ (easeHealth s).homing = s.homing ∧ (easeHealth s).homingOp = s.homingOp
     ∧ (easeHealth s).sweep = s.sweep ∧ (easeHealth s).cal = s.cal ∧ (easeHealth s).setup = s.setup
     ∧ (easeHealth s).store = s.store ∧ (easeHealth s).selfCheck = s.selfCheck ∧ (easeHealth s).faults = s.faults
     ∧ (easeHealth s).gate = s.gate ∧ (easeHealth s).restartPending = s.restartPending ∧ (easeHealth s).free = s.free
     ∧ (easeHealth s).pending = s.pending := by
  unfold easeHealth; split <;> simp

@[simp] theorem worsenHealth_frame (n : Nat) (low : Bool) (s : State) :
    (worsenHealth n low s).straps = s.straps ∧ (worsenHealth n low s).free = s.free
     ∧ (worsenHealth n low s).pending = s.pending := by
  unfold worsenHealth; dsimp only; repeat' split
  all_goals simp

@[simp] theorem intactCount32_frame (s : State) :
    (intactCount32 s).pins = s.pins ∧ (intactCount32 s).straps = s.straps ∧ (intactCount32 s).epoch = s.epoch
     ∧ (intactCount32 s).enc = s.enc ∧ (intactCount32 s).pos = s.pos ∧ (intactCount32 s).work = s.work
     ∧ (intactCount32 s).coupling = s.coupling ∧ (intactCount32 s).peers = s.peers ∧ (intactCount32 s).ret = s.ret
     ∧ (intactCount32 s).node = s.node ∧ (intactCount32 s).homing = s.homing
     ∧ (intactCount32 s).homingOp = s.homingOp ∧ (intactCount32 s).sweep = s.sweep ∧ (intactCount32 s).cal = s.cal
     ∧ (intactCount32 s).setup = s.setup ∧ (intactCount32 s).store = s.store
     ∧ (intactCount32 s).selfCheck = s.selfCheck ∧ (intactCount32 s).faults = s.faults
     ∧ (intactCount32 s).gate = s.gate ∧ (intactCount32 s).restartPending = s.restartPending
     ∧ (intactCount32 s).free = s.free ∧ (intactCount32 s).pending = s.pending := by
  unfold intactCount32; split <;> simp

@[simp] theorem linkRejoin_frame (s : State) :
    (linkRejoin s).pins = s.pins ∧ (linkRejoin s).straps = s.straps ∧ (linkRejoin s).epoch = s.epoch
     ∧ (linkRejoin s).enc = s.enc ∧ (linkRejoin s).pos = s.pos ∧ (linkRejoin s).work = s.work
     ∧ (linkRejoin s).coupling = s.coupling ∧ (linkRejoin s).peers = s.peers ∧ (linkRejoin s).ret = s.ret
     ∧ (linkRejoin s).node = s.node ∧ (linkRejoin s).homing = s.homing ∧ (linkRejoin s).homingOp = s.homingOp
     ∧ (linkRejoin s).sweep = s.sweep ∧ (linkRejoin s).cal = s.cal ∧ (linkRejoin s).setup = s.setup
     ∧ (linkRejoin s).store = s.store ∧ (linkRejoin s).selfCheck = s.selfCheck
     ∧ (linkRejoin s).restartPending = s.restartPending ∧ (linkRejoin s).free = s.free
     ∧ (linkRejoin s).pending = s.pending ∧ (linkRejoin s).gate.rdyLevel = s.gate.rdyLevel
     ∧ (linkRejoin s).gate.travelSide = s.gate.travelSide := by
  unfold linkRejoin; split <;> simp

@[simp] theorem countIdle_frame (s : State) :
    (countIdle s).pins = s.pins ∧ (countIdle s).straps = s.straps ∧ (countIdle s).epoch = s.epoch
     ∧ (countIdle s).enc = s.enc ∧ (countIdle s).pos = s.pos ∧ (countIdle s).work = s.work
     ∧ (countIdle s).coupling = s.coupling ∧ (countIdle s).peers = s.peers ∧ (countIdle s).ret = s.ret
     ∧ (countIdle s).node = s.node ∧ (countIdle s).homing = s.homing ∧ (countIdle s).homingOp = s.homingOp
     ∧ (countIdle s).sweep = s.sweep ∧ (countIdle s).cal = s.cal ∧ (countIdle s).setup = s.setup
     ∧ (countIdle s).store = s.store ∧ (countIdle s).selfCheck = s.selfCheck
     ∧ (countIdle s).restartPending = s.restartPending ∧ (countIdle s).free = s.free
     ∧ (countIdle s).pending = s.pending ∧ (countIdle s).gate.rdyLevel = s.gate.rdyLevel
     ∧ (countIdle s).gate.travelSide = s.gate.travelSide := by
  unfold countIdle; split <;> simp

@[simp] theorem restartAfter_frame (x : Transmission) (l : LinkController) (low : Bool) (s : State) :
    (restartAfter x l low s).straps = s.straps ∧ (restartAfter x l low s).free = s.free
     ∧ (restartAfter x l low s).pending = s.pending := by
  unfold restartAfter; split <;> simp

/-- The runs at the end of a line, bit by bit: a bit continues its own run and ends the other. -/
theorem trailing_append (line : List Bool) :
    trailingRecessive (line ++ [true]) = trailingRecessive line + 1 ∧ trailingRecessive (line ++ [false]) = 0
     ∧ trailingDominant (line ++ [true]) = 0 ∧ trailingDominant (line ++ [false]) = trailingDominant line + 1 := by
  simp [trailingRecessive, trailingDominant]

/-- The runs after a misread bit: one recessive bit more where the bit was sent dominant, one dominant bit
more where it was sent recessive (R146, R147). -/
theorem lineAfter_readBack (x : Transmission) (n : Nat) (l : LinkController) :
    lineAfter (x.readBack n) l = { l with
      recessiveRun := if x.bits.getD n true then 0 else trailingRecessive (x.bits.take n) + 1
      dominantRun := if x.bits.getD n true then trailingDominant (x.bits.take n) + 1 else 0 } := by
  unfold lineAfter Transmission.readBack
  cases x.bits.getD n true <;> simp [trailing_append]

@[simp] theorem abortTx_frame (x : Transmission) (n : Nat) (low : Bool) (s : State) :
    (abortTx x n low s).straps = s.straps ∧ (abortTx x n low s).free = s.free
     ∧ (abortTx x n low s).pending = s.pending := by
  simp [abortTx]

@[simp] theorem completeTx_frame (x : Transmission) (low : Bool) (s : State) :
    (completeTx x low s).straps = s.straps ∧ (completeTx x low s).free = s.free
     ∧ (completeTx x low s).pending = s.pending := by
  simp [completeTx]

@[simp] theorem alignOn_frame (p : PositionFields) (s : State) :
    (alignOn p s).pins = s.pins ∧ (alignOn p s).straps = s.straps ∧ (alignOn p s).enc = s.enc
     ∧ (alignOn p s).pos = s.pos ∧ (alignOn p s).work = s.work ∧ (alignOn p s).peers = s.peers
     ∧ (alignOn p s).ret = s.ret ∧ (alignOn p s).node = s.node ∧ (alignOn p s).homing = s.homing
     ∧ (alignOn p s).homingOp = s.homingOp ∧ (alignOn p s).sweep = s.sweep ∧ (alignOn p s).cal = s.cal
     ∧ (alignOn p s).setup = s.setup ∧ (alignOn p s).store = s.store ∧ (alignOn p s).selfCheck = s.selfCheck
     ∧ (alignOn p s).link = s.link ∧ (alignOn p s).faults = s.faults ∧ (alignOn p s).gate = s.gate
     ∧ (alignOn p s).restartPending = s.restartPending ∧ (alignOn p s).free = s.free
     ∧ (alignOn p s).pending = s.pending := by
  unfold alignOn; split <;> simp

@[simp] theorem summarise_frame (p : PositionFields) (c : TagClass) (s : State) :
    (summarise p c s).pins = s.pins ∧ (summarise p c s).straps = s.straps ∧ (summarise p c s).enc = s.enc
     ∧ (summarise p c s).pos = s.pos ∧ (summarise p c s).work = s.work ∧ (summarise p c s).coupling = s.coupling
     ∧ (summarise p c s).peers = s.peers ∧ (summarise p c s).ret = s.ret ∧ (summarise p c s).node = s.node
     ∧ (summarise p c s).homing = s.homing ∧ (summarise p c s).homingOp = s.homingOp
     ∧ (summarise p c s).sweep = s.sweep ∧ (summarise p c s).cal = s.cal ∧ (summarise p c s).setup = s.setup
     ∧ (summarise p c s).store = s.store ∧ (summarise p c s).selfCheck = s.selfCheck
     ∧ (summarise p c s).link = s.link ∧ (summarise p c s).faults = s.faults ∧ (summarise p c s).gate = s.gate
     ∧ (summarise p c s).restartPending = s.restartPending ∧ (summarise p c s).free = s.free
     ∧ (summarise p c s).pending = s.pending := by
  unfold summarise; split <;> simp

@[simp] theorem offerSource_frame (a : Address) (p : PositionFields) (c : TagClass) (s : State) :
    (offerSource a p c s).pins = s.pins ∧ (offerSource a p c s).straps = s.straps
     ∧ (offerSource a p c s).epoch = s.epoch ∧ (offerSource a p c s).enc = s.enc
     ∧ (offerSource a p c s).peers = s.peers ∧ (offerSource a p c s).setup = s.setup
     ∧ (offerSource a p c s).selfCheck = s.selfCheck ∧ (offerSource a p c s).restartPending = s.restartPending
     ∧ (offerSource a p c s).pending = s.pending ∧ (offerSource a p c s).pos.established = s.pos.established
     ∧ (offerSource a p c s).pos.thetaLast = s.pos.thetaLast ∧ (offerSource a p c s).pos.deltaLast = s.pos.deltaLast
     ∧ (offerSource a p c s).pos.failedRun = s.pos.failedRun ∧ (offerSource a p c s).pos.lastDir = s.pos.lastDir
     ∧ (offerSource a p c s).pos.firstQuarter = s.pos.firstQuarter
     ∧ (offerSource a p c s).link.watching = s.link.watching ∧ (offerSource a p c s).link.joined = s.link.joined
     ∧ (offerSource a p c s).link.awaitIdle = s.link.awaitIdle ∧ (offerSource a p c s).link.health = s.link.health
     ∧ (offerSource a p c s).link.intact = s.link.intact ∧ (offerSource a p c s).link.tx = s.link.tx
     ∧ (offerSource a p c s).link.replies = s.link.replies ∧ (offerSource a p c s).link.requests = s.link.requests
     ∧ (offerSource a p c s).link.recessiveRun = s.link.recessiveRun
     ∧ (offerSource a p c s).link.dominantRun = s.link.dominantRun ∧ (offerSource a p c s).link.stuck = s.link.stuck
     ∧ (offerSource a p c s).link.idlePeriods = s.link.idlePeriods
     ∧ (offerSource a p c s).link.requestOverrun = s.link.requestOverrun
     ∧ (offerSource a p c s).link.stuckCount = s.link.stuckCount
     ∧ (offerSource a p c s).gate.rdyLevel = s.gate.rdyLevel := by
  unfold offerSource; split <;> simp

@[simp] theorem takePosition_frame (a : Address) (p : PositionFields) (s : State) :
    (takePosition a p s).pins = s.pins ∧ (takePosition a p s).straps = s.straps ∧ (takePosition a p s).enc = s.enc
     ∧ (takePosition a p s).setup = s.setup ∧ (takePosition a p s).selfCheck = s.selfCheck
     ∧ (takePosition a p s).restartPending = s.restartPending ∧ (takePosition a p s).pending = s.pending
     ∧ (takePosition a p s).pos.established = s.pos.established
     ∧ (takePosition a p s).pos.thetaLast = s.pos.thetaLast ∧ (takePosition a p s).pos.deltaLast = s.pos.deltaLast
     ∧ (takePosition a p s).pos.failedRun = s.pos.failedRun ∧ (takePosition a p s).pos.lastDir = s.pos.lastDir
     ∧ (takePosition a p s).pos.firstQuarter = s.pos.firstQuarter
     ∧ (takePosition a p s).link.watching = s.link.watching ∧ (takePosition a p s).link.joined = s.link.joined
     ∧ (takePosition a p s).link.awaitIdle = s.link.awaitIdle ∧ (takePosition a p s).link.health = s.link.health
     ∧ (takePosition a p s).link.intact = s.link.intact ∧ (takePosition a p s).link.tx = s.link.tx
     ∧ (takePosition a p s).link.replies = s.link.replies ∧ (takePosition a p s).link.requests = s.link.requests
     ∧ (takePosition a p s).link.recessiveRun = s.link.recessiveRun
     ∧ (takePosition a p s).link.dominantRun = s.link.dominantRun ∧ (takePosition a p s).link.stuck = s.link.stuck
     ∧ (takePosition a p s).link.idlePeriods = s.link.idlePeriods
     ∧ (takePosition a p s).link.requestOverrun = s.link.requestOverrun
     ∧ (takePosition a p s).link.stuckCount = s.link.stuckCount
     ∧ (takePosition a p s).gate.rdyLevel = s.gate.rdyLevel := by
  simp [takePosition]

@[simp] theorem takeStatus_frame (a : Address) (f : StatusFields) (s : State) :
    (takeStatus a f s).pins = s.pins ∧ (takeStatus a f s).straps = s.straps ∧ (takeStatus a f s).epoch = s.epoch
     ∧ (takeStatus a f s).enc = s.enc ∧ (takeStatus a f s).work = s.work ∧ (takeStatus a f s).coupling = s.coupling
     ∧ (takeStatus a f s).ret = s.ret ∧ (takeStatus a f s).sweep = s.sweep ∧ (takeStatus a f s).cal = s.cal
     ∧ (takeStatus a f s).setup = s.setup ∧ (takeStatus a f s).store = s.store
     ∧ (takeStatus a f s).selfCheck = s.selfCheck ∧ (takeStatus a f s).link = s.link
     ∧ (takeStatus a f s).restartPending = s.restartPending ∧ (takeStatus a f s).free = s.free
     ∧ (takeStatus a f s).pending = s.pending ∧ (takeStatus a f s).gate.rdyLevel = s.gate.rdyLevel
     ∧ (takeStatus a f s).gate.travelSide = s.gate.travelSide
     ∧ (takeStatus a f s).pos.established = s.pos.established ∧ (takeStatus a f s).pos.p = s.pos.p
     ∧ (takeStatus a f s).pos.thetaLast = s.pos.thetaLast ∧ (takeStatus a f s).pos.deltaLast = s.pos.deltaLast
     ∧ (takeStatus a f s).pos.failedRun = s.pos.failedRun ∧ (takeStatus a f s).pos.s = s.pos.s
     ∧ (takeStatus a f s).pos.playKnown = s.pos.playKnown ∧ (takeStatus a f s).pos.acc = s.pos.acc
     ∧ (takeStatus a f s).pos.lastDir = s.pos.lastDir ∧ (takeStatus a f s).pos.j = s.pos.j
     ∧ (takeStatus a f s).pos.evaluated = s.pos.evaluated ∧ (takeStatus a f s).pos.gq = s.pos.gq
     ∧ (takeStatus a f s).pos.jg = s.pos.jg ∧ (takeStatus a f s).pos.usable = s.pos.usable
     ∧ (takeStatus a f s).pos.lastE = s.pos.lastE ∧ (takeStatus a f s).pos.lastSj = s.pos.lastSj
     ∧ (takeStatus a f s).pos.firstQuarter = s.pos.firstQuarter ∧ (takeStatus a f s).pos.abs = s.pos.abs := by
  simp [takeStatus]

@[simp] theorem takeClash_frame (s : State) :
    (takeClash s).pins = s.pins ∧ (takeClash s).straps = s.straps ∧ (takeClash s).epoch = s.epoch
     ∧ (takeClash s).enc = s.enc ∧ (takeClash s).work = s.work ∧ (takeClash s).coupling = s.coupling
     ∧ (takeClash s).ret = s.ret ∧ (takeClash s).cal = s.cal ∧ (takeClash s).setup = s.setup
     ∧ (takeClash s).store = s.store ∧ (takeClash s).selfCheck = s.selfCheck ∧ (takeClash s).link = s.link
     ∧ (takeClash s).restartPending = s.restartPending ∧ (takeClash s).free = s.free
     ∧ (takeClash s).pending = s.pending ∧ (takeClash s).gate.rdyLevel = s.gate.rdyLevel
     ∧ (takeClash s).gate.travelSide = s.gate.travelSide ∧ (takeClash s).pos.established = s.pos.established
     ∧ (takeClash s).pos.p = s.pos.p ∧ (takeClash s).pos.thetaLast = s.pos.thetaLast
     ∧ (takeClash s).pos.deltaLast = s.pos.deltaLast ∧ (takeClash s).pos.failedRun = s.pos.failedRun
     ∧ (takeClash s).pos.s = s.pos.s ∧ (takeClash s).pos.playKnown = s.pos.playKnown
     ∧ (takeClash s).pos.acc = s.pos.acc ∧ (takeClash s).pos.lastDir = s.pos.lastDir ∧ (takeClash s).pos.j = s.pos.j
     ∧ (takeClash s).pos.evaluated = s.pos.evaluated ∧ (takeClash s).pos.gq = s.pos.gq
     ∧ (takeClash s).pos.jg = s.pos.jg ∧ (takeClash s).pos.usable = s.pos.usable
     ∧ (takeClash s).pos.lastE = s.pos.lastE ∧ (takeClash s).pos.lastSj = s.pos.lastSj
     ∧ (takeClash s).pos.firstQuarter = s.pos.firstQuarter := by
  simp [takeClash]

@[simp] theorem deliverPeer_frame (f : Frame) (s : State) :
    (deliverPeer f s).pins = s.pins ∧ (deliverPeer f s).straps = s.straps ∧ (deliverPeer f s).enc = s.enc
     ∧ (deliverPeer f s).setup = s.setup ∧ (deliverPeer f s).selfCheck = s.selfCheck
     ∧ (deliverPeer f s).restartPending = s.restartPending ∧ (deliverPeer f s).pending = s.pending
     ∧ (deliverPeer f s).pos.established = s.pos.established ∧ (deliverPeer f s).pos.thetaLast = s.pos.thetaLast
     ∧ (deliverPeer f s).pos.deltaLast = s.pos.deltaLast ∧ (deliverPeer f s).pos.failedRun = s.pos.failedRun
     ∧ (deliverPeer f s).pos.lastDir = s.pos.lastDir ∧ (deliverPeer f s).pos.firstQuarter = s.pos.firstQuarter
     ∧ (deliverPeer f s).link.watching = s.link.watching ∧ (deliverPeer f s).link.joined = s.link.joined
     ∧ (deliverPeer f s).link.awaitIdle = s.link.awaitIdle ∧ (deliverPeer f s).link.health = s.link.health
     ∧ (deliverPeer f s).link.intact = s.link.intact ∧ (deliverPeer f s).link.tx = s.link.tx
     ∧ (deliverPeer f s).link.replies = s.link.replies ∧ (deliverPeer f s).link.requests = s.link.requests
     ∧ (deliverPeer f s).link.recessiveRun = s.link.recessiveRun
     ∧ (deliverPeer f s).link.dominantRun = s.link.dominantRun ∧ (deliverPeer f s).link.stuck = s.link.stuck
     ∧ (deliverPeer f s).link.idlePeriods = s.link.idlePeriods
     ∧ (deliverPeer f s).link.requestOverrun = s.link.requestOverrun
     ∧ (deliverPeer f s).link.stuckCount = s.link.stuckCount ∧ (deliverPeer f s).gate.rdyLevel = s.gate.rdyLevel := by
  unfold deliverPeer; repeat' split
  all_goals simp

@[simp] theorem takeRequest_frame (f : Frame) (s : State) :
    (takeRequest f s).pins = s.pins ∧ (takeRequest f s).straps = s.straps ∧ (takeRequest f s).epoch = s.epoch
     ∧ (takeRequest f s).enc = s.enc ∧ (takeRequest f s).pos = s.pos ∧ (takeRequest f s).work = s.work
     ∧ (takeRequest f s).coupling = s.coupling ∧ (takeRequest f s).peers = s.peers ∧ (takeRequest f s).ret = s.ret
     ∧ (takeRequest f s).node = s.node ∧ (takeRequest f s).homing = s.homing
     ∧ (takeRequest f s).homingOp = s.homingOp ∧ (takeRequest f s).sweep = s.sweep ∧ (takeRequest f s).cal = s.cal
     ∧ (takeRequest f s).setup = s.setup ∧ (takeRequest f s).store = s.store
     ∧ (takeRequest f s).selfCheck = s.selfCheck ∧ (takeRequest f s).faults = s.faults
     ∧ (takeRequest f s).gate = s.gate ∧ (takeRequest f s).restartPending = s.restartPending
     ∧ (takeRequest f s).free = s.free ∧ (takeRequest f s).pending = s.pending := by
  unfold takeRequest; repeat' split
  all_goals simp

@[simp] theorem deliver_frame (f : Frame) (s : State) :
    (deliver f s).pins = s.pins ∧ (deliver f s).straps = s.straps ∧ (deliver f s).enc = s.enc
     ∧ (deliver f s).setup = s.setup ∧ (deliver f s).selfCheck = s.selfCheck
     ∧ (deliver f s).restartPending = s.restartPending ∧ (deliver f s).pending = s.pending
     ∧ (deliver f s).pos.established = s.pos.established ∧ (deliver f s).pos.thetaLast = s.pos.thetaLast
     ∧ (deliver f s).pos.deltaLast = s.pos.deltaLast ∧ (deliver f s).pos.failedRun = s.pos.failedRun
     ∧ (deliver f s).pos.lastDir = s.pos.lastDir ∧ (deliver f s).pos.firstQuarter = s.pos.firstQuarter
     ∧ (deliver f s).gate.rdyLevel = s.gate.rdyLevel := by
  unfold deliver; repeat' split
  all_goals simp

@[simp] theorem watchLine_frame (b : List Bool) (s : State) :
    (watchLine b s).pins = s.pins ∧ (watchLine b s).straps = s.straps ∧ (watchLine b s).epoch = s.epoch
     ∧ (watchLine b s).enc = s.enc ∧ (watchLine b s).pos = s.pos ∧ (watchLine b s).work = s.work
     ∧ (watchLine b s).coupling = s.coupling ∧ (watchLine b s).peers = s.peers ∧ (watchLine b s).ret = s.ret
     ∧ (watchLine b s).node = s.node ∧ (watchLine b s).homing = s.homing ∧ (watchLine b s).homingOp = s.homingOp
     ∧ (watchLine b s).sweep = s.sweep ∧ (watchLine b s).cal = s.cal ∧ (watchLine b s).setup = s.setup
     ∧ (watchLine b s).store = s.store ∧ (watchLine b s).selfCheck = s.selfCheck ∧ (watchLine b s).faults = s.faults
     ∧ (watchLine b s).gate = s.gate ∧ (watchLine b s).restartPending = s.restartPending
     ∧ (watchLine b s).free = s.free ∧ (watchLine b s).pending = s.pending
     ∧ (watchLine b s).link.watching = s.link.watching ∧ (watchLine b s).link.joined = s.link.joined
     ∧ (watchLine b s).link.awaitIdle = s.link.awaitIdle ∧ (watchLine b s).link.health = s.link.health
     ∧ (watchLine b s).link.intact = s.link.intact ∧ (watchLine b s).link.tx = s.link.tx
     ∧ (watchLine b s).link.replies = s.link.replies ∧ (watchLine b s).link.requests = s.link.requests
     ∧ (watchLine b s).link.stuck = s.link.stuck ∧ (watchLine b s).link.idlePeriods = s.link.idlePeriods
     ∧ (watchLine b s).link.requestOverrun = s.link.requestOverrun
     ∧ (watchLine b s).link.stuckCount = s.link.stuckCount ∧ (watchLine b s).link.positionSlot = s.link.positionSlot
     ∧ (watchLine b s).link.statusSlot = s.link.statusSlot ∧ (watchLine b s).link.beaconCount = s.link.beaconCount
     ∧ (watchLine b s).link.publishOverrun = s.link.publishOverrun := by
  unfold watchLine lineAfter; split <;> simp

@[simp] theorem discardFrame_frame (b : List Bool) (low : Bool) (s : State) :
    (discardFrame b low s).straps = s.straps ∧ (discardFrame b low s).free = s.free
     ∧ (discardFrame b low s).pending = s.pending := by
  simp [discardFrame]

@[simp] theorem receiveIntact_frame (f : Frame) (b : List Bool) (s : State) :
    (receiveIntact f b s).pins = s.pins ∧ (receiveIntact f b s).straps = s.straps ∧ (receiveIntact f b s).enc = s.enc
     ∧ (receiveIntact f b s).setup = s.setup ∧ (receiveIntact f b s).selfCheck = s.selfCheck
     ∧ (receiveIntact f b s).restartPending = s.restartPending ∧ (receiveIntact f b s).pending = s.pending := by
  simp [receiveIntact]

@[simp] theorem noticeIfBad_frame (k : FaultKind) (c : RecordCheck) (s : State) :
    (noticeIfBad k c s).pins = s.pins ∧ (noticeIfBad k c s).straps = s.straps ∧ (noticeIfBad k c s).epoch = s.epoch
     ∧ (noticeIfBad k c s).enc = s.enc ∧ (noticeIfBad k c s).work = s.work
     ∧ (noticeIfBad k c s).coupling = s.coupling ∧ (noticeIfBad k c s).peers = s.peers
     ∧ (noticeIfBad k c s).ret = s.ret ∧ (noticeIfBad k c s).cal = s.cal ∧ (noticeIfBad k c s).setup = s.setup
     ∧ (noticeIfBad k c s).store = s.store ∧ (noticeIfBad k c s).selfCheck = s.selfCheck
     ∧ (noticeIfBad k c s).link = s.link ∧ (noticeIfBad k c s).restartPending = s.restartPending
     ∧ (noticeIfBad k c s).free = s.free ∧ (noticeIfBad k c s).pending = s.pending
     ∧ (noticeIfBad k c s).gate.rdyLevel = s.gate.rdyLevel ∧ (noticeIfBad k c s).gate.travelSide = s.gate.travelSide
     ∧ (noticeIfBad k c s).pos.established = s.pos.established ∧ (noticeIfBad k c s).pos.p = s.pos.p
     ∧ (noticeIfBad k c s).pos.thetaLast = s.pos.thetaLast ∧ (noticeIfBad k c s).pos.deltaLast = s.pos.deltaLast
     ∧ (noticeIfBad k c s).pos.failedRun = s.pos.failedRun ∧ (noticeIfBad k c s).pos.s = s.pos.s
     ∧ (noticeIfBad k c s).pos.playKnown = s.pos.playKnown ∧ (noticeIfBad k c s).pos.acc = s.pos.acc
     ∧ (noticeIfBad k c s).pos.lastDir = s.pos.lastDir ∧ (noticeIfBad k c s).pos.j = s.pos.j
     ∧ (noticeIfBad k c s).pos.evaluated = s.pos.evaluated ∧ (noticeIfBad k c s).pos.gq = s.pos.gq
     ∧ (noticeIfBad k c s).pos.jg = s.pos.jg ∧ (noticeIfBad k c s).pos.usable = s.pos.usable
     ∧ (noticeIfBad k c s).pos.lastE = s.pos.lastE ∧ (noticeIfBad k c s).pos.lastSj = s.pos.lastSj
     ∧ (noticeIfBad k c s).pos.firstQuarter = s.pos.firstQuarter := by
  unfold noticeIfBad; split <;> simp

@[simp] theorem validateCal_frame (s : State) :
    (validateCal s).pins = s.pins ∧ (validateCal s).straps = s.straps ∧ (validateCal s).epoch = s.epoch
     ∧ (validateCal s).enc = s.enc ∧ (validateCal s).work = s.work ∧ (validateCal s).coupling = s.coupling
     ∧ (validateCal s).peers = s.peers ∧ (validateCal s).ret = s.ret ∧ (validateCal s).node = s.node
     ∧ (validateCal s).homing = s.homing ∧ (validateCal s).homingOp = s.homingOp ∧ (validateCal s).sweep = s.sweep
     ∧ (validateCal s).setup = s.setup ∧ (validateCal s).store = s.store ∧ (validateCal s).selfCheck = s.selfCheck
     ∧ (validateCal s).link = s.link ∧ (validateCal s).faults = s.faults ∧ (validateCal s).gate = s.gate
     ∧ (validateCal s).restartPending = s.restartPending ∧ (validateCal s).free = s.free
     ∧ (validateCal s).pending = s.pending := by
  unfold validateCal; dsimp only; split <;> simp

@[simp] theorem calVerified_frame (s : State) :
    (calVerified s).pins = s.pins ∧ (calVerified s).straps = s.straps ∧ (calVerified s).epoch = s.epoch
     ∧ (calVerified s).enc = s.enc ∧ (calVerified s).work = s.work ∧ (calVerified s).coupling = s.coupling
     ∧ (calVerified s).peers = s.peers ∧ (calVerified s).ret = s.ret ∧ (calVerified s).node = s.node
     ∧ (calVerified s).homing = s.homing ∧ (calVerified s).homingOp = s.homingOp ∧ (calVerified s).sweep = s.sweep
     ∧ (calVerified s).setup = s.setup ∧ (calVerified s).selfCheck = s.selfCheck ∧ (calVerified s).link = s.link
     ∧ (calVerified s).restartPending = s.restartPending ∧ (calVerified s).free = s.free
     ∧ (calVerified s).pending = s.pending ∧ (calVerified s).gate.rdyLevel = s.gate.rdyLevel
     ∧ (calVerified s).gate.travelSide = s.gate.travelSide := by
  simp [calVerified]

@[simp] theorem setupVerified_frame (s : State) :
    (setupVerified s).pins = s.pins ∧ (setupVerified s).straps = s.straps ∧ (setupVerified s).epoch = s.epoch
     ∧ (setupVerified s).enc = s.enc ∧ (setupVerified s).pos = s.pos ∧ (setupVerified s).work = s.work
     ∧ (setupVerified s).coupling = s.coupling ∧ (setupVerified s).peers = s.peers ∧ (setupVerified s).ret = s.ret
     ∧ (setupVerified s).node = s.node ∧ (setupVerified s).homing = s.homing
     ∧ (setupVerified s).homingOp = s.homingOp ∧ (setupVerified s).sweep = s.sweep ∧ (setupVerified s).cal = s.cal
     ∧ (setupVerified s).selfCheck = s.selfCheck ∧ (setupVerified s).link = s.link
     ∧ (setupVerified s).restartPending = s.restartPending ∧ (setupVerified s).free = s.free
     ∧ (setupVerified s).pending = s.pending ∧ (setupVerified s).setup.latched = s.setup.latched
     ∧ (setupVerified s).setup.image = s.setup.image ∧ (setupVerified s).gate.rdyLevel = s.gate.rdyLevel
     ∧ (setupVerified s).gate.travelSide = s.gate.travelSide := by
  simp [setupVerified]

@[simp] theorem calFailed_frame (a : Area CalRecord) (s : State) :
    (calFailed a s).pins = s.pins ∧ (calFailed a s).straps = s.straps ∧ (calFailed a s).epoch = s.epoch
     ∧ (calFailed a s).enc = s.enc ∧ (calFailed a s).work = s.work ∧ (calFailed a s).coupling = s.coupling
     ∧ (calFailed a s).peers = s.peers ∧ (calFailed a s).ret = s.ret ∧ (calFailed a s).cal = s.cal
     ∧ (calFailed a s).setup = s.setup ∧ (calFailed a s).selfCheck = s.selfCheck ∧ (calFailed a s).link = s.link
     ∧ (calFailed a s).restartPending = s.restartPending ∧ (calFailed a s).free = s.free
     ∧ (calFailed a s).pending = s.pending ∧ (calFailed a s).gate.rdyLevel = s.gate.rdyLevel
     ∧ (calFailed a s).gate.travelSide = s.gate.travelSide ∧ (calFailed a s).pos.established = s.pos.established
     ∧ (calFailed a s).pos.p = s.pos.p ∧ (calFailed a s).pos.thetaLast = s.pos.thetaLast
     ∧ (calFailed a s).pos.deltaLast = s.pos.deltaLast ∧ (calFailed a s).pos.failedRun = s.pos.failedRun
     ∧ (calFailed a s).pos.s = s.pos.s ∧ (calFailed a s).pos.playKnown = s.pos.playKnown
     ∧ (calFailed a s).pos.acc = s.pos.acc ∧ (calFailed a s).pos.lastDir = s.pos.lastDir
     ∧ (calFailed a s).pos.j = s.pos.j ∧ (calFailed a s).pos.evaluated = s.pos.evaluated
     ∧ (calFailed a s).pos.gq = s.pos.gq ∧ (calFailed a s).pos.jg = s.pos.jg
     ∧ (calFailed a s).pos.usable = s.pos.usable ∧ (calFailed a s).pos.lastE = s.pos.lastE
     ∧ (calFailed a s).pos.lastSj = s.pos.lastSj ∧ (calFailed a s).pos.firstQuarter = s.pos.firstQuarter := by
  simp [calFailed]

@[simp] theorem setupFailed_frame (a : Area Setup) (s : State) :
    (setupFailed a s).pins = s.pins ∧ (setupFailed a s).straps = s.straps ∧ (setupFailed a s).epoch = s.epoch
     ∧ (setupFailed a s).enc = s.enc ∧ (setupFailed a s).work = s.work ∧ (setupFailed a s).coupling = s.coupling
     ∧ (setupFailed a s).peers = s.peers ∧ (setupFailed a s).ret = s.ret ∧ (setupFailed a s).cal = s.cal
     ∧ (setupFailed a s).setup = s.setup ∧ (setupFailed a s).selfCheck = s.selfCheck
     ∧ (setupFailed a s).link = s.link ∧ (setupFailed a s).restartPending = s.restartPending
     ∧ (setupFailed a s).free = s.free ∧ (setupFailed a s).pending = s.pending
     ∧ (setupFailed a s).gate.rdyLevel = s.gate.rdyLevel ∧ (setupFailed a s).gate.travelSide = s.gate.travelSide
     ∧ (setupFailed a s).pos.established = s.pos.established ∧ (setupFailed a s).pos.p = s.pos.p
     ∧ (setupFailed a s).pos.thetaLast = s.pos.thetaLast ∧ (setupFailed a s).pos.deltaLast = s.pos.deltaLast
     ∧ (setupFailed a s).pos.failedRun = s.pos.failedRun ∧ (setupFailed a s).pos.s = s.pos.s
     ∧ (setupFailed a s).pos.playKnown = s.pos.playKnown ∧ (setupFailed a s).pos.acc = s.pos.acc
     ∧ (setupFailed a s).pos.lastDir = s.pos.lastDir ∧ (setupFailed a s).pos.j = s.pos.j
     ∧ (setupFailed a s).pos.evaluated = s.pos.evaluated ∧ (setupFailed a s).pos.gq = s.pos.gq
     ∧ (setupFailed a s).pos.jg = s.pos.jg ∧ (setupFailed a s).pos.usable = s.pos.usable
     ∧ (setupFailed a s).pos.lastE = s.pos.lastE ∧ (setupFailed a s).pos.lastSj = s.pos.lastSj
     ∧ (setupFailed a s).pos.firstQuarter = s.pos.firstQuarter := by
  simp [setupFailed]

@[simp] theorem verifyStore_frame (t : StoreTarget) (b : ReadBack) (s : State) :
    (verifyStore t b s).pins = s.pins ∧ (verifyStore t b s).straps = s.straps ∧ (verifyStore t b s).epoch = s.epoch
     ∧ (verifyStore t b s).enc = s.enc ∧ (verifyStore t b s).work = s.work
     ∧ (verifyStore t b s).coupling = s.coupling ∧ (verifyStore t b s).peers = s.peers
     ∧ (verifyStore t b s).ret = s.ret ∧ (verifyStore t b s).selfCheck = s.selfCheck
     ∧ (verifyStore t b s).link = s.link ∧ (verifyStore t b s).restartPending = s.restartPending
     ∧ (verifyStore t b s).free = s.free ∧ (verifyStore t b s).pending = s.pending
     ∧ (verifyStore t b s).setup.latched = s.setup.latched ∧ (verifyStore t b s).setup.image = s.setup.image
     ∧ (verifyStore t b s).gate.rdyLevel = s.gate.rdyLevel ∧ (verifyStore t b s).gate.travelSide = s.gate.travelSide := by
  unfold verifyStore; repeat' split
  all_goals simp

end Sys2Proof.Machine
end

