-- ==== Sys2Proof/Laws/Motion.lean ====
section
/-! SUPPORT. What a motion, the play and the coarse stages give. -/

namespace Sys2Proof.Machine

/-- P after a motion, and the reason a saturation gives (R3, R6). -/
theorem addMotion_eq (p d : Int) (θ : Theta) :
    (addMotion p d θ).1 = (if 536870911 < p + d then 32767 * 16384 + (θ.toNat : Int)
      else if p + d < -536870912 then -32768 * 16384 + (θ.toNat : Int) else p + d) ∧
    (addMotion p d θ).2 = (if 536870911 < p + d ∨ p + d < -536870912 then JumpReason.range else .none) := by
  unfold addMotion countMax countMin countOf turnMax turnMin
  by_cases h1 : 536870911 < p + d <;> by_cases h2 : p + d < -536870912 <;> simp [h1, h2]

/-- The play update touches s, play-known and A only (R10, R11). -/
theorem playUpdate_frame (h d : Int) (u : PositionUnit) :
    (playUpdate h d u).p = u.p ∧ (playUpdate h d u).thetaLast = u.thetaLast ∧ (playUpdate h d u).deltaLast = u.deltaLast ∧
    (playUpdate h d u).failedRun = u.failedRun ∧ (playUpdate h d u).abs = u.abs ∧ (playUpdate h d u).lastDir = u.lastDir := by
  unfold playUpdate learnPlay
  split
  · simp
  · split <;> simp

/-- The integer that brings a base nearest a position (R20). -/
theorem kNearest_near (base x : Int) :
    -524288 < x - (base + kNearest base x * 1048576) ∧ x - (base + kNearest base x * 1048576) ≤ 524288 := by
  unfold kNearest revolution
  constructor <;> omega

/-- No coarse stage runs while the coarse read of the epoch is pending (R16). -/
theorem coarseEvaluate_pending (s : State) (h : s.work.coarse = .pending) : coarseEvaluate s = s := by
  simp [coarseEvaluate, State.coarseEnded, h]

end Sys2Proof.Machine
end

