-- ==== Sys2Proof/Laws/PerInstr.lean ====
section
/-! SUPPORT. The statements made per command. NoWord: no word of the table's bits spells the command,
since no row of spec/opcode_table.json gives bits. -/

namespace Sys2Proof.Laws

/-- No word spells the command. -/
def NoWord.Statement (i : Instr) : Prop := ∀ nbits w : Nat, decodeTableWord nbits w ≠ some i

theorem noWord (i : Instr) : NoWord.Statement i := by
  intro nbits w h; cases h

theorem NoWord.smpRisingEdge (pins : SampleInputs) : NoWord.Statement (.smpRisingEdge pins) := noWord _
theorem NoWord.smpFallingEdge : NoWord.Statement .smpFallingEdge := noWord _
theorem NoWord.periodTimerExpiry : NoWord.Statement .periodTimerExpiry := noWord _
theorem NoWord.holdExpiry : NoWord.Statement .holdExpiry := noWord _
theorem NoWord.sampleLineStuck (pins : SampleInputs) : NoWord.Statement (.sampleLineStuck pins) := noWord _
theorem NoWord.freePeriodExpiry (pins : SampleInputs) : NoWord.Statement (.freePeriodExpiry pins) := noWord _
theorem NoWord.rejoinArmed : NoWord.Statement .rejoinArmed := noWord _
theorem NoWord.syncedRun16 : NoWord.Statement .syncedRun16 := noWord _
theorem NoWord.alignmentTimeout : NoWord.Statement .alignmentTimeout := noWord _
theorem NoWord.realignment : NoWord.Statement .realignment := noWord _
theorem NoWord.encoderReadComplete (word : EncoderWord) : NoWord.Statement (.encoderReadComplete word) := noWord _
theorem NoWord.encoderReadTimeout (port : Port) (ack : Bool) : NoWord.Statement (.encoderReadTimeout port ack) := noWord _
theorem NoWord.motorFailureRun3 : NoWord.Statement .motorFailureRun3 := noWord _
theorem NoWord.motorGoodRun8 : NoWord.Statement .motorGoodRun8 := noWord _
theorem NoWord.coarseFailureRun3 : NoWord.Statement .coarseFailureRun3 := noWord _
theorem NoWord.coarseGoodRun8 : NoWord.Statement .coarseGoodRun8 := noWord _
theorem NoWord.portPresenceTimeout (port : Port) : NoWord.Statement (.portPresenceTimeout port) := noWord _
theorem NoWord.driftRun3 : NoWord.Statement .driftRun3 := noWord _
theorem NoWord.couplingLost : NoWord.Statement .couplingLost := noWord _
theorem NoWord.peerAbsent (address : Address) : NoWord.Statement (.peerAbsent address) := noWord _
theorem NoWord.quietRun64 : NoWord.Statement .quietRun64 := noWord _
theorem NoWord.retainEntry (cause : EntryCause) (vbakLow : Bool) : NoWord.Statement (.retainEntry cause vbakLow) := noWord _
theorem NoWord.trackerReadStart : NoWord.Statement .trackerReadStart := noWord _
theorem NoWord.trackerReadGood (word : TrackerWord) : NoWord.Statement (.trackerReadGood word) := noWord _
theorem NoWord.trackerReadFailed (ending : TrackerFailure) : NoWord.Statement (.trackerReadFailed ending) := noWord _
theorem NoWord.trackerUnchanged64 : NoWord.Statement .trackerUnchanged64 := noWord _
theorem NoWord.trackerFailedRun3 : NoWord.Statement .trackerFailedRun3 := noWord _
theorem NoWord.backupCollapse (vmainGood : Bool) : NoWord.Statement (.backupCollapse vmainGood) := noWord _
theorem NoWord.restartDwellExpiry : NoWord.Statement .restartDwellExpiry := noWord _
theorem NoWord.retainExit (straps : Straps) : NoWord.Statement (.retainExit straps) := noWord _
theorem NoWord.offReturn (how : OffReturn) : NoWord.Statement (.offReturn how) := noWord _
theorem NoWord.storeLoadComplete : NoWord.Statement .storeLoadComplete := noWord _
theorem NoWord.selfCheckReadback (setupMatch calMatch : Bool) : NoWord.Statement (.selfCheckReadback setupMatch calMatch) := noWord _
theorem NoWord.backupLowRaise : NoWord.Statement .backupLowRaise := noWord _
theorem NoWord.backupLowClear : NoWord.Statement .backupLowClear := noWord _
theorem NoWord.linkJoin : NoWord.Statement .linkJoin := noWord _
theorem NoWord.frameTxStart : NoWord.Statement .frameTxStart := noWord _
theorem NoWord.arbitrationLost (sent : Nat) : NoWord.Statement (.arbitrationLost sent) := noWord _
theorem NoWord.bitError (vbakLow : Bool) (sent : Nat) : NoWord.Statement (.bitError vbakLow sent) := noWord _
theorem NoWord.frameTxComplete (vbakLow : Bool) : NoWord.Statement (.frameTxComplete vbakLow) := noWord _
theorem NoWord.frameReceived (bits : List Bool) : NoWord.Statement (.frameReceived bits) := noWord _
theorem NoWord.frameDiscard (bits : List Bool) (vbakLow : Bool) : NoWord.Statement (.frameDiscard bits vbakLow) := noWord _
theorem NoWord.intactCount32 : NoWord.Statement .intactCount32 := noWord _
theorem NoWord.linkRejoin : NoWord.Statement .linkRejoin := noWord _
theorem NoWord.lineStuck : NoWord.Statement .lineStuck := noWord _
theorem NoWord.beacon : NoWord.Statement .beacon := noWord _
theorem NoWord.retryTimerExpiry : NoWord.Statement .retryTimerExpiry := noWord _
theorem NoWord.rdyLevelLow : NoWord.Statement .rdyLevelLow := noWord _
theorem NoWord.rdyLevelHigh : NoWord.Statement .rdyLevelHigh := noWord _
theorem NoWord.settleExpiry : NoWord.Statement .settleExpiry := noWord _
theorem NoWord.biteExpiry : NoWord.Statement .biteExpiry := noWord _
theorem NoWord.storeVerify (found : ReadBack) : NoWord.Statement (.storeVerify found) := noWord _
theorem NoWord.identify : NoWord.Statement .identify := noWord _
theorem NoWord.readStatus : NoWord.Statement .readStatus := noWord _
theorem NoWord.readFaults : NoWord.Statement .readFaults := noWord _
theorem NoWord.readRestore : NoWord.Statement .readRestore := noWord _
theorem NoWord.readHoming : NoWord.Statement .readHoming := noWord _
theorem NoWord.readSweep : NoWord.Statement .readSweep := noWord _
theorem NoWord.readPeer : NoWord.Statement .readPeer := noWord _
theorem NoWord.calRead : NoWord.Statement .calRead := noWord _
theorem NoWord.setupRead : NoWord.Statement .setupRead := noWord _
theorem NoWord.clearFaults : NoWord.Statement .clearFaults := noWord _
theorem NoWord.releaseGrant : NoWord.Statement .releaseGrant := noWord _
theorem NoWord.releaseWithdraw : NoWord.Statement .releaseWithdraw := noWord _
theorem NoWord.homeArm : NoWord.Statement .homeArm := noWord _
theorem NoWord.homeLearn : NoWord.Statement .homeLearn := noWord _
theorem NoWord.homeAbort : NoWord.Statement .homeAbort := noWord _
theorem NoWord.zeroHere : NoWord.Statement .zeroHere := noWord _
theorem NoWord.acceptRestore : NoWord.Statement .acceptRestore := noWord _
theorem NoWord.sweepStart : NoWord.Statement .sweepStart := noWord _
theorem NoWord.sweepEnd : NoWord.Statement .sweepEnd := noWord _
theorem NoWord.sweepAbort : NoWord.Statement .sweepAbort := noWord _
theorem NoWord.calWrite : NoWord.Statement .calWrite := noWord _
theorem NoWord.setupWrite : NoWord.Statement .setupWrite := noWord _
theorem NoWord.store : NoWord.Statement .store := noWord _
theorem NoWord.restart : NoWord.Statement .restart := noWord _
theorem NoWord.unknownRequest : NoWord.Statement .unknownRequest := noWord _
theorem NoWord.lineIdle : NoWord.Statement .lineIdle := noWord _
theorem NoWord.lossOfVmainInRetain (vbakLow : Bool) : NoWord.Statement (.lossOfVmainInRetain vbakLow) := noWord _
theorem NoWord.retentionStateLoss : NoWord.Statement .retentionStateLoss := noWord _
theorem NoWord.storeCrcWritten : NoWord.Statement .storeCrcWritten := noWord _

end Sys2Proof.Laws
end

