-- ==== Sys2Proof/Laws/Requests.lean ====
section
/-! SUPPORT. The way of a request that waits: taken from the queue, judged, answered; and the entry of the
Peer Table a frame modifies. -/

namespace Sys2Proof.Machine

/-- The state with the request at the front taken from the queue. -/
def State.popped (s : State) (rest : List Request) : State := { s with link := { s.link with requests := rest } }

theorem Waiting.takeable {s : State} {r : Request} {rest : List Request} (w : Waiting s r rest) :
    takeable s = some r := by
  simp [Machine.takeable, w.up, w.free, w.room, w.head]

theorem Waiting.pop {s : State} {r : Request} {rest : List Request} (w : Waiting s r rest) :
    popRequest s = s.popped rest := by
  simp [popRequest, State.popped, w.head, State.setLink]

theorem Waiting.serve {s : State} {r : Request} {rest : List Request} (w : Waiting s r rest) (code : Nat) (h : Handler)
    (hc : r.code = code) : serve code h s = execute h r s := by
  simp [Machine.serve, w.takeable, hc]

/-- An event that changes neither the Position Unit nor a field of STATUS settles as it is. -/
theorem next_quiet {s0 s : State} (hm : s.ret.mirror.held = s0.ret.mirror.held ∧ s.pos = s0.pos ∨ s.mainUp = false)
    (hp : s0.permission = s.permission) (ht : s0.statusTriggers = s.statusTriggers) :
    Host.Outcome.next (conclude s0 s) = (.next s : Host.Outcome State Fault Refusal) := by
  congr 1
  apply conclude_quiet _ hp ht
  rcases hm with ⟨a, b⟩ | h
  · exact mirrorAfter_same a b
  · exact mirrorAfter_down h

/-- A request whose handler changes nothing is answered, and nothing else of the node changes. -/
theorem Waiting.answers {s : State} {r : Request} {rest : List Request} (w : Waiting s r rest) (code : Nat) (h : Handler)
    (hc : r.code = code) (v : Verdict) (hj : judge h r (s.popped rest) = (s.popped rest, v)) :
    Host.Outcome.next (conclude s (Machine.serve code h s)) =
      (.next (answered s r rest v (startsAgain r.code v)) : Host.Outcome State Fault Refusal) := by
  rw [w.serve code h hc, execute, w.pop, hj]
  exact next_quiet (Or.inl ⟨rfl, rfl⟩) rfl rfl

/-- A request whose handler answers t' and v. -/
theorem Waiting.acts {s : State} {r : Request} {rest : List Request} (w : Waiting s r rest) (code : Nat) (h : Handler)
    (hc : r.code = code) (t' : State) (v : Verdict) (hj : judge h r (s.popped rest) = (t', v)) :
    Host.Outcome.next (conclude s (Machine.serve code h s)) =
      (.next (conclude s (appendReply (replyTo t' r v (startsAgain r.code v)) t')) : Host.Outcome State Fault Refusal) := by
  rw [w.serve code h hc, execute, w.pop, hj]

/-- A judged request reaches its handler. -/
theorem Judged.handled {s : State} {r : Request} (j : Judged s r) (rest : List Request) (h : Handler) :
    judge h r (s.popped rest) = h r (s.popped rest) := by
  simp only [judge]
  rw [if_neg (by intro x; exact j.running x.1),
    if_neg (by rw [Bool.and_eq_true]; intro x; rw [j.single x.2] at x; exact Bool.noConfusion x.1)]

/-- IDENTIFY and READ_STATUS reach their handlers in every state. -/
theorem judge_anytime {r : Request} (s : State) (rest : List Request) (h : Handler) (ht : takenInStartup r.code = true)
    (hb : singleNode r.code = false) : judge h r (s.popped rest) = h r (s.popped rest) := by
  simp [judge, ht, hb]

theorem startsAgain_other (c : Nat) (v : Verdict) (h : c ≠ 0x1E) : startsAgain c v = false := by simp [startsAgain, h]

theorem startsAgain_refused (c : Nat) (why : RefusalReason) : startsAgain c (.refused why) = false := by simp [startsAgain]

theorem startsAgain_done (c : Nat) (d : List Byte) : startsAgain c (.done d) = false := by simp [startsAgain]

/-- Modifying the entry of an address changes that entry only. -/
theorem entry_modify (t : PeerTable) (a : Address) (f : PeerEntry → PeerEntry) (hf : ∀ e, (f e).address = e.address) :
    (t.modify a f).entry? a = (t.entry? a).map f := by
  unfold PeerTable.modify PeerTable.entry?
  induction t.entries with
  | nil => rfl
  | cons e l ih =>
    simp only [List.map_cons, List.find?_cons]
    by_cases h : e.address = a
    · simp [h, hf]
    · have hb : (e.address == a) = false := by simp [h]
      simp only [hb, Bool.false_eq_true, if_false]
      exact ih

end Sys2Proof.Machine
end

