-- ==== Sys2Proof/Tests/Slice0.lean ====
section
/-! SUPPORT. The model's own tests: commands the well-formedness check refuses, for every statement with
hypotheses a state and operands that meet them, and the effect of one step here and there. -/

set_option maxRecDepth 20000

namespace Sys2Proof.Tests

open Sys2Proof Sys2Proof.Machine

/-! ### States and operands the tests share -/

/-- The state a command leaves. -/
def after (c : Instr) (s : State) : State :=
  match exec c s with
  | .next t => t
  | .fault _ => s
  | .refused _ => s

/-- A calibration in range: 100 motor turns to the joint's one, a window of one joint revolution. -/
def calOk : CalRecord :=
  { CalRecord.blank with ratio := some ⟨100, 1⟩, window := some ⟨-524288, 524287⟩, learned := true, lm := 40 }

/-- A setup in range with members 2 and 3 and source 2. -/
def setupOk : Setup := { Setup.defaults with members := [2, 3], source := some 2, waitSet := [3] }

/-- A joined, aligned node with a good calibration, in the given node state. -/
def live (n : NodeState) : State :=
  { State.reset with
    node := { State.reset.node with state := n }
    epoch := { EpochUnit.start with running := true, timer := .running, alignment := .aligned, epochSynced := true }
    link := { LinkController.start with watching := true, joined := true, recessiveRun := 11 }
    cal := ⟨calOk, true, false⟩
    pos := { PositionUnit.start with established := true } }

/-- The same node with the coupling source and its members. -/
def coupledNode (n : NodeState) : State :=
  { live n with
    setup := ⟨setupOk, setupOk, false⟩
    peers := PeerTable.start [2, 3]
    coupling := { CouplingRecord.start with opened := true } }

/-- A request from station 0 to the node. -/
def ask (payload : List Byte) : Request := ⟨0, false, payload⟩

/-- A node with one request waiting. -/
def asking (n : NodeState) (payload : List Byte) : State :=
  { live n with link := { (live n).link with requests := [ask payload] } }

/-- A node in HOMING, its motor and coarse reads ended. -/
def homingNode (sub : HomingSub) (mode : HomingMode) : State :=
  { live (.homing sub) with
    homing := { HomingRecord.start with
      mode := mode, before := some .unreferenced, latch := some ⟨100, .pos, 256⟩, pFlag := some (-8092), pCap := some 100 } }

/-- A node with the active kinds given. -/
def faulted (k : FaultKind) (n : NodeState) : State :=
  { live n with faults := { FaultSupervisor.start with active := kindAdd 0 k, present := kindAdd 0 k } }

/-- A domain in RETAIN with a VALID record. -/
def retained : State :=
  { State.reset with
    node := { State.reset.node with state := .retain }
    ret := { State.reset.ret with
      record := { RetainedRecord.cold with validity := .valid, reason := .none, anchored := true, cause := .powerLoss }
      tracker := ⟨.fast, 0, 0, true, true⟩ } }

/-- A POSITION frame and a STATUS frame of station 2, and a request of station 0 to station 1. -/
def positionOf2 : Frame := ⟨kindPosition, 2, 15, (live .referenced).positionPayload ⟨0, false, some 0, 0⟩ true⟩
def statusOf2 : Frame := ⟨kindStatus, 2, 15, (live .referenced).statusPayload⟩
def requestTo1 : Frame := ⟨kindRequest, 0, 1, [0x01]⟩

/-! ### Well-formedness: one ill-formed term for each check, which the check refuses -/

/-- FRAME_RECEIVED with bits that break off. -/
theorem test_wf_refuses_received : Instr.wf (.frameReceived [false, true]) = false := by decide

/-- FRAME_DISCARD with the bits of an intact frame. -/
theorem test_wf_refuses_discard : Instr.wf (.frameDiscard requestTo1.wire) = false := by decide

/-- ARBITRATION_LOST at the start bit, and behind the header. -/
theorem test_wf_refuses_arbitration : Instr.wf (.arbitrationLost 0) = false ∧ Instr.wf (.arbitrationLost 9) = false := by decide

/-- BIT_ERROR behind the longest frame. -/
theorem test_wf_refuses_bitError : Instr.wf (.bitError false 154) = false := by decide

/-- PEER_ABSENT with the address no station has. -/
theorem test_wf_refuses_peer : Instr.wf (.peerAbsent 15) = false := by decide

/-- TRACKER_READ_GOOD with a wrong check bit, and with the error bit. -/
theorem test_wf_refuses_trackerGood : Instr.wf (.trackerReadGood ⟨3, false, false, true⟩) = false ∧
    Instr.wf (.trackerReadGood ⟨3, true, true, false⟩) = false := by decide

/-- TRACKER_READ_FAILED with a word that is good. -/
theorem test_wf_refuses_trackerFailed : Instr.wf (.trackerReadFailed (.word ⟨3, false, true, true⟩)) = false := by decide

/-- And the well-formed terms beside them. -/
theorem test_wf_accepts : Instr.wf (.frameReceived requestTo1.wire) = true ∧
    Instr.wf (.frameDiscard (false :: List.replicate 8 false)) = true ∧ Instr.wf (.peerAbsent 14) = true ∧
    Instr.wf (.trackerReadGood ⟨3, false, true, true⟩) = true ∧ Instr.wf (.trackerReadFailed (.word ⟨3, true, true, false⟩)) = true ∧
    Instr.wf (.trackerReadFailed .timeout) = true ∧ Instr.wf (.arbitrationLost 8) = true ∧ Instr.wf (.bitError true 153) = true := by decide

/-! ### No word spells a command -/

theorem test_decodeTableWord_none : decodeTableWord 0 0 = none ∧ decodeTableWord 8 255 = none := by decide

theorem test_withFetchWord_keeps : State.reset.withFetchWord 8 1 = State.reset := by decide

/-! ### A state and operands for the hypotheses of every statement that has any -/

/-- One command waiting, and none. -/
theorem test_meets_StepRunsTheFrontCommand :
    ({ live .referenced with pending := [.holdExpiry, .identify] } : State).pending = [.holdExpiry, .identify] ∧
    State.reset.pending = [] := by decide

/-- Events that cannot occur after reset, the Epoch Unit not running, a node outside RETAIN. -/
theorem test_meets_EveryCommandCompletes :
    ¬Occurs .holdExpiry State.reset ∧ ¬Occurs .homeArm State.reset ∧ ¬Occurs .lineIdle State.reset ∧
    ¬Occurs (.trackerReadGood ⟨3, false, false, true⟩) retained ∧ State.reset.epoch.running = false ∧
    State.reset.node.state ≠ .retain := by
  refine ⟨by unfold Occurs; decide, ?_, by unfold Occurs; decide, by unfold Occurs; decide, by decide, by decide⟩
  rintro ⟨r, h, _⟩
  exact absurd (h.symm.trans (show takeable State.reset = none by decide)) (by simp)

/-- Frames of 0, of 14, of 13 (POSITION) and of 11 (STATUS) bytes of payload. -/
theorem test_meets_ReceiveReadsWhatAFrameSends :
    [⟨kindRequest, 0, 1, []⟩, ⟨kindReply, 1, 0, List.replicate 14 0xFF⟩, positionOf2, statusOf2].all
      (fun f => decide (f.payload.length ≤ 14) && f.lengthOk) = true := by decide

/-- A frame of 14 bytes of payload with a CRC one off. -/
theorem test_meets_StuffingAndCrcOfFrames :
    (⟨kindReply, 1, 0, List.replicate 14 0⟩ : Frame).payload.length ≤ 14 ∧
    crc8 (⟨kindReply, 1, 0, List.replicate 14 0⟩ : Frame).bytes + 1 ≠ crc8 (⟨kindReply, 1, 0, List.replicate 14 0⟩ : Frame).bytes := by
  decide

/-- Numbers at both ends of their ranges, and a state with a count and a joint position at theirs. -/
theorem test_meets_PayloadsReadBack :
    (∀ x ∈ [(-2147483648 : Int), 2147483647], -2147483648 ≤ x ∧ x ≤ 2147483647) ∧
    (∀ x ∈ [(-32768 : Int), 32767], -32768 ≤ x ∧ x ≤ 32767) ∧ (65535 : Nat) < 65536 ∧
    (let c := epochCount { PositionUnit.start with p := -536870912 } (.counted (-8192))
     (-2147483648 ≤ c.1 ∧ c.1 ≤ 2147483647) ∧ -32768 ≤ c.2.1 ∧ c.2.1 ≤ 32767) := by
  decide

/-- A report without a vernier result, the parts of READ_HOMING and READ_SWEEP, E_cap at both ends of 32 bits,
an unknown field and an unknown kind. -/
theorem test_meets_ReplyLayouts :
    State.reset.node.report.vernier = none ∧ State.reset.node.report.guided = false ∧
    (ask [5, 2]).payload = [0x05#8, 2#8] ∧ (ask [6, 5]).payload = [0x06#8, 5#8] ∧ 2 ≤ (2#8).toNat ∧ (5#8).toNat ≤ 5 ∧
    (-2147483648 : Int) ≤ (some (-2147483648 : Int)).getD 0 ∧ (none : Option Int).getD 0 ≤ 2147483647 ∧
    (0 = 0 ∨ 0x12 < 0) ∧ 0x12 < 0x13 ∧ 15 ≤ 15 := by decide

/-- Values at each bound of a range and one past it; lists that are stored and that are refused. -/
theorem test_meets_FieldWriteTables :
    natOfBytes [0, 255] < 256 ∧ 256 ≤ natOfBytes [1, 0] ∧ natOfBytes [0x1F, 0xFF] ≤ 8191 ∧ 8191 < natOfBytes [0x20, 0] ∧
    intOfBytes [0xE0, 0] = -8192 ∧ intOfBytes [0xDF, 0xFF] = -8193 ∧ intOfBytes [0x20, 0] = 8192 ∧
    (16 ≤ 256 * (0#8).toNat + (16#8).toNat ∧ 4 * (4#8).toNat ≤ 16) ∧ ¬(4 * (5#8).toNat ≤ 16) ∧
    ((0 : Int) < 2097152 ∧ (2097152 : Int) - 0 ≤ 2097152) ∧ ¬((2097153 : Int) - 0 ≤ 2097152) ∧
    natOfBytes [1, 0x13] = 275 ∧ roundPeriod 275 = 300 ∧ roundPeriod 274 = 250 ∧
    (1#8).toNat = actionCode .report ∧ 3 < (4#8).toNat ∧ setupRecordOk 1 setupOk = true ∧
    ([2, 3] : List Byte).length ≤ 8 ∧ ([2, 3] : List Byte).Nodup ∧ setupOk.source = some 2 ∧
    ¬([2, 2] : List Byte).Nodup ∧ (2 : Address) ∈ setupOk.members ∧ (4 : Address) ∉ setupOk.members := by decide

/-- A calibration in range, with its ratio and with the last bin. -/
theorem test_meets_CalFieldsWriteBackAsRead :
    calRecordOk calOk = true ∧ (calValueSize 1).isSome = true ∧ calFieldBytes calOk 1 0 = some [0, 100, 1] ∧
    (calValueSize 5).isSome = true ∧ calFieldBytes calOk 5 31 = some [0, 0] := by decide

/-- A node that runs, with HOLD_EXPIRY waiting. -/
def stepping : State := { live .referenced with pending := [.holdExpiry] }

theorem stepping_next : step stepping = .next (after .holdExpiry (live .referenced)) := rfl

theorem test_meets_GateAndPlayKept : GateFollowsPermission stepping ∧ PlayBounded stepping := by
  refine ⟨⟨fun _ => by decide, fun h => absurd h (by decide)⟩, by decide, fun h => absurd h (by decide)⟩

theorem test_meets_CountAndMirrorKept : CountFormed stepping ∧ MirrorFollowsCount stepping ∧
    CountFormed { stepping with pos := { stepping.pos with p := 536870911, thetaLast := 16383 } } :=
  ⟨by unfold CountFormed; decide, fun _ h => absurd h (by decide), by unfold CountFormed; decide⟩

theorem test_meets_LinkAndCountersKept : LinkBounded stepping ∧ CountersInRange stepping := by
  refine ⟨?_, ?_⟩ <;> constructor <;> decide

theorem test_meets_MainIsStoppedKept : MainIsStopped stepping ∧ MainIsStopped retained :=
  ⟨fun h => absurd h (by decide), fun _ => ⟨rfl, rfl, rfl, rfl, rfl, rfl, rfl, rfl, rfl, rfl, rfl, rfl, rfl, rfl, rfl⟩⟩

theorem test_meets_SetupAndEntriesKept : SetupObeysRules (coupledNode .referenced) ∧ EntriesAreMembers (coupledNode .referenced) := by
  unfold SetupObeysRules EntriesAreMembers
  decide

theorem test_meets_CalibrationInRangeKept : CalibrationInRange stepping :=
  ⟨fun h => absurd h (by decide), by unfold calInRange; decide, fun _ => by decide, fun h => absurd h (by decide)⟩

theorem test_meets_RetainedValidityOnlyFalls :
    MainIsStopped stepping ∧ exec .holdExpiry stepping = .next (after .holdExpiry stepping) ∧
    ¬(stepping.mainUp = true ∧ (after .holdExpiry stepping).mainUp = false ∧ stepping.ret.mirror.held = false) :=
  ⟨fun h => absurd h (by decide), rfl, by decide⟩

/-- A window of two joint revolutions, the widest margin, a guide and none; no, one and three candidates. -/
theorem test_meets_CandidatesWithinTheWindow :
    let c : CalRecord := { calOk with window := some ⟨0, 2097152⟩, m := 65535 }
    windowOk ⟨0, 2097152⟩ = true ∧ c.m ≤ 65535 ∧ (candidates c 0 none).count = 3 ∧ (candidates c 0 none).chosen = none ∧
    (candidates c 0 (some 1048576)).chosen = some 1048576 ∧ (candidates calOk 0 none).chosen = some 0 ∧
    (candidates { calOk with window := some ⟨1, 2⟩ } 0 none).count = 0 := by decide

/-- Each row of the vernier table, |r| at V_eff and one beyond it. -/
theorem test_meets_VernierTurnAndStatus :
    let cal : WorkingCal := ⟨calOk, true, false⟩
    let wide : WorkingCal := ⟨{ calOk with window := some ⟨0, 2097152⟩ }, true, false⟩
    ratioOk ⟨100, 1⟩ = true ∧
    (candidates { calOk with window := some ⟨1, 2⟩ } 0 none).count = 0 ∧ 2 ≤ (candidates wide.data 0 none).count ∧
    (candidates cal.data 0 none).chosen = some 0 ∧
    (vernier cal true true 0 0 4096 none).status = .clear ∧ (vernier cal true true 0 0 4097 none).status = .weak ∧
    (vernier cal true true 0 (-536870912 - 8193) 0 none).status = .outside ∧ cal.data.v ≤ 8191 := by decide

/-- A drift at the limit and one past it, in REFERENCED and in HOMING with ABS yes, at runs 0 and 2. -/
theorem test_meets_DriftMonitorRule :
    |driftOf 2048 0| ≤ (live .referenced).cal.data.driftLimit ∧ (live .referenced).cal.data.driftLimit < |driftOf 2049 0| ∧
    (live .referenced).work.motor = .none ∧ (homingNode .armed .learn).inHoming = true ∧
    (live .referenced).pos.driftRun ≠ 2 ∧ ({ (live .referenced).pos with driftRun := 2, abs := true }).driftRun = 2 := by decide

/-- A first read, a failed run of 2 and of 3, a jump at the limit and one past it, and both bounds of P. -/
theorem test_meets_CountUpdateOfAGoodRead :
    let u := { PositionUnit.start with established := true, p := 536870911, thetaLast := 16383 }
    u.p % 16384 = (u.thetaLast.toNat : Int) ∧ -536870912 ≤ u.p ∧ u.p ≤ 536870911 ∧
    ({ u with failedRun := 2 }).failedRun < 3 ∧ 3 ≤ ({ u with failedRun := 3 }).failedRun ∧
    |wrapS (4096 - 0)| ≤ (min 8191 (4096 * 1 : Nat) : Int) ∧ (min 8191 (4096 * 1 : Nat) : Int) < |wrapS (4097 - 0)| ∧
    PositionUnit.start.established = false ∧ PositionUnit.start.p % 16384 = (PositionUnit.start.thetaLast.toNat : Int) := by
  decide

/-- Runs of 1, 2 and 3, play known and unknown at the end of its learning, a valid and an invalid
calibration. -/
theorem test_meets_FailedReadPlayAndJoint :
    let u := { PositionUnit.start with established := true, failedRun := 1 }
    PositionUnit.start.established = false ∧ u.failedRun + 1 ≤ 2 ∧ 3 ≤ ({ u with failedRun := 2 }).failedRun + 1 ∧
    u.playKnown = true ∧ ({ u with playKnown := false }).playKnown = false ∧
    |u.acc + 39| < 2 * (20 : Int) ∧ 2 * (20 : Int) ≤ |u.acc + 40| ∧ (0 : Int) ≤ 20 ∧
    (live .referenced).cal.valid = true ∧ (live .referenced).cal.data.ratio = some ⟨100, 1⟩ ∧ WorkingCal.start.valid = false := by
  decide

/-- Records of every validity, two quadrants apart and not, wraps at both ends of T; CLEAR and not. -/
theorem test_meets_RestoreTables :
    RetainedRecord.cold.validity ≠ .valid ∧ retained.ret.record.validity = .valid ∧
    ((2#2).toNat + 4 - retained.ret.record.qRet.toNat) % 4 = 2 ∧ ((1#2).toNat + 4 - retained.ret.record.qRet.toNat) % 4 ≠ 2 ∧
    retainedOutcome { retained.ret.record with tRet := 32767, qRet := 3 } true 0#2 = .unusable .range ∧
    retainedOutcome { retained.ret.record with tRet := -32768, qRet := 0 } true 3#2 = .unusable .range ∧
    (⟨.clear, 5, 0, 8192, 1⟩ : VernierResult).status = .clear ∧ (⟨.weak, 5, 8192, 0, 1⟩ : VernierResult).status ≠ .clear := by
  decide

/-- Each gate state. -/
theorem test_meets_PermissionFaultClassAndRdy :
    MotionGate.start.state = .applied ∧ ({ MotionGate.start with state := .enabling }).state = .enabling ∧
    ({ MotionGate.start with state := .released }).state = .released ∧
    ({ MotionGate.start with state := .engaging }).state = .engaging ∧
    ({ live .referenced with gate := { MotionGate.start with state := .released } } : State).brk = true := by decide

/-- ALIGNING and ALIGNED, trusted and not, J at the edge of the widened window and one past it. -/
theorem test_meets_TrustedFlagAtHandover :
    let s : State := { live .referenced with pos := { (live .referenced).pos with abs := true } }
    State.reset.epoch.alignment = .aligning ∧ s.epoch.alignment = .aligned ∧ s.link.placing = true ∧
    s.trustedNow none = true ∧ (live .referenced).trustedNow none = false ∧ s.cal.data.window = some ⟨-524288, 524287⟩ ∧
    (-524288 - (0 : Int) ≤ -524288 ∧ (-524288 : Int) ≤ 524287 + 0) ∧ ¬(-524288 - (0 : Int) ≤ -524289) ∧
    s.gate.travelSide = .inside ∧ ({ s.gate with travelSide := .outside }).travelSide = .outside := by decide

/-- A member's entry, alignment both ways, synced both ways, 62 and 63 alignment edges, and a step that keeps
an ALIGNED node running. -/
theorem test_meets_TagClassesOfStoredFrames :
    (coupledNode .referenced).peers.entry? 2 = some (PeerEntry.start 2) ∧ (coupledNode .referenced).epoch.alignment = .aligned ∧
    State.reset.epoch.alignment = .aligning ∧ (live .referenced).link.joined = true ∧
    (readPosition positionOf2.payload).synced = true ∧
    (readPosition { positionOf2 with payload := List.replicate 13 0 }.payload).synced = false ∧
    62 + 1 < 64 ∧ ({ EpochUnit.start with alignEdges := 63 }).alignEdges + 1 = 64 ∧
    (live .referenced).epoch.running = true ∧ (after .holdExpiry (live .referenced)).epoch.running = true := by decide

/-- A kind that is active and one that is not; ABS yes and no in each node state a clause names, and an entry
of another kind. -/
theorem test_meets_NoticesOfFaults :
    let abs := fun (s : State) => { s with pos := { s.pos with abs := true } }
    (faulted .motorEncoder .referenced).active .motorEncoder = true ∧ (faulted .motorEncoder .referenced).active .trackJump = false ∧
    FaultKind.trackJump ≠ .motorEncoder ∧
    (abs (live .referenced)).pos.abs = true ∧ (abs (homingNode .armed .home)).inHoming = true ∧
    (homingNode .armed .home).pos.abs = false ∧ (homingNode .armed .home).active .trackJump = false ∧
    (faulted .trackJump (.homing .armed)).inHoming = true ∧ (faulted .trackJump (.homing .armed)).active .trackJump = true ∧
    (abs (live .calibrating)).node.state = .calibrating ∧ (live (.restoring .decide)).node.phase = .initial ∧
    ({ (live (.restoring .waitSource)).node with phase := .confirmation }).phase = .confirmation ∧
    (live .unreferenced).pos.abs = false ∧ (live .startup).node.state = .startup ∧
    (homingNode .armed .home).actionOf .addressClash ≠ .report ∧ (homingNode .armed .home).active .addressClash = false ∧
    (live .referenced).inHoming = false := by decide

/-- Kinds active and inactive, MOTOR_ENCODER under both recoveries, a good run of 8. -/
theorem test_meets_ConditionGoneAndClearFaults :
    (live .referenced).active .calInvalid = false ∧ (faulted .calInvalid .referenced).active .calInvalid = true ∧
    (faulted .motorEncoder .referenced).setup.latched.recovery = .latched ∧
    ({ Setup.defaults with recovery := .retry }).recovery = .retry ∧
    ({ FaultSupervisor.start with retryTimer := .expired }).retryTimer = .expired ∧
    8 ≤ ({ PortRecord.start with goodRun := 8 }).goodRun ∧ eventKind .calInvalid = false ∧
    (clearFaults FaultSupervisor.start).active = 0 ∧ (clearFaults (faulted .calInvalid .referenced).faults).active ≠ 0 := by decide

/-- CAPTURE with approach POS from −8092: a motion of −9 and of −8, a crossing at its distance of 8192 and
one short of it, a margin at the guard and one below, the flag lost and kept, and after a capture. -/
theorem test_meets_CaptureTests :
    let s : State := { homingNode .capture .home with homingOp := { HomingOp.start with pPrev := -8092, thetaPrev := 8292 } }
    s.node.state = .homing .capture ∧ s.homing.latch = some ⟨100, .pos, 256⟩ ∧ s.homing.pFlag = some (-8092) ∧
    s.homingOp.captured = false ∧ ({ s.homingOp with captured := true }).captured = true ∧
    ((-9 : Int) < -8 ∧ ¬(-8 : Int) < -8) ∧
    ((100 : Int) - 8292) % 16384 = 8192 ∧ (256 : Int) ≤ |100 - (-8092)| ∧ ¬(256 : Int) ≤ |100 - (-155)| ∧
    s.enc.homeLevel ≠ some false ∧ ({ s.enc with homeLevel := some false }).homeLevel = some false ∧
    s.homingOp.pPrev % 16384 = (s.homingOp.thetaPrev.toNat : Int) ∧ s.inHoming = true ∧
    s.homing.before ≠ some .referenced := by decide

/-- An edge in ARMED with a motion of 0 and of −1. -/
theorem test_meets_HomeEdgeAndCapture_edge :
    let s : State := { homingNode .armed .home with enc := { EncoderInterface.start with homeEdge := true } }
    s.node.state = .homing .armed ∧ s.homing.latch = some ⟨100, .pos, 256⟩ ∧ s.enc.homeEdge = true ∧
    (0 : Int) ≤ 0 ∧ ¬(0 : Int) ≤ -1 := by decide

/-- A capture to complete in HOME and in LEARN: a residual at the tolerance and past it, a shift out of
range, a coarse difference at its tolerance and past it. -/
theorem test_meets_HomeEdgeAndCapture :
    let s := homingNode .capture .home
    s.homing.mode = .home ∧ s.homing.pCap = some 100 ∧ s.node.state = .homing .capture ∧ s.cal.data.ratio = some ⟨100, 1⟩ ∧
    (homingNode .capture .learn).homing.mode = .learn ∧
    ({ s.cal.data with h := 356 }.h - 100 = 256) ∧ (256 : Int) ≤ s.cal.data.homeResidualTol ∧
    ¬((257 : Int) ≤ s.cal.data.homeResidualTol) ∧
    (536870911 : Int) < 536870911 + 16384 * roundDiv (16484 - 100) 16384 ∧
    (s.cal.data.homeCoarseTol : Int) < |signed65536 (257 - 0)| ∧ |signed65536 (256 - 0)| ≤ s.cal.data.homeCoarseTol := by decide

/-- A good coarse word, the sample taken with |s| = h, its bin at 254 and full, and not taken. -/
theorem test_meets_SweepSampleRule :
    let s : State := { live .calibrating with
      work := { EpochWork.start with coarse := .good 0, motor := .counted 64 }, pos := { (live .calibrating).pos with s := 20 } }
    s.work.coarse = .good 0 ∧ s.work.motor = .counted 64 ∧ |(64 : Int)| ≤ s.setup.latched.sweepSpeed ∧
    ¬|(65 : Int)| ≤ s.setup.latched.sweepSpeed ∧ s.pos.playKnown = true ∧ |s.pos.s| = s.cal.h ∧
    s.sweep.counts.toList.getD 0 0 < 255 ∧ 255 ≤ (Vector.replicate 32 255).toList.getD 0 0 := by decide

/-- SYNCED, FREE, and FREE with the rejoin armed; the timers running. -/
theorem test_meets_SampleLineAndEpochMarks_edges :
    let free : EpochUnit := { (live .referenced).epoch with sync := .free, highWatch := true, holding := true }
    (live .referenced).epoch.running = true ∧ (live .referenced).epoch.sync = .synced ∧
    (live .referenced).epoch.timer = .running ∧ free.running = true ∧ free.sync = .free ∧ free.rejoinArmed = false ∧
    free.highWatch = true ∧ free.holding = true ∧ ({ free with rejoinArmed := true }).rejoinArmed = true := by decide

/-- Each kind of sample instant, with a realignment run at 7 that becomes 8. -/
theorem test_meets_SampleInstants :
    let u : EpochUnit := { (live .referenced).epoch with realignRun := 7, realignOffset := 5, frames := .misaligned 5 }
    let free : EpochUnit := { u with sync := .free }
    u.running = true ∧ u.sync = .synced ∧ (realignStep true u).realignRun = 8 ∧
    (realignStep true (live .referenced).epoch).realignRun ≠ 8 ∧ free.sync = .free ∧ free.rejoinArmed = false ∧
    free.timer = .running ∧ ({ free with rejoinArmed := true }).rejoinArmed = true ∧ ({ u with lowWatch := true }).lowWatch = true ∧
    (live .referenced).enc.motor.reading = false ∧ (live .referenced).enc.coarse.reading = false := by decide

/-- The three kinds of instant on a joined node; 63 edges before it, a beacon count one short of the interval and
two, the quiet run at 63, the 16th instant, an epoch a sweep considered. -/
theorem test_meets_SampleInstantHandsOn :
    let u : EpochUnit := { (live .referenced).epoch with lowWatch := true, alignEdges := 63, instants := 15 }
    let free : EpochUnit := { u with sync := .free }
    u.running = true ∧ u.sync = .synced ∧ u.lowWatch = true ∧ free.timer = .running ∧
    ¬(free.sync = .synced ∨ free.rejoinArmed = true) ∧ State.reset.epoch.alignment = .aligning ∧
    (live .referenced).link.placing = true ∧ LinkController.start.placing = false ∧
    (live .referenced).setup.latched.beacon ≤ 127 + 1 ∧ 126 + 1 < (live .referenced).setup.latched.beacon ∧
    (faulted .addressClash .referenced).active .addressClash = true ∧ 15 ≤ u.instants ∧
    (live .calibrating).node.state = .calibrating ∧ ({ EpochWork.start with considered := true }).evaluated = false := by decide

/-- Each count at its mark. -/
theorem test_meets_SampleLineAndEpochMarks :
    ({ (live .referenced).epoch with syncedRun := 16 }).syncedRun = 16 ∧ (faulted .sampleStuck .referenced).active .sampleStuck = true ∧
    ({ EpochUnit.start with alignEdges := 64 }).alignEdges = 64 ∧ EpochUnit.start.alignment = .aligning ∧
    ({ (live .referenced).epoch with realignRun := 8 }).realignRun = 8 ∧
    (live .referenced).setup.latched.beacon ≤ ({ (live .referenced).link with beaconCount := 128 }).beaconCount ∧
    (live .referenced).link.placing = true ∧ (live .referenced).epoch.alignment = .aligned ∧
    (5#8 - 0#8 = 5#8 ∧ TagClass.current ≠ .misaligned) := by decide

/-- A motor read in progress with the coarse read pending; a good word, a bad check, an error bit. -/
def reading : State :=
  { live .referenced with
    enc := { EncoderInterface.start with motor := ⟨true, 2, 0, .none⟩, coarse := ⟨true, 2, 0, .none⟩ }
    work := { EpochWork.start with motor := .pending, coarse := .pending } }

theorem test_meets_MotorWordAndCheckBits :
    reading.enc.motor.reading = true ∧ reading.work.coarse = .pending ∧ reading.enc.motor.failRun = 2 ∧
    checkBitsRight 3 false true true = true ∧ checkBitsRight 3 false false true = false ∧
    checkBitsRight 3 true true false = true ∧ (countGood 0 4096 3 reading.pos).jump = .none ∧
    (countGood 0 4096 5000 reading.pos).jump ≠ .none ∧ reading.setup.latched.source = none := by decide

/-- The same node in REFERENCED and UNREFERENCED with its coarse read ended, good and failed, COARSE_ENCODER
active and not, a drift run of 2; a node in STARTUP, joined and ALIGNED and neither, coupled and not. -/
theorem test_meets_MotorWordComesSecond :
    reading.enc.motor.reading = true ∧ checkBitsRight 3 false true true = true ∧ reading.setup.latched.source = none ∧
    reading.cal.valid = true ∧ reading.work.evaluated = false ∧ reading.node.state = .referenced ∧
    (countGood reading.cal.h reading.setup.latched.jumpLimit 3 reading.pos).jump = .none ∧
    ({ reading.work with coarse := .good 0 }).coarse = .good 0 ∧ reading.active .coarseEncoder = false ∧
    (faulted .coarseEncoder .unreferenced).active .coarseEncoder = true ∧
    |driftOf 2048 0| ≤ reading.cal.data.driftLimit ∧ reading.cal.data.driftLimit < |driftOf 2049 0| ∧
    reading.pos.driftRun ≠ 2 ∧ ({ reading.pos with driftRun := 2 }).driftRun = 2 ∧
    (live .startup).link.joined = true ∧ (live .startup).epoch.alignment = .aligned ∧ State.reset.link.joined = false ∧
    WorkingCal.start.valid = false ∧ (coupledNode .startup).setup.latched.source.isSome = true ∧
    (coupledNode .startup).coupling.source = none ∧ checkBitsRight 3 false false true = false := by decide

/-- What it does there: J, then the coarse evaluation with a usable result. -/
theorem test_motorWord_evaluates :
    let t := after (.encoderReadComplete (.motor 3 false true true)) { reading with work := { reading.work with coarse := .good 0 } }
    t.work.evaluated = true ∧ t.pos.usable = true ∧ t.pos.lastE = 3 := by decide

theorem test_meets_ReadTimeoutsAndMarks_ports :
    reading.enc.motor.reading = true ∧ reading.work.coarse = .pending ∧ reading.enc.coarse.reading = true ∧
    reading.enc.coarse.failRun = 2 ∧ ({ reading.epoch with instants := 16 }).instants = 16 ∧
    reading.selfCheck.motorPort = .pending ∧ reading.selfCheck.coarsePort = .pending := by decide

/-- The runs at their marks, the fault active and not, under both recoveries. -/
theorem test_meets_ReadTimeoutsAndMarks :
    ({ PortRecord.start with failRun := 3 }).failRun = 3 ∧ ({ PortRecord.start with goodRun := 8 }).goodRun = 8 ∧
    (live .referenced).active .motorEncoder = false ∧ (faulted .motorEncoder .referenced).active .motorEncoder = true ∧
    (live .referenced).setup.latched.recovery = .latched ∧ ({ Setup.defaults with recovery := .retry }).recovery = .retry ∧
    (live .referenced).active .coarseEncoder = false ∧ (live .referenced).actionOf .coarseEncoder = .report ∧
    (faulted .coarseEncoder .referenced).active .coarseEncoder = true ∧
    ({ (live .referenced).pos with driftRun := 3 }).driftRun = 3 := by decide

/-- The decide epoch of an INITIAL restore, J formed and the coarse read in progress. -/
def deciding : State :=
  { live (.restoring .decide) with
    enc := { EncoderInterface.start with coarse := ⟨true, 0, 0, .none⟩ }
    work := { EpochWork.start with motor := .counted 0, coarse := .pending, joint := some ⟨0, false, some 0, 0⟩ }
    ret := { retained.ret with mirror := { retained.ret.mirror with held := true } } }

theorem test_meets_CoarseWordDecidesTheRestore :
    (deciding.enc.coarse.reading = true ∧ checkBitsRight ((0#12).zeroExtend 14) false false false = true ∧
    deciding.node.state = .restoring .decide ∧ deciding.node.phase = .initial ∧ deciding.cal.valid = true ∧
    deciding.pos.abs = false ∧ deciding.work.joint = some ⟨0, false, some 0, 0⟩ ∧ deciding.work.evaluated = false ∧
    deciding.active .coarseEncoder = false) ∧ MirrorFollowsCount deciding :=
  ⟨by decide, fun _ h => absurd h (by decide)⟩

/-- A coarse read that fails, with the retained turn usable and not; a confirmation with J; a node that decides
nothing, with J and without it. -/
theorem test_meets_CoarseReadElsewhere :
    (deciding.enc.coarse.reading = true ∧ checkBitsRight ((0#12).zeroExtend 14) true false false = false ∧
    deciding.work.joint = some ⟨0, false, some 0, 0⟩ ∧ deciding.setup.latched.retainedAlone = true ∧
    retainedOutcome deciding.ret.record deciding.node.continuity (quadrantOf deciding.pos.thetaLast) = .adjusted 0 ∧
    retainedOutcome deciding.ret.record false (quadrantOf deciding.pos.thetaLast) = .unusable .continuity ∧
    ({ deciding.node with phase := .confirmation }).phase = .confirmation ∧ ({ deciding.pos with abs := true }).abs = true ∧
    (vernier deciding.cal true true 0 0 0 (some 0)).status = .clear ∧ (vernier deciding.cal true true 0 0 4097 (some 0)).status ≠ .clear ∧
    (vernier deciding.cal true true 0 0 0 (some 0)).tv = 0 / 16384 ∧ (vernier deciding.cal true true 0 0 0 (some 0)).tv ≠ 16384 / 16384 ∧
    (live .referenced).work.joint = none ∧ (live .unreferenced).node.state = .unreferenced ∧
    (live .referenced).active .coarseEncoder = false ∧ (live .referenced).work.motor = .none) ∧ MirrorFollowsCount deciding :=
  ⟨by decide, fun _ h => absurd h (by decide)⟩

/-- A coarse read that fails decides on the retained turn number alone. -/
theorem test_coarseTimeout_retainedAlone :
    (after (.encoderReadTimeout .coarse true) deciding).node.report.decision = .retainedAlone ∧
    (after (.encoderReadTimeout .coarse true) deciding).pos.abs = true := by decide

/-- And what that word does there: the retained turn number confirmed by the vernier. -/
theorem test_coarseWord_confirms :
    (after (.encoderReadComplete (.coarse 0 false false false)) deciding).node.report.decision = .confirmed ∧
    (after (.encoderReadComplete (.coarse 0 false false false)) deciding).node.state = .referenced := by decide

/-- A miss count at its limit, an entry one epoch past its timeout, the quiet run at 64. -/
theorem test_meets_CouplingAndPeerLosses :
    (coupledNode .referenced).setup.latched.source.isSome = true ∧ (coupledNode .referenced).coupling.opened = true ∧
    ({ (coupledNode .referenced).coupling with missCount := 3 }).missCount = (coupledNode .referenced).setup.latched.missLimit ∧
    (coupledNode .referenced).active .couplingLost = false ∧
    (PeerTable.mk [{ PeerEntry.start 2 with age := 17 }] none).entry? 2 = some { PeerEntry.start 2 with age := 17 } ∧
    (PeerEntry.start 2).absent = false ∧ (coupledNode .referenced).setup.latched.peerTimeout < 17 ∧
    (coupledNode .referenced).peers.anyAbsent = false ∧ (faulted .addressClash .referenced).active .addressClash = true := by decide

/-- Both sides of a match, with an absolute source frame and without, counted and extrapolated; a miss one short
of the limit, and one in a capture epoch. -/
theorem test_meets_MatchAndMiss :
    let s : State := { coupledNode (.restoring .waitSource) with
      work := { EpochWork.start with motor := .counted 0, coarse := .pending }
      coupling := { CouplingRecord.start with opened := true, own := true, source := some ⟨0, true, false⟩, missCount := 2 } }
    s.setup.latched.source.isSome = true ∧ s.coupling.opened = true ∧ s.coupling.own = true ∧ s.coupling.matched = false ∧
    s.coupling.source = some ⟨0, true, false⟩ ∧ s.work.coarse = .pending ∧ s.node.state = .restoring .waitSource ∧
    s.work.motor = .counted 0 ∧ (SourceFrame.mk 0 false false).absolute = false ∧ (coupledNode .referenced).node.state = .referenced ∧
    ({ s.work with motor := .extrapolated 5 }).motor = .extrapolated 5 ∧ s.epoch.alignment = .aligned ∧ s.link.placing = true ∧
    s.coupling.missCount + 1 = s.setup.latched.missLimit ∧ (homingNode .capture .home).node.state = .homing .capture ∧
    ({ HomingOp.start with captured := true }).captured = true := by decide

/-- The main domain up, the mirror held and not, the backup low and not. -/
theorem test_meets_RetainEntry :
    (live .startup).mainUp = true ∧ (live .referenced).mainUp = true ∧ (live .referenced).ret.mirror.held = true ∧
    ({ (live .referenced).ret.mirror with held := false }).held = false ∧ (live .referenced).pins.vmainGood = true := by decide

/-- RETAIN with a read in progress and not, wraps at both ends of T, two quadrants, the runs at their marks. -/
theorem test_meets_TrackerReads :
    retained.node.state = .retain ∧ retained.ret.tracker.running = true ∧ retained.ret.tracker.reading = true ∧
    ({ retained.ret.tracker with reading := false }).reading = false ∧
    (((quadrantOf 16383).toNat + 4 - 0) % 4 = 3 ∧ ((quadrantOf 8192).toNat + 4 - 0) % 4 = 2 ∧
      ((quadrantOf 4096).toNat + 4 - 0) % 4 = 1 ∧ ((quadrantOf 4095).toNat + 4 - 0) % 4 = 0) ∧
    retained.ret.record.validity = .valid ∧ RetainedRecord.cold.validity ≠ .valid ∧
    checkBitsRight 3 false true true = true ∧ checkBitsRight 3 false false true = false ∧
    (⟨3, true, true, false⟩ : TrackerWord).error = true ∧
    ¬(-32768 ≤ ({ retained.ret.record with tRet := -32768 }).tRet + -1) ∧
    ({ retained.ret.tracker with unchangedRun := 64 }).unchangedRun = 64 ∧
    ({ retained.ret.tracker with failedRun := 3 }).failedRun = 3 := by decide

theorem test_meets_SuppliesAndDwell :
    retained.node.state = .retain ∧ ({ retained.node with state := .off }).state = .off ∧
    (live .referenced).epoch.running = true ∧ (live .referenced).active .backupLow = false ∧
    (live .referenced).actionOf .backupLow = .report ∧ (faulted .backupLow .referenced).active .backupLow = true ∧
    RetainedRecord.cold.validity = .lost ∧ retained.ret.record.validity ≠ .lost := by decide

theorem test_meets_StartsOfTheMainDomain :
    retained.node.state = .retain ∧ retained.ret.dwellMet = true ∧ ({ retained.node with state := .off }).state = .off ∧
    (∀ straps, OffReturn.backup ≠ .startup straps) ∧ (∀ straps, OffReturn.heldReset true ≠ .startup straps) :=
  ⟨by decide, by decide, by decide, fun _ h => OffReturn.noConfusion h, fun _ h => OffReturn.noConfusion h⟩

/-- STARTUP before the load with valid straps, with areas unwritten, good and out of range; and after it. -/
theorem test_meets_LoadAndJudgeRecords :
    State.reset.node.state = .startup ∧ State.reset.straps.address ≠ 15#4 ∧ State.reset.straps.axis ≠ 0#3 ∧
    State.reset.epoch.running = false ∧ (live .startup).epoch.running = true ∧
    ({ (live .startup).link with watching := false }).watching = false ∧
    calRecordOk calOk = true ∧ calRecordOk CalRecord.blank = false ∧ setupRecordOk 1 setupOk = true ∧ setupRecordOk 2 setupOk = false := by
  decide

set_option maxRecDepth 200000 in
/-- A load of two good areas and of two unwritten ones. -/
theorem test_load_good :
    (after .storeLoadComplete { State.reset with store := StoreUnit.start (calWritten calOk) (setupWritten setupOk) }).cal.valid = true ∧
    (after .storeLoadComplete { State.reset with store := StoreUnit.start (calWritten calOk) (setupWritten setupOk) }).setup.latched = setupOk ∧
    kindHas (after .storeLoadComplete State.reset).faults.active .calInvalid = true := by decide

/-- A write of either target, before and after its CRC; a read-back that differs. -/
theorem test_meets_StoreWriteEnds :
    let u : StoreUnit := { StoreUnit.start .unwritten .unwritten with writing := some .cal, calSnapshot := calOk }
    u.crcWritten = false ∧ u.writing = some .cal ∧ ({ u with crcWritten := true }).crcWritten = true ∧
    ({ u with writing := some .setup }).writing = some .setup ∧
    Area.unwritten ≠ Area.written u.calSnapshot (crc16 (calRecordBytes u.calSnapshot)) ∧
    Area.unwritten ≠ Area.written u.setupSnapshot (crc16 (setupRecordBytes u.setupSnapshot)) ∧
    (live .referenced).cal.valid = true ∧ WorkingCal.start.valid = false := by decide

/-- Watching and not joined, joined, DETACHED with 62, 63 and 64 idle periods, the count of 32. -/
theorem test_meets_LineMarksAndHealth :
    let l := (live .referenced).link
    l.watching = true ∧ LinkController.start.joined = false ∧ l.joined = true ∧ l.health < 224 ∧
    ({ l with health := 224, idlePeriods := 62 }).idlePeriods < 63 ∧ ({ l with health := 224, idlePeriods := 63 }).idlePeriods = 63 ∧
    64 ≤ ({ l with health := 224, idlePeriods := 64 }).idlePeriods ∧ ({ l with intact := 32 }).intact = 32 ∧
    224 ≤ ({ l with health := 220 }).health + 4 ∧ ({ l with health := 219 }).health + 4 < 224 ∧
    (∀ r ∈ l.replies, r.restart = false) ∧ (Reply.mk requestTo1 true false).restart = true := by decide

/-- An idle line with each slot filled in turn, each origin in the transmit register with its slot empty and
refilled, a header bit sent recessive, the start bit and the last bit of the frame misread, the counter at 219
and at 220, and the reply to a RESTART. -/
theorem test_meets_TransmissionBeginsAndEnds :
    let l := (live .referenced).link
    let tx : TxOrigin → Transmission := fun o => ⟨statusOf2, o, statusOf2.wire⟩
    l.joined = true ∧ l.tx = none ∧ l.stuck = false ∧ 11 ≤ l.recessiveRun ∧ ({ l with health := 159 }).health ≤ 159 ∧
    ({ l with positionSlot := some positionOf2 }).positionSlot = some positionOf2 ∧ l.positionSlot = none ∧ l.statusSlot = none ∧
    ({ l with statusSlot := some statusOf2 }).statusSlot.isSome = true ∧
    ({ l with replies := [⟨requestTo1, true, true⟩] }).replies.head? = some ⟨requestTo1, true, true⟩ ∧
    ({ l with tx := some (tx .position) }).tx = some (tx .position) ∧ (tx .status).origin = .status ∧ (tx .reply).origin = .reply ∧
    statusOf2.wire.getD 2 false = true ∧ statusOf2.wire.getD 0 true = false ∧ 9 ≤ statusOf2.wire.length - 1 ∧
    ({ l with health := 219 }).health < 220 ∧ 220 ≤ ({ l with health := 220 }).health ∧
    (live .referenced).mainUp = true ∧ (live .referenced).pins.vmainGood = true := by decide

/-- Intact frames of each kind, from a member, a stranger and the node's own address; an intact count of 30;
a queue of 3 and of 4 requests; a frame that is discarded. -/
theorem test_meets_ReceptionByKind :
    let s := coupledNode .referenced
    receive requestTo1.wire = .intact requestTo1 ∧ receive positionOf2.wire = .intact positionOf2 ∧
    receive statusOf2.wire = .intact statusOf2 ∧ receive (false :: List.replicate 8 false) = .discard .form ∧
    s.link.joined = true ∧ s.link.health < 223 ∧ s.link.stuck = false ∧ s.link.tx = none ∧ s.link.awaitIdle = false ∧
    ({ s.link with intact := 30 }).intact < 31 ∧
    requestTo1.dest = s.straps.address ∧ 1 ≤ requestTo1.payload.length ∧
    (List.replicate 3 (ask [1])).length < 4 ∧ 4 ≤ (List.replicate 4 (ask [1])).length ∧
    positionOf2.source ≠ s.straps.address ∧ s.setup.latched.members.contains positionOf2.source = true ∧
    s.setup.latched.members.contains ({ positionOf2 with source := 4 } : Frame).source = false ∧
    ({ positionOf2 with source := 1 } : Frame).source = s.straps.address ∧ s.epoch.alignment = .aligned ∧
    (readPosition positionOf2.payload).synced = true := by decide

/-- The 31st intact frame heard; each way to receive nothing; a counter at 223, with a RESTART reply queued and without; an
entry alone in ABSENT and one beside another; a source frame that qualifies, with the match to come and made. -/
theorem test_meets_ReceptionEffects :
    let s := coupledNode .referenced
    let e : PeerEntry := { PeerEntry.start 2 with absent := true }
    receive positionOf2.wire = .intact positionOf2 ∧ receive requestTo1.wire = .intact requestTo1 ∧
    receive (false :: List.replicate 8 false) = .discard .form ∧ ({ s.link with intact := 31 }).intact = 31 ∧
    s.link.watching = true ∧ s.link.tx = none ∧ LinkController.start.joined = false ∧ ({ s.link with health := 224 }).health = 224 ∧
    ({ s.link with stuck := true }).stuck = true ∧ ({ s.link with awaitIdle := true }).awaitIdle = true ∧
    ({ s.link with health := 223 }).health = 223 ∧
    (∀ r ∈ s.link.replies, r.restart = false) ∧ (∃ r ∈ [(⟨requestTo1, true, false⟩ : Reply)], r.restart = true) ∧
    s.mainUp = true ∧ s.pins.vmainGood = true ∧ positionOf2.source ≠ s.straps.address ∧
    s.setup.latched.members.contains positionOf2.source = true ∧
    (PeerTable.mk [e, PeerEntry.start 3] none).anyAbsent = true ∧
    (∀ x ∈ [e, PeerEntry.start 3], x.absent = true → x.address = positionOf2.source) ∧
    (∃ x ∈ [e, { PeerEntry.start 3 with absent := true }], x.absent = true ∧ x.address ≠ positionOf2.source) ∧
    (readPosition (List.replicate 13 0)).synced = false ∧ State.reset.epoch.alignment = .aligning ∧
    s.epoch.alignment = .aligned ∧ s.setup.latched.source = some positionOf2.source ∧
    (readPosition positionOf2.payload).tag = s.epoch.count ∧ (readPosition positionOf2.payload).synced = true ∧
    s.epoch.epochSynced = true ∧ s.coupling.source = none ∧ s.coupling.opened = true ∧ s.coupling.own = false ∧
    ({ s.coupling with own := true }).own = true ∧ s.coupling.matched = false := by decide

/-- The levels of RDY, the gate states, the retry timer with a good run of 8 and of 7. -/
theorem test_meets_GateAndRetryTimers :
    let g : MotionGate := { MotionGate.start with grant := true, rdyLevel := .high }
    let s : State := { live .referenced with gate := { g with state := .enabling } }
    s.mainUp = true ∧ s.gate.rdyLevel = .high ∧ (live .referenced).gate.rdyLevel = .low ∧ (live .referenced).rdyHeld = false ∧
    s.gate.state = .enabling ∧ s.permission = true ∧ ({ g with state := .released }).state = .released ∧
    ({ g with state := .engaging }).state = .engaging ∧ ({ s.faults with retryTimer := .running }).retryTimer = .running ∧
    ({ Setup.defaults with recovery := .retry }).recovery = .retry ∧
    (faulted .motorEncoder .referenced).active .motorEncoder = true ∧ 8 ≤ ({ PortRecord.start with goodRun := 8 }).goodRun ∧
    ({ PortRecord.start with goodRun := 7 }).goodRun < 8 := by decide

/-! ### Requests -/

/-- A request waits in the asking node, whatever its payload, in REFERENCED and in other states. -/
theorem waits (n : NodeState) (h : (live n).mainUp = true) (p : List Byte) : Waiting (asking n p) (ask p) [] :=
  ⟨h, rfl, by show (0 : Nat) < 4; decide, rfl⟩

/-- And no step before its own rule refuses it outside STARTUP. -/
theorem judged (n : NodeState) (h : n ≠ .startup) (p : List Byte) : Judged (asking n p) (ask p) := ⟨h, fun _ => rfl⟩

theorem test_meets_ReadRequests :
    Waiting (asking .startup [1]) (ask [1]) [] ∧ Waiting (asking .startup [2, 1]) (ask [2, 1]) [] ∧
    Judged (asking .referenced [4, 3]) (ask [4, 3]) ∧ Judged (asking .referenced [5, 2]) (ask [5, 2]) ∧
    Judged (asking .referenced [6, 5]) (ask [6, 5]) ∧
    (coupledNode .referenced).setup.latched.members.contains (BitVec.ofNat 4 (2#8).toNat) = true ∧
    (coupledNode .referenced).peers.entry? (BitVec.ofNat 4 (2#8).toNat) = some (PeerEntry.start 2) ∧
    (coupledNode .referenced).setup.latched.members.contains (BitVec.ofNat 4 (14#8).toNat) = false :=
  ⟨waits _ rfl _, waits _ rfl _, judged _ (by decide) _, judged _ (by decide) _, judged _ (by decide) _, by decide, by decide, by decide⟩

theorem test_meets_ReadRequests_fields :
    Waiting (asking .startup [8, 1, 0]) (ask [8, 1, 0]) [] ∧ Waiting (asking .referenced [8, 5, 31]) (ask [8, 5, 31]) [] ∧
    calFieldBytes calOk 5 31 = some [0, 0] ∧ calFieldBytes calOk 5 32 = none ∧ calFieldBytes calOk 0x13 0 = none ∧
    Waiting (asking .referenced [9, 9, 14, 1]) (ask [9, 9, 14, 1]) [] ∧ setupFieldBytes setupOk 9 14 = some [1] ∧
    setupFieldBytes setupOk 9 15 = none ∧ 1 < (2#8).toNat :=
  ⟨waits _ rfl _, waits _ rfl _, by decide, by decide, by decide, waits _ rfl _, by decide, by decide, by decide⟩

/-- A request with one byte too many, one with one too few, and parts one past the last. -/
theorem test_meets_RefusalsByCodeAndState_form :
    Waiting (asking .startup [1, 0]) (ask [1, 0]) [] ∧ (ask [1, 0]).payload.length ≠ 1 + 0 ∧
    (ask [9, 1, 0]).payload.length ≠ 1 + 3 ∧ Judged (asking .referenced [9, 1, 0]) (ask [9, 1, 0]) ∧
    (asking .referenced [0x13, 0]).inRestoring = false ∧ (asking .referenced [0x13, 0]).operating = false ∧
    (asking (.homing .armed) [0x15, 0]).inHoming = true ∧ (asking .calibrating [0x19, 0]).node.state = .calibrating ∧
    (some (⟨.initial, 0, 0, 0, 0, 0, 0⟩ : ConflictRecord)).isSome = true ∧ (live .unreferenced).setup.latched.source = none ∧
    ({ CouplingRecord.start with lastAbsolute := some true }).lastAbsolute = some true ∧
    (coupledNode .unreferenced).active .couplingLost = false ∧
    (ask [2, 2]).payload.drop 1 = [2] ∧ 1 < (2#8).toNat ∧ 3 < (4#8).toNat ∧ 2 < (3#8).toNat ∧ 5 < (6#8).toNat ∧
    (ask [7, 2, 2]).payload.drop 1 = [2, 2] :=
  ⟨waits _ rfl _, by decide, by decide, judged _ (by decide) _, by decide⟩

/-- An unknown code, STARTUP, destination 15, and each node state a clause names. -/
theorem test_meets_RefusalsByCodeAndState :
    Waiting (asking .referenced [0xFF]) (ask [0xFF]) [] ∧ knownCode (ask [0xFF]).code = false ∧
    Waiting (asking .startup [0x13]) (ask [0x13]) [] ∧ requestCode .homeArm = some 0x13 ∧ (ask [0x13]).code = 0x13 ∧
    (⟨0, true, [0x16]⟩ : Request).broadcast = true ∧ Judged (asking (.restoring .waitSource) [0x11]) (ask [0x11]) ∧
    (asking (.restoring .waitSource) [0x11]).inRestoring = true ∧ (asking (.homing .armed) [0x13]).operating = true ∧
    (asking .unreferenced [0x14]).node.state = .unreferenced ∧ (asking .unreferenced [0x17]).node.conflict = none ∧
    (asking .referenced [0x15]).inHoming = false ∧ (asking .referenced [0x19]).node.state ≠ .calibrating :=
  ⟨waits _ rfl _, by decide, waits _ rfl _, rfl, by decide, rfl, judged _ (by decide) _, by decide, by decide, by decide, by decide,
   by decide, by decide⟩

theorem test_meets_FaultAndGrantRequests :
    Waiting (asking .referenced [0x10]) (ask [0x10]) [] ∧ Waiting (asking .referenced [0x11, 1]) (ask [0x11, 1]) [] ∧
    Judged (asking .referenced [0x11, 1]) (ask [0x11, 1]) ∧ Judged (asking .referenced [0x12]) (ask [0x12]) ∧
    (asking .referenced [0x11, 1]).inRestoring = false ∧ (1#8).toNat ≤ 1 ∧ 1 < (2#8).toNat :=
  ⟨waits _ rfl _, waits _ rfl _, judged _ (by decide) _, judged _ (by decide) _, by decide, by decide, by decide⟩

/-- A gate that follows its permission, a valid, learned calibration and one that is not, peers ready and not, a
homing to abort. -/
theorem test_meets_HomingRequests :
    Waiting (asking .unreferenced [0x13]) (ask [0x13]) [] ∧ Judged (asking .unreferenced [0x13]) (ask [0x13]) ∧
    Judged (asking .referenced [0x14]) (ask [0x14]) ∧ Judged (asking (.homing .armed) [0x15]) (ask [0x15]) ∧
    GateFollowsPermission (asking .unreferenced [0x13]) ∧ GateFollowsPermission (asking .referenced [0x14]) ∧
    GateFollowsPermission (asking (.homing .armed) [0x15]) ∧
    (asking (.homing .armed) [0x15]).inHoming = true ∧ (asking .referenced [0x13]).cal.valid = true ∧
    (asking .referenced [0x13]).cal.data.learned = true ∧ CalRecord.blank.learned = false ∧ WorkingCal.start.valid = false ∧
    (∀ a ∈ (live .referenced).setup.latched.waitSet ++ (live .referenced).setup.latched.source.toList, (live .referenced).peerReady a = true) ∧
    ¬(∀ a ∈ (coupledNode .referenced).setup.latched.waitSet ++ (coupledNode .referenced).setup.latched.source.toList,
      (coupledNode .referenced).peerReady a = true) :=
  ⟨waits _ rfl _, judged _ (by decide) _, judged _ (by decide) _, judged _ (by decide) _, ⟨by decide, by decide⟩,
   ⟨by decide, by decide⟩, ⟨by decide, by decide⟩, by decide, by decide, by decide, by decide,
   by decide, by decide, by decide⟩

/-- A coupled node whose source is not absolute, an evaluated node, E at both ends of 32 bits, a conflict
whose chosen turn lies at the end of the range and one past it. -/
theorem test_meets_ZeroAndAccept :
    Waiting (asking .unreferenced [0x16]) (ask [0x16]) [] ∧ Judged (asking .unreferenced [0x17, 1]) (ask [0x17, 1]) ∧
    ((coupledNode .unreferenced).setup.latched.source.isSome = true ∧ (coupledNode .unreferenced).coupling.lastAbsolute ≠ some true) ∧
    (live .unreferenced).setup.latched.source.isSome = false ∧
    ({ (live .unreferenced).pos with evaluated := true, usable := true, lastE := 2147483647 }).lastE ≤ 2147483647 ∧
    ({ (live .unreferenced).store with writing := some .cal }).writing = some .cal ∧
    ((0 + ((32767 : Int) - 0) * 16384) / 16384 ≤ 32767) ∧ (32767 < (0 + ((32768 : Int) - 0) * 16384) / 16384) ∧
    (2#8 = 1#8 ∨ 2#8 = 2#8) ∧ (3#8 ≠ 1#8 ∧ 3#8 ≠ 2#8) :=
  ⟨waits _ rfl _, judged _ (by decide) _, by decide, by decide, by decide, by decide, by decide, by decide, by decide, by decide⟩

/-- A bin with the least count and one short of it, its mean past the clamp. -/
theorem test_meets_SweepRequests :
    Waiting (asking .referenced [0x18]) (ask [0x18]) [] ∧ Judged (asking .referenced [0x18]) (ask [0x18]) ∧
    Judged (asking .calibrating [0x19]) (ask [0x19]) ∧ Judged (asking .calibrating [0x1A]) (ask [0x1A]) ∧
    (let w : SweepRecord := { SweepRecord.start with counts := (Vector.replicate 32 8).set 31 7, sums := Vector.replicate 32 16384 }
     8 ≤ w.counts[(0 : Fin 32)] ∧ w.counts[(31 : Fin 32)] < 8 ∧ (2047 : Int) < roundDiv (w.sums[(0 : Fin 32)]) (w.counts[(0 : Fin 32)])) :=
  ⟨waits _ rfl _, judged _ (by decide) _, judged _ (by decide) _, judged _ (by decide) _, by decide⟩

/-- Writes that are stored, clamped and refused, of a mechanical field in UNREFERENCED and elsewhere. -/
theorem test_meets_WriteRequests :
    Waiting (asking .unreferenced [0x1B, 1, 0, 0, 16, 1]) (ask [0x1B, 1, 0, 0, 16, 1]) [] ∧
    Judged (asking .unreferenced [0x1B, 1, 0, 0, 16, 1]) (ask [0x1B, 1, 0, 0, 16, 1]) ∧
    (asking .unreferenced [0x1B, 1, 0, 0, 16, 1]).inRestoring = false ∧
    calValueSize 1 = some [0#8, 16#8, 1#8].length ∧ calFieldWrite calOk 1 0 [0, 16, 1] = .stored { calOk with ratio := some ⟨16, 1⟩ } false ∧
    calFieldBytes { calOk with ratio := some ⟨16, 1⟩ } 1 0 = some [0, 16, 1] ∧ calFieldWrite calOk 1 0 [0, 15, 1] = .refused ∧
    calFieldWrite calOk 9 0 [0, 255] = .stored { calOk with v := 256 } true ∧ calValueSize 0x12 = none ∧
    setupFieldBytes setupOk 4 0 ≠ none ∧ setupSizeOk 4 2 = true ∧ setupFieldBytes setupOk 9 15 = none ∧
    setupFieldWrite 1 setupOk 4 0 [3, 0xFD] = .stored { setupOk with period := 1000 } true ∧
    setupFieldWrite 1 setupOk 2 0 [4] = .refused :=
  ⟨waits _ rfl _, judged _ (by decide) _, by decide, by decide, by decide, by decide, by decide, by decide, by decide, by decide,
   by decide, by decide, by decide, by decide⟩

/-- Each target, another value, a write in progress, and a calibration with its ratio unset. -/
theorem test_meets_StoreAndRestartRequests :
    Waiting (asking .referenced [0x1D, 1]) (ask [0x1D, 1]) [] ∧ Judged (asking .referenced [0x1D, 1]) (ask [0x1D, 1]) ∧
    Judged (asking .referenced [0x1E]) (ask [0x1E]) ∧ (asking .referenced [0x1D, 1]).inRestoring = false ∧
    (asking .referenced [0x1D, 1]).store.writing = none ∧ calOk.ratio ≠ none ∧ calOk.window ≠ none ∧ CalRecord.blank.ratio = none ∧
    (3#8 ≠ 1#8 ∧ 3#8 ≠ 2#8) ∧ ({ (live .referenced).store with writing := some .setup }).writing ≠ none :=
  ⟨waits _ rfl _, judged _ (by decide) _, judged _ (by decide) _, by decide, by decide, by decide, by decide, by decide, by decide,
   by decide⟩

/-! ### Single steps -/

/-- A SYNCED sample instant moves the count from 255 to 0 and begins both reads. -/
theorem test_smpRisingEdge_wraps :
    let t := after (.smpRisingEdge ⟨true, false, false⟩) { live .referenced with epoch := { (live .referenced).epoch with count := 255 } }
    t.epoch.count = 0 ∧ t.enc.motor.reading = true ∧ t.enc.coarse.reading = true ∧ t.enc.homeLevel = some true := by decide

/-- A motor word one turn quarter on counts forward; the wrap from 16383 to 0 adds 1. -/
theorem test_motorWord_counts :
    (after (.encoderReadComplete (.motor 3 false true true)) reading).pos.p = 3 ∧
    (after (.encoderReadComplete (.motor 0 false false false))
      { reading with pos := { reading.pos with p := 16383, thetaLast := 16383 } }).pos.p = 16384 := by decide

/-- The third failure of the motor port raises MOTOR_ENCODER and takes the absolute count. -/
theorem test_motorWord_thirdFailure :
    let t := after (.encoderReadComplete (.motor 3 false false true)) { reading with pos := { reading.pos with abs := true, failedRun := 2 } }
    kindHas t.faults.active .motorEncoder = true ∧ t.pos.abs = false ∧ t.node.state = .unreferenced ∧ t.node.reason = .fault := by decide

/-- A capture at residual 0 homes the node: P moved by whole turns, ABS yes, basis HOMED. -/
theorem test_completeCapture_homes :
    let t := completeCapture 0 false { homingNode .capture .home with
      cal := ⟨{ calOk with h := 16484 }, true, false⟩, pos := { (live .referenced).pos with p := 100, thetaLast := 100 } }
    t.pos.p = 16484 ∧ t.pos.abs = true ∧ t.node.state = .referenced ∧ t.node.basis = .homed ∧ t.homing.outcome = .success := by decide

/-- RETAIN entry from a node that follows its count forms a VALID record of its turn and quadrant. -/
theorem test_retainEntry_forms :
    let s : State := { live .referenced with ret := { State.reset.ret with mirror := ⟨-7, 2, true, 5, true, .forward, false⟩ } }
    let t := after (.retainEntry .powerLoss false) s
    t.node.state = .retain ∧ t.ret.record.validity = .valid ∧ t.ret.record.tRet = -7 ∧ t.ret.record.qRet = 2 ∧ t.ret.record.s = 5 := by
  decide

/-- The tracker counts a turn back across the quadrant boundary from 0 to 3. -/
theorem test_trackerReadGood_turns :
    (after (.trackerReadGood ⟨16383, false, true, true⟩) retained).ret.record.tRet = -1 ∧
    (after (.trackerReadGood ⟨16383, false, true, true⟩) retained).ret.record.qRet = 3 ∧
    after (.trackerReadGood ⟨16383, false, false, true⟩) retained = retained := by
  decide

/-- A grant in REFERENCED with RDY HIGH enables the drive; the settle expiry then releases the brake. -/
theorem test_releaseGrant_enables :
    let s : State := { asking .referenced [0x11, 0] with gate := { MotionGate.start with rdyLevel := .high } }
    let t := after .releaseGrant s
    t.gate.state = .enabling ∧ t.den = true ∧ t.brk = false ∧ (after .settleExpiry t).brk = true := by decide

/-- A reply begins, loses its arbitration and goes back to the head of its queue. -/
theorem test_arbitrationLost_keepsReply :
    let t := after .frameTxStart (after .identify (asking .referenced [1]))
    t.link.tx.isSome = true ∧ (after .arbitrationLost t).link.tx = none ∧ (after .arbitrationLost t).link.replies.length = 1 := by decide

/-- A lost arbitration leaves the dominant bit that beat it; a dominant bit sent cannot lose. -/
theorem test_arbitrationLost_run :
    let t := after .frameTxStart (after .identify (asking .referenced [1]))
    (after .arbitrationLost t).link.dominantRun = 2 ∧ (after .arbitrationLost t).link.recessiveRun = 0 ∧
    after (.arbitrationLost 2) t = t := by decide

/-- A frame that passes a DETACHED node ends the recessive run, so that the next idle begins it again. -/
theorem test_frameReceived_passesDetached :
    let s : State := { live .referenced with link := { (live .referenced).link with health := 224 } }
    let t := after (.frameReceived requestTo1.wire) s
    t.link.recessiveRun < 11 ∧ t.link.requests = [] ∧ (after .lineIdle t).link.recessiveRun = 11 ∧
    (after .lineIdle s).link.recessiveRun = 22 := by decide

/-- A request for the node joins its queue; for another station it does not. -/
theorem test_frameReceived_queues :
    (after (.frameReceived requestTo1.wire) (live .referenced)).link.requests = [ask [1]] ∧
    (after (.frameReceived ({ requestTo1 with dest := 2 } : Frame).wire) (live .referenced)).link.requests = [] := by decide

/-- Eight equal bits cost the receiver 1. -/
theorem test_frameDiscard_counts :
    (after (.frameDiscard (false :: List.replicate 8 false)) (live .referenced)).link.health = 1 := by decide

/-- After a discard the receiver is deaf until the line has been idle. -/
theorem test_frameDiscard_deafens :
    let t := after (.frameDiscard (false :: List.replicate 8 false)) (live .referenced)
    (after (.frameReceived requestTo1.wire) t).link.requests = [] ∧
    (after (.frameReceived requestTo1.wire) (after .lineIdle t)).link.requests = [ask [1]] := by decide

/-- A position frame of a member aligns an ALIGNING node to its tag. -/
theorem test_frameReceived_aligns :
    let s := coupledNode .startup
    let t := after (.frameReceived positionOf2.wire) { s with epoch := { s.epoch with alignment := .aligning, count := 9 } }
    t.epoch.alignment = .aligned ∧ t.epoch.count = 0 ∧ (t.peers.entry? 2).map PeerEntry.age = some 0 := by decide

/-- The end of a sweep writes the bins that have the least count. -/
theorem test_sweepEnd_writes :
    let s : State := { asking .calibrating [0x19] with sweep := { SweepRecord.start with
      outcome := .running, counts := (Vector.replicate 32 0).set 3 8, sums := (Vector.replicate 32 0).set 3 (-20) } }
    let t := after .sweepEnd s
    t.cal.data.corr.toList.getD 3 0 = -3 ∧ t.cal.data.corr.toList.getD 4 0 = 0 ∧ t.cal.dirty = true ∧ t.node.state = .referenced := by decide

/-- The reply to an accepted RESTART, once sent, stops the main domain with cause RESTART. -/
theorem test_restart_restarts :
    let t := after .frameTxComplete (after .frameTxStart (after .restart (asking .referenced [0x1E])))
    t.node.state = .retain ∧ t.ret.record.cause = .restart ∧ t.ret.dwellMet = false := by decide

end Sys2Proof.Tests
end

section
/-! SUPPORT. The class of a stored frame's tag, the alignment by a member's frame and by the edges, and the
alignment state through every command (R32, R33). -/

namespace Sys2Proof.Machine

/-! ### The tag of a stored frame (R32, R124) -/

/-- LATE read forwards: one more than the tag, modulo 256, is the count. -/
theorem classOf_eq (tag count : Tag) :
    classOf tag count = if tag = count then .current else if tag + 1#8 = count then .late else .misaligned := by
  simp only [classOf, eq_sub_iff_add_eq]

theorem classOf_self (tag : Tag) : classOf tag tag = .current := if_pos rfl

/-- A stored frame changes its member's entry only, and the class is taken after the alignment. -/
theorem takePosition_peers (a : Address) (p : PositionFields) (s : State) :
    (takePosition a p s).peers = s.peers.modify a (storePosition p (classOf p.tag (alignOn p s).epoch.count)) := by
  simp [takePosition]

theorem takePosition_tagClass (a : Address) (p : PositionFields) {s : State} {e : PeerEntry}
    (he : s.peers.entry? a = some e) :
    ((takePosition a p s).peers.entry? a).map PeerEntry.tagClass =
      some (some (classOf p.tag (alignOn p s).epoch.count)) := by
  rw [takePosition_peers, entry_modify _ _ (storePosition _ _) fun _ => rfl, he]
  rfl

/-! ### Alignment (R33) -/

/-- A frame has no alignment to do in an ALIGNED node, and none to offer without synced. -/
theorem alignOn_of_aligned_or_unsynced {p : PositionFields} {s : State}
    (h : s.epoch.alignment = .aligned ∨ p.synced = false) : alignOn p s = s := by
  rcases h with h | h <;> simp [alignOn, h]

theorem alignOn_epoch_of_aligning {p : PositionFields} {s : State} (ha : s.epoch.alignment = .aligning)
    (hj : s.link.joined = true) (hp : p.synced = true) :
    (alignOn p s).epoch = { s.epoch with count := p.tag, alignment := .aligned } := by
  simp [alignOn, ha, hj, hp]

theorem summarise_of_unsynced {p : PositionFields} (cls : TagClass) (s : State) (h : p.synced = false) :
    summarise p cls s = s := by
  simp [summarise, h]

theorem alignmentEdge_of_aligned_or_unjoined {s : State} (h : s.epoch.alignment = .aligned ∨ s.link.joined = false) :
    alignmentEdge s = s := by
  rcases h with h | h <;> simp [alignmentEdge, h]

/-- An edge that is not the 64th is counted and nothing more. -/
theorem alignmentEdge_of_lt {s : State} (ha : s.epoch.alignment = .aligning) (hj : s.link.joined = true)
    (h : satSucc 64 s.epoch.alignEdges < 64) :
    alignmentEdge s = { s with epoch := { s.epoch with alignEdges := satSucc 64 s.epoch.alignEdges } } := by
  simp [alignmentEdge, alignmentTimeout, ha, hj, h.ne, State.setEpoch]

/-- The 64th edge ends the alignment with the own count. -/
theorem alignmentEdge_of_eq {s : State} (ha : s.epoch.alignment = .aligning) (hj : s.link.joined = true)
    (h : satSucc 64 s.epoch.alignEdges = 64) :
    (alignmentEdge s).epoch = { s.epoch with alignEdges := 64, alignment := .aligned } := by
  simp [alignmentEdge, alignmentTimeout, ha, hj, h]

/-! ### The Epoch Unit carried on -/

/-- `v` carries the Epoch Unit on from `u`: where it runs, it ran in `u`, and ALIGNED has stayed (R33). A unit
stopped at its start values carries any unit on. -/
def EpochUnit.Continues (u v : EpochUnit) : Prop :=
  v.running = true → u.running = true ∧ (u.alignment = .aligned → v.alignment = .aligned)

namespace EpochUnit.Continues

theorem of_eq {u v : EpochUnit} (h : v = u) : u.Continues v := fun hr => ⟨h ▸ hr, fun ha => h ▸ ha⟩

/-- The two fields that the relation reads are all that it asks of a record update. -/
theorem of_fields {u v : EpochUnit} (hr : v.running = u.running) (ha : v.alignment = u.alignment) : u.Continues v :=
  fun h => ⟨hr ▸ h, fun h => ha.trans h⟩

theorem trans {u v w : EpochUnit} (h : u.Continues v) (h' : v.Continues w) : u.Continues w := by
  intro hw
  obtain ⟨hv, stays'⟩ := h' hw
  obtain ⟨hu, stays⟩ := h hv
  exact ⟨hu, fun ha => stays' (stays ha)⟩

theorem start (u : EpochUnit) : u.Continues EpochUnit.start := fun hr => Bool.noConfusion hr

/-- A guarded effect carries the unit on when the effect does. -/
theorem guarded {c : Prop} [Decidable c] {s a : State} (h : c → s.epoch.Continues a.epoch) :
    s.epoch.Continues (if c then a else s).epoch := by
  split
  · next hc => exact h hc
  · exact of_eq rfl

end EpochUnit.Continues

open EpochUnit (Continues)

/-! ### The Epoch Unit's own operations -/

theorem realignNow_continues (u : EpochUnit) : u.Continues (realignNow u) := by
  unfold realignNow
  split <;> exact .of_fields rfl rfl

theorem judgeRealign_continues (u : EpochUnit) : u.Continues (judgeRealign u) := by
  unfold judgeRealign
  repeat' split
  all_goals exact .of_fields rfl rfl

theorem realignStep_continues (synced : Bool) (u : EpochUnit) : u.Continues (realignStep synced u) := by
  unfold realignStep
  repeat' split
  · exact judgeRealign_continues u
  all_goals exact .of_fields rfl rfl

theorem stepEpoch_continues (synced : Bool) (u : EpochUnit) : u.Continues (stepEpoch synced u) :=
  (realignStep_continues synced u).trans ((Continues.of_fields rfl rfl).trans (realignNow_continues _))

theorem fallingEdge_continues (u : EpochUnit) : u.Continues (fallingEdge u) := by
  unfold fallingEdge
  dsimp only
  split <;> exact .of_fields rfl rfl

theorem becomeAligned_continues (s : State) : s.epoch.Continues (becomeAligned s).epoch := by
  simp [Continues]

theorem alignmentTimeout_continues (s : State) : s.epoch.Continues (alignmentTimeout s).epoch :=
  .guarded fun _ => becomeAligned_continues s

theorem alignmentEdge_continues (s : State) : s.epoch.Continues (alignmentEdge s).epoch :=
  .guarded fun _ => (Continues.of_fields rfl rfl).trans (alignmentTimeout_continues (s.setEpoch _))

theorem alignOn_continues (p : PositionFields) (s : State) : s.epoch.Continues (alignOn p s).epoch :=
  .guarded fun _ => (Continues.of_fields rfl rfl).trans (becomeAligned_continues (s.setEpoch _))

theorem summarise_continues (p : PositionFields) (cls : TagClass) (s : State) :
    s.epoch.Continues (summarise p cls s).epoch :=
  .guarded fun _ => .of_fields rfl rfl

/-- At a sample instant the record steps on and an alignment edge is counted; the rest of the instant leaves the
Epoch Unit. -/
theorem sampleInstant_continues (synced : Bool) (i : SampleInputs) (s : State) :
    s.epoch.Continues (sampleInstant synced i s).epoch := by
  have edge := alignmentEdge_continues
    (syncedRun16 ((closeEpoch i s).setEpoch (stepEpoch synced (closeEpoch i s).epoch)))
  simp only [syncedRun16_frame, State.setEpoch_epoch, closeEpoch_frame] at edge
  simpa [sampleInstant] using (stepEpoch_continues synced s.epoch).trans edge

theorem risingEdge_continues (i : SampleInputs) (s : State) : s.epoch.Continues (risingEdge i s).epoch := by
  unfold risingEdge
  split
  · exact sampleInstant_continues true i s
  · split
    · refine .trans ?_ (sampleInstant_continues true i _)
      exact .of_fields rfl rfl
    · exact .of_fields rfl rfl

/-! ### Frames received and sent -/

theorem takePosition_continues (a : Address) (p : PositionFields) (s : State) :
    s.epoch.Continues (takePosition a p s).epoch := by
  simp only [takePosition, peerNotice_frame, offerSource_frame]
  refine (alignOn_continues p s).trans (.trans ?_ (summarise_continues p _ _))
  exact .of_eq (by simp)

/-- Of a peer's frames only a member's POSITION frame reaches the Epoch Unit (R123 to R125, R128). -/
theorem deliverPeer_continues (f : Frame) (s : State) : s.epoch.Continues (deliverPeer f s).epoch := by
  unfold deliverPeer
  split
  · exact .of_eq (by simp)
  · refine .guarded fun _ => ?_
    split
    · exact takePosition_continues _ _ s
    · exact .of_eq (by simp)

theorem deliver_continues (f : Frame) (s : State) : s.epoch.Continues (deliver f s).epoch := by
  unfold deliver
  split
  · exact deliverPeer_continues f s
  · exact .of_eq (by simp [apply_ite State.epoch])

theorem receiveIntact_continues (f : Frame) (bits : List Bool) (s : State) :
    s.epoch.Continues (receiveIntact f bits s).epoch :=
  .trans (.of_eq (by simp)) (deliver_continues f _)

theorem detach_continues (vbakLow : Bool) (s : State) : s.epoch.Continues (detach vbakLow s).epoch := by
  unfold detach
  dsimp only
  split
  · exact .start _
  · exact .of_eq (by simp)

theorem worsenHealth_continues (n : Nat) (vbakLow : Bool) (s : State) :
    s.epoch.Continues (worsenHealth n vbakLow s).epoch := by
  unfold worsenHealth
  dsimp only
  repeat' split
  · exact .of_eq rfl
  · exact detach_continues vbakLow (s.setLink _)
  · exact .of_eq rfl

theorem restartAfter_continues (x : Transmission) (l : LinkController) (vbakLow : Bool) (s : State) :
    s.epoch.Continues (restartAfter x l vbakLow s).epoch :=
  .guarded fun _ => .start _

theorem abortTx_continues (x : Transmission) (sent : Nat) (vbakLow : Bool) (s : State) :
    s.epoch.Continues (abortTx x sent vbakLow s).epoch := by
  refine .trans ?_ (restartAfter_continues x s.link vbakLow _)
  exact worsenHealth_continues 4 vbakLow (s.setLink _)

theorem completeTx_continues (x : Transmission) (vbakLow : Bool) (s : State) :
    s.epoch.Continues (completeTx x vbakLow s).epoch :=
  .trans (.of_eq (by simp)) (restartAfter_continues x s.link vbakLow _)

theorem discardFrame_continues (bits : List Bool) (vbakLow : Bool) (s : State) :
    s.epoch.Continues (discardFrame bits vbakLow s).epoch :=
  worsenHealth_continues 1 vbakLow (s.setLink _)

/-! ### Entries and returns -/

/-- A return from OFF leaves the Epoch Unit stopped at its start values (R55). -/
theorem returnFromOff_epoch (how : OffReturn) (s : State) : (returnFromOff how s).epoch = EpochUnit.start := by
  cases how <;> rfl

/-! ### Requests -/

/-- A handler that leaves the Epoch Unit, whatever it answers. -/
def LeavesEpoch (h : Handler) : Prop := ∀ r s, (h r s).1.epoch = s.epoch

/-- A refusal among a handler's tests leaves the Epoch Unit when what follows it does (R188). -/
theorem refuse_or_epoch {c : Prop} [Decidable c] (why : RefusalReason) {s : State} {x : State × Verdict}
    (h : x.1.epoch = s.epoch) : (if c then refuse why s else x).1.epoch = s.epoch := by
  split
  · rfl
  · exact h

theorem or_refuse_epoch {c : Prop} [Decidable c] (why : RefusalReason) {s : State} {x : State × Verdict}
    (h : x.1.epoch = s.epoch) : (if c then x else refuse why s).1.epoch = s.epoch := by
  split
  · exact h
  · rfl

theorem judge_leavesEpoch {h : Handler} (hh : LeavesEpoch h) : LeavesEpoch (judge h) := fun r s =>
  refuse_or_epoch _ <| refuse_or_epoch _ <| hh r s

theorem serve_epoch (code : Nat) {h : Handler} (hh : LeavesEpoch h) (s : State) : (serve code h s).epoch = s.epoch := by
  unfold serve
  repeat' split
  · next r _ _ => exact judge_leavesEpoch hh r (popRequest s)
  all_goals rfl

theorem serveUnknown_epoch (s : State) : (serveUnknown s).epoch = s.epoch := by
  unfold serveUnknown
  repeat' split
  all_goals rfl

theorem LeavesEpoch.sized (n : Nat) {h : Handler} (hh : LeavesEpoch h) : LeavesEpoch (sized n h) := fun r s =>
  or_refuse_epoch _ <| hh r s

theorem LeavesEpoch.reads (data : Request → State → List Byte) : LeavesEpoch (reads data) := fun _ _ => rfl

theorem LeavesEpoch.readsPart (last : Nat) (data : Request → State → List Byte) : LeavesEpoch (readsPart last data) :=
  .sized 1 fun _ _ => or_refuse_epoch _ rfl

theorem readPeer_leavesEpoch : LeavesEpoch readPeer := .sized 2 fun _ _ => or_refuse_epoch _ rfl

theorem calRead_leavesEpoch : LeavesEpoch calRead := .sized 2 fun _ _ => by split <;> rfl

theorem setupRead_leavesEpoch : LeavesEpoch setupRead :=
  .sized 3 fun _ _ => refuse_or_epoch _ <| by split <;> rfl

theorem clearFaultsHandler_leavesEpoch : LeavesEpoch clearFaultsHandler := .sized 0 fun _ _ => by simp

theorem answerGate_epoch (s0 s : State) : (answerGate s0 s).1.epoch = s.epoch := by simp [answerGate]

theorem releaseGrant_leavesEpoch : LeavesEpoch releaseGrant := fun _ s =>
  refuse_or_epoch _ <| refuse_or_epoch _ <| answerGate_epoch s (s.setGate _)

theorem releaseWithdraw_leavesEpoch : LeavesEpoch releaseWithdraw := fun _ s =>
  refuse_or_epoch _ <| refuse_or_epoch _ <| answerGate_epoch s (s.setGate _)

theorem enterHoming_epoch (mode : HomingMode) (s : State) : (enterHoming mode s).epoch = s.epoch := by
  simp [enterHoming]

theorem homeArm_leavesEpoch : LeavesEpoch homeArm := fun _ s =>
  refuse_or_epoch _ <| refuse_or_epoch _ <| refuse_or_epoch _ <| refuse_or_epoch _ <| refuse_or_epoch _ <|
    enterHoming_epoch .home s

theorem homeLearn_leavesEpoch : LeavesEpoch homeLearn := fun _ s =>
  refuse_or_epoch _ <| refuse_or_epoch _ <| refuse_or_epoch _ <| enterHoming_epoch .learn s

theorem homeAbort_leavesEpoch : LeavesEpoch homeAbort := fun _ _ =>
  refuse_or_epoch _ <| refuse_or_epoch _ <| by simp

theorem zeroEffect_epoch (s : State) : (zeroEffect s).epoch = s.epoch := by simp [zeroEffect]

theorem zeroHere_leavesEpoch : LeavesEpoch zeroHere := fun _ s =>
  refuse_or_epoch _ <| refuse_or_epoch _ <| refuse_or_epoch _ <| refuse_or_epoch _ <| refuse_or_epoch _ <|
    zeroEffect_epoch s

theorem acceptEffect_epoch (p : Int) (s : State) : (acceptEffect p s).epoch = s.epoch := by simp [acceptEffect]

theorem acceptRestore_leavesEpoch : LeavesEpoch acceptRestore := fun _ s =>
  refuse_or_epoch _ <| by
    split
    · rfl
    · exact refuse_or_epoch _ <| refuse_or_epoch _ <| acceptEffect_epoch _ s

theorem sweepStart_leavesEpoch : LeavesEpoch sweepStart := fun _ _ =>
  refuse_or_epoch _ <| refuse_or_epoch _ <| refuse_or_epoch _ <| by simp [beginSweep]

theorem endSweep_epoch (s : State) : (endSweep s).epoch = s.epoch := by
  simp [endSweep, apply_ite State.epoch]

theorem sweepEnd_leavesEpoch : LeavesEpoch sweepEnd := fun _ s =>
  refuse_or_epoch _ <| refuse_or_epoch _ <| endSweep_epoch s

theorem sweepAbort_leavesEpoch : LeavesEpoch sweepAbort := fun _ _ =>
  refuse_or_epoch _ <| refuse_or_epoch _ <| by simp

theorem storeCalField_epoch (id : Nat) (c : CalRecord) (s : State) : (storeCalField id c s).epoch = s.epoch := by
  simp [storeCalField, playAfterWrite, apply_ite State.epoch]

theorem calWrite_leavesEpoch : LeavesEpoch calWrite := fun _ s =>
  refuse_or_epoch _ <| refuse_or_epoch _ <| refuse_or_epoch _ <| by
    split
    · rfl
    · exact storeCalField_epoch _ _ s

theorem storeSetupField_epoch (image : Setup) (s : State) : (storeSetupField image s).epoch = s.epoch := by
  simp [storeSetupField, apply_ite State.epoch]

theorem setupWrite_leavesEpoch : LeavesEpoch setupWrite := fun _ s =>
  refuse_or_epoch _ <| refuse_or_epoch _ <| by
    split
    · rfl
    · exact storeSetupField_epoch _ s

theorem beginStore_epoch (t : StoreTarget) (s : State) : (beginStore t s).epoch = s.epoch := by
  cases t <;> rfl

theorem storeHandler_leavesEpoch : LeavesEpoch storeHandler := fun _ s =>
  refuse_or_epoch _ <| by
    split
    · rfl
    · exact refuse_or_epoch _ <| refuse_or_epoch _ <| beginStore_epoch _ s

theorem restartHandler_leavesEpoch : LeavesEpoch restartHandler := fun _ _ =>
  refuse_or_epoch _ <| refuse_or_epoch _ rfl

/-! ### Every command -/

/-- A command whose effects carry the Epoch Unit on does so to its end. -/
theorem continues_of_next {s u t : State}
    (ht : Host.Outcome.next (conclude s u) = (.next t : Host.Outcome State Fault Refusal))
    (hu : s.epoch.Continues u.epoch) : s.epoch.Continues t.epoch := by
  cases ht
  exact hu.trans (.of_eq (by simp))

/-- A command that serves a request leaves the Epoch Unit. -/
theorem continues_of_serve {s t : State} {code : Nat} {h : Handler}
    (ht : Host.Outcome.next (conclude s (serve code h s)) = (.next t : Host.Outcome State Fault Refusal))
    (hh : LeavesEpoch h) : s.epoch.Continues t.epoch :=
  continues_of_next ht (.of_eq (serve_epoch code hh s))

/-- Every command of a node whose Epoch Unit runs carries it on: the one command that begins the unit anew,
STORE_LOAD_COMPLETE, finds it stopped (R59). -/
theorem exec_continues {c : Instr} {s t : State} (ht : exec c s = .next t) (hr : s.epoch.running = true) :
    s.epoch.Continues t.epoch := by
  cases c with
  | smpRisingEdge i =>
    refine continues_of_next ht ?_
    rw [if_pos hr]
    exact risingEdge_continues i (s.setPins { s.pins with smpHigh := true })
  | smpFallingEdge =>
    refine continues_of_next ht ?_
    rw [if_pos hr]
    exact fallingEdge_continues s.epoch
  | periodTimerExpiry | holdExpiry | rejoinArmed =>
    exact continues_of_next ht (.guarded fun _ => .of_fields rfl rfl)
  | sampleLineStuck i =>
    refine continues_of_next ht (.guarded fun _ => .trans ?_ (sampleInstant_continues false i _))
    exact .of_fields (by simp [goFree]) (by simp [goFree])
  | freePeriodExpiry i => exact continues_of_next ht (.guarded fun _ => sampleInstant_continues false i s)
  | alignmentTimeout => exact continues_of_next ht (alignmentTimeout_continues s)
  | realignment => exact continues_of_next ht (realignNow_continues s.epoch)
  | frameReceived bits =>
    refine continues_of_next ht ?_
    split
    · split
      · exact receiveIntact_continues _ bits s
      · exact .of_eq (by simp)
    · exact .of_eq rfl
  | frameDiscard bits low =>
    refine continues_of_next ht ?_
    split
    · split
      · exact discardFrame_continues bits low s
      · exact .of_eq (by simp)
    · exact .of_eq rfl
  | bitError low sent =>
    refine continues_of_next ht ?_
    split
    · exact .guarded fun _ => abortTx_continues _ sent low s
    · exact .of_eq rfl
  | frameTxComplete low =>
    refine continues_of_next ht ?_
    split
    · exact completeTx_continues _ low s
    · exact .of_eq rfl
  | frameTxStart | arbitrationLost | storeCrcWritten =>
    refine continues_of_next ht (.of_eq ?_)
    repeat' split
    all_goals rfl
  | storeVerify found =>
    refine continues_of_next ht (.of_eq ?_)
    repeat' split
    all_goals simp
  | retainEntry | retainExit => exact continues_of_next ht (.guarded fun _ => .start _)
  | offReturn how =>
    refine continues_of_next ht (.guarded fun _ => ?_)
    rw [returnFromOff_epoch]
    exact .start _
  | storeLoadComplete =>
    refine continues_of_next ht (.guarded fun ⟨_, _, stopped⟩ => ?_)
    exact absurd (hr.symm.trans stopped) (by decide)
  -- What is left of the commands that serve no request leaves the Epoch Unit, by the frames of their operations.
  | syncedRun16 | encoderReadComplete | encoderReadTimeout | motorFailureRun3 | motorGoodRun8 | coarseFailureRun3
  | coarseGoodRun8 | portPresenceTimeout | driftRun3 | couplingLost | peerAbsent | quietRun64 | trackerReadStart
  | trackerReadGood | trackerReadFailed | trackerUnchanged64 | trackerFailedRun3 | backupCollapse | restartDwellExpiry
  | lossOfVmainInRetain | retentionStateLoss | backupLowRaise | backupLowClear | selfCheckReadback | linkJoin
  | intactCount32 | linkRejoin | lineStuck | lineIdle | beacon | retryTimerExpiry | rdyLevelLow | rdyLevelHigh
  | settleExpiry | biteExpiry =>
    exact continues_of_next ht (.of_eq (by simp [judgeDown, apply_ite State.epoch]))
  | identify | readFaults => exact continues_of_serve ht (.sized 0 (.reads _))
  | readStatus | readRestore | readHoming | readSweep => exact continues_of_serve ht (.readsPart _ _)
  | readPeer => exact continues_of_serve ht readPeer_leavesEpoch
  | calRead => exact continues_of_serve ht calRead_leavesEpoch
  | setupRead => exact continues_of_serve ht setupRead_leavesEpoch
  | clearFaults => exact continues_of_serve ht clearFaultsHandler_leavesEpoch
  | releaseGrant => exact continues_of_serve ht releaseGrant_leavesEpoch
  | releaseWithdraw => exact continues_of_serve ht releaseWithdraw_leavesEpoch
  | homeArm => exact continues_of_serve ht homeArm_leavesEpoch
  | homeLearn => exact continues_of_serve ht homeLearn_leavesEpoch
  | homeAbort => exact continues_of_serve ht homeAbort_leavesEpoch
  | zeroHere => exact continues_of_serve ht zeroHere_leavesEpoch
  | acceptRestore => exact continues_of_serve ht acceptRestore_leavesEpoch
  | sweepStart => exact continues_of_serve ht sweepStart_leavesEpoch
  | sweepEnd => exact continues_of_serve ht sweepEnd_leavesEpoch
  | sweepAbort => exact continues_of_serve ht sweepAbort_leavesEpoch
  | calWrite => exact continues_of_serve ht calWrite_leavesEpoch
  | setupWrite => exact continues_of_serve ht setupWrite_leavesEpoch
  | store => exact continues_of_serve ht storeHandler_leavesEpoch
  | restart => exact continues_of_serve ht restartHandler_leavesEpoch
  | unknownRequest => exact continues_of_next ht (.of_eq (serveUnknown_epoch s))

/-- Settles O26: the class by its definition read forwards, the frame's part and the edge's part by their
operations, and ALIGNED through every command by the Epoch Unit's continuation. -/
theorem tagClassesOfStoredFrames : Obligations.TagClassesOfStoredFrames := by
  refine ⟨classOf_eq, rfl, fun a p _ _ => takePosition_tagClass a p, fun _ _ => alignOn_of_aligned_or_unsynced, ?_,
    fun _ cls s => summarise_of_unsynced cls s,
    fun _ => ⟨alignmentEdge_of_aligned_or_unjoined, alignmentEdge_of_lt, alignmentEdge_of_eq⟩,
    fun _ _ _ ht hr hr' => (exec_continues ht hr hr').2⟩
  intro p s ha hj hp
  have h := alignOn_epoch_of_aligning ha hj hp
  exact ⟨h, by rw [h]; exact classOf_self p.tag⟩

end Sys2Proof.Machine
end

section
/-! SUPPORT. The return of a homing that ends without success, and the tests of a counted epoch of CAPTURE in
their order (R84 to R87, R94). -/

namespace Sys2Proof.Machine

/-! ### The return of a homing (R72, R94) -/

theorem inHoming_of_state {s : State} {sub : HomingSub} (h : s.node.state = .homing sub) : s.inHoming = true := by
  rw [State.inHoming, h]

theorem returnFromHoming_node (s : State) :
    (returnFromHoming s).node =
      { s.node with state := if s.homing.before = some .referenced then .referenced else .unreferenced } := by
  unfold returnFromHoming
  rcases s.homing.before with _ | (_ | _) <;> simp

theorem returnFromHoming_pos (s : State) :
    (returnFromHoming s).pos =
      { s.pos with driftRun := if s.homing.before = some .referenced then 0 else s.pos.driftRun } := by
  unfold returnFromHoming
  rcases s.homing.before with _ | (_ | _) <;> simp

section Ending

variable {s : State} (h : s.inHoming = true)
include h

/-- A homing that ends changes the node's state only. -/
theorem endHoming_node (o : HomingOutcome) (why : HomingReason) :
    (endHoming o why s).node =
      { s.node with state := if s.homing.before = some .referenced then .referenced else .unreferenced } := by
  rw [endHoming, if_pos h, returnFromHoming_node]
  rfl

/-- A homing that ends leaves the count, and starts the drift run anew where it returns to REFERENCED. -/
theorem endHoming_pos (o : HomingOutcome) (why : HomingReason) :
    (endHoming o why s).pos =
      { s.pos with driftRun := if s.homing.before = some .referenced then 0 else s.pos.driftRun } := by
  rw [endHoming, if_pos h, returnFromHoming_pos]
  rfl

/-- What a homing that ends shows: the record with its outcome and reason, the node back where it came from. -/
theorem ending_of_eq_endHoming {o : HomingOutcome} {why : HomingReason} {t : State} (ht : t = endHoming o why s) :
    t.homing = { s.homing with outcome := o, reason := why } ∧
      t.node.state = (if s.homing.before = some .referenced then .referenced else .unreferenced) :=
  ht ▸ ⟨endHoming_homing o why s h, endHoming_state o why s h⟩

theorem trustLoss_of_inHoming : trustLoss s = confirmIfReferenced (endHoming .failed .peerLost s) := by
  unfold State.inHoming at h
  unfold trustLoss
  split at h
  · next hs => rw [hs]
  · exact absurd h Bool.false_ne_true

end Ending

theorem confirmIfReferenced_node (s : State) :
    (confirmIfReferenced s).node =
      if s.node.state = .referenced then { s.node with state := .restoring .waitSource, phase := .confirmation }
      else s.node := by
  unfold confirmIfReferenced enterConfirmation
  split <;> simp

/-- The loss of the source in HOMING: a re-home goes on into CONFIRMATION, another homing returns as it ended. -/
theorem trustLoss_node_of_inHoming {s : State} (h : s.inHoming = true) :
    (trustLoss s).node = if s.homing.before = some .referenced then
      { s.node with state := .restoring .waitSource, phase := .confirmation }
      else (endHoming .failed .peerLost s).node := by
  rw [trustLoss_of_inHoming h, confirmIfReferenced_node, endHoming_node h]
  by_cases hb : s.homing.before = some .referenced <;> simp [hb]

/-! ### The arithmetic of a crossing (R84, R85) -/

theorem reversal_iff (a : Approach) (d : Int) : reversal a d = true ↔ if a = .pos then d < -8 else 8 < d := by
  cases a <;> simp [reversal]

theorem along_eq (a : Approach) (d : Int) : along a d = if a = .pos then d else -d := by
  cases a <;> rfl

theorem crossingCount_eq (a : Approach) (pPrev dist : Int) :
    crossingCount a pPrev dist = if a = .pos then pPrev + dist else pPrev - dist := by
  cases a <;> rfl

/-- A difference of two angles is their distance forwards around the motor turn. -/
theorem theta_sub_toNat (x y : Theta) : ((x - y).toNat : Int) = ((x.toNat : Int) - y.toNat) % 16384 := by
  rw [BitVec.toNat_sub]
  omega

theorem crossingDistance_eq (a : Approach) (θh θprev : Theta) :
    crossingDistance a θh θprev =
      if a = .pos then ((θh.toNat : Int) - θprev.toNat) % 16384 else ((θprev.toNat : Int) - θh.toNat) % 16384 := by
  cases a <;> simp only [crossingDistance, theta_sub_toNat, reduceCtorEq, if_true, if_false]

/-- The count at a crossing has θ_h as its low part where the base has θ_prev as its own. -/
theorem crossingCount_emod (a : Approach) (θh : Theta) {pPrev : Int} {θprev : Theta}
    (h : pPrev % 16384 = (θprev.toNat : Int)) :
    crossingCount a pPrev (crossingDistance a θh θprev) % 16384 = (θh.toNat : Int) := by
  have hlt := θh.isLt
  cases a <;> simp only [crossingCount, crossingDistance, theta_sub_toNat] <;> omega

/-! ### A crossing and its margin (R87) -/

section Margin

variable {s : State} {l : HomingLatch} {pFlag pCap : Int}
  (hl : s.homing.latch = some l) (hp : s.homing.pFlag = some pFlag)
include hl hp

theorem takeCrossing_of_margin_short (hm : |pCap - pFlag| < l.guardMin) :
    takeCrossing pCap s = endHoming .failed .margin
      (s.setHoming { s.homing with captureTag := some s.epoch.count, pCap := some pCap }) := by
  simp [takeCrossing, hl, hp, hm]

theorem takeCrossing_of_margin_kept (hm : l.guardMin ≤ |pCap - pFlag|) :
    takeCrossing pCap s = { s with
      homing := { s.homing with captureTag := some s.epoch.count, pCap := some pCap }
      homingOp := { s.homingOp with captured := true } } := by
  simp [takeCrossing, hl, hp, hm.not_gt, State.setHoming, State.setHomingOp]

end Margin

/-! ### The tests in their order (R84 to R86) -/

/-- The distance to θ_h that a latched homing measures from its base. -/
def HomingLatch.distance (l : HomingLatch) (op : HomingOp) : Int := crossingDistance l.approach l.thetaH op.thetaPrev

/-- A motion along the approach reaches θ_h, and does not start on it. -/
def HomingLatch.Crosses (l : HomingLatch) (op : HomingOp) (d : Int) : Prop :=
  0 < l.distance op ∧ l.distance op ≤ along l.approach d

/-- The count at which a latched homing finds its crossing. -/
def HomingLatch.crossing (l : HomingLatch) (op : HomingOp) : Int :=
  crossingCount l.approach op.pPrev (l.distance op)

theorem homeInactive_iff (s : State) : s.homeInactive = true ↔ s.enc.homeLevel = some false := by
  simp [State.homeInactive]

/-- After the capture epoch no epoch is tested. -/
theorem homingCounted_of_captured (d : Int) {s : State} (hs : s.node.state = .homing .capture)
    (hc : s.homingOp.captured = true) : homingCounted d s = s := by
  simp [homingCounted, hs, hc]

section Order

variable {d : Int} {s : State} {l : HomingLatch} (hs : s.node.state = .homing .capture)
  (hl : s.homing.latch = some l) (hc : s.homingOp.captured = false)
include hs hl hc

theorem homingCounted_of_reversal (hr : reversal l.approach d = true) :
    homingCounted d s = endHoming .failed .reversed s := by
  simp [homingCounted, examineCapture, HomingRecord.approachOf, hs, hl, hc, hr]

variable (hr : ¬reversal l.approach d = true)
include hr

theorem homingCounted_of_crosses (hx : l.Crosses s.homingOp d) :
    homingCounted d s = takeCrossing (l.crossing s.homingOp) s := by
  obtain ⟨hpos, hle⟩ := hx
  rw [HomingLatch.distance] at hpos hle
  simp [homingCounted, examineCapture, HomingRecord.approachOf, hs, hl, hc, hr, hpos, hle, HomingLatch.crossing,
    HomingLatch.distance]

variable (hx : ¬l.Crosses s.homingOp d)
include hx

/-- An epoch that neither reverses nor crosses is left to the flag and the base. -/
theorem homingCounted_of_not_crosses :
    homingCounted d s = if s.homeInactive then endHoming .failed .flagLost s else moveBase s := by
  rw [HomingLatch.Crosses, HomingLatch.distance] at hx
  simp [homingCounted, examineCapture, HomingRecord.approachOf, hs, hl, hc, hr, hx]

theorem homingCounted_of_flag_lost (hf : s.enc.homeLevel = some false) :
    homingCounted d s = endHoming .failed .flagLost s := by
  rw [homingCounted_of_not_crosses hs hl hc hr hx, if_pos ((homeInactive_iff s).2 hf)]

theorem homingCounted_of_flag_kept (hf : s.enc.homeLevel ≠ some false) : homingCounted d s = moveBase s := by
  rw [homingCounted_of_not_crosses hs hl hc hr hx, if_neg (mt (homeInactive_iff s).1 hf)]

end Order

/-- Settles O29: the tests by the equation of each case of a counted epoch, the endings by the return of a
homing. -/
theorem captureTests : Obligations.CaptureTests := by
  refine ⟨fun d pFlag l s hs hl hp => ?_, fun s hs => ?_⟩
  · intro t back dist crossed pCap captured returned
    have hin : s.inHoming = true := inHoming_of_state hs
    have hback : reversal l.approach d = true ↔ back := reversal_iff l.approach d
    have hdist : l.distance s.homingOp = dist := crossingDistance_eq l.approach l.thetaH s.homingOp.thetaPrev
    have hcrossed : l.Crosses s.homingOp d ↔ crossed := by
      rw [HomingLatch.Crosses, hdist, along_eq]
    have hcap : l.crossing s.homingOp = pCap := by
      rw [HomingLatch.crossing, hdist, crossingCount_eq]
    have hcrosses (hc : s.homingOp.captured = false) (hr : ¬back) (hx : crossed) : t = takeCrossing pCap s := by
      rw [← hcap]
      exact homingCounted_of_crosses hs hl hc (mt hback.1 hr) (hcrossed.2 hx)
    refine ⟨homingCounted_of_captured d hs, fun hc hr => ?reversed, fun hc hr hx hm => ?margin,
      fun hc hr hx hm => ?captured, fun hc hr hx hf => ?flagLost, fun hc hr hx hf => ?baseMoved,
      fun hbase => ?lowPart⟩
    case reversed => exact ending_of_eq_endHoming hin (homingCounted_of_reversal hs hl hc (hback.2 hr))
    case margin =>
      exact ending_of_eq_endHoming (s := s.setHoming captured) hin
        ((hcrosses hc hr hx).trans (takeCrossing_of_margin_short hl hp hm))
    case captured => exact (hcrosses hc hr hx).trans (takeCrossing_of_margin_kept hl hp hm)
    case flagLost =>
      exact ending_of_eq_endHoming hin
        (homingCounted_of_flag_lost hs hl hc (mt hback.1 hr) (mt hcrossed.1 hx) hf)
    case baseMoved => exact homingCounted_of_flag_kept hs hl hc (mt hback.1 hr) (mt hcrossed.1 hx) hf
    case lowPart =>
      rw [← hcap]
      exact crossingCount_emod l.approach l.thetaH hbase
  · intro back rest
    have hloss := trustLoss_of_inHoming hs
    refine ⟨fun o why => ⟨endHoming_node hs o why, endHoming_pos hs o why, endHoming_homing o why s hs⟩, ?_, ?_, ?_⟩
    · simpa [hloss] using endHoming_pos hs .failed .peerLost
    · simpa [hloss] using endHoming_homing .failed .peerLost s hs
    · rw [trustLoss_node_of_inHoming hs, endHoming_node hs]

end Sys2Proof.Machine
end

section
/-! SUPPORT. What the part of an event inside the main domain can do: one inductive predicate with a
constructor per record it changes, each with the ranges and rules it keeps. Every operation is shown once to be
such a part; the invariants of Safety.lean are then read off the constructors. -/

namespace Sys2Proof.Machine

/-! ### What an event finds -/

/-- A node state after STARTUP (R57). -/
def NodeState.later : NodeState → Bool
  | .off => false
  | .retain => false
  | .startup => false
  | _ => true

/-- Some work of the main domain runs: what `NothingBegun` excludes before the Epoch Unit has begun. -/
def State.Begun (s : State) : Prop :=
  s.epoch.running = true ∨ s.enc.motor.reading = true ∨ s.enc.coarse.reading = true ∨ s.store.writing ≠ none ∨
  s.node.state.later = true ∨ s.cal.valid = true

/-- The node state may change within the main domain. -/
def State.Active (s : State) : Prop := s.mainUp = true ∧ s.Begun

theorem State.mainUp_of_later {s : State} (h : s.node.state.later = true) : s.mainUp = true := by
  unfold State.mainUp
  cases hs : s.node.state <;> simp_all [NodeState.later]

theorem State.mainUp_iff (s : State) : s.mainUp = true ↔ s.node.state.later = true ∨ s.node.state = .startup := by
  unfold State.mainUp
  cases hs : s.node.state <;> simp [NodeState.later]

theorem State.active_of_later {s : State} (h : s.node.state.later = true) : s.Active :=
  ⟨s.mainUp_of_later h, .inr (.inr (.inr (.inr (.inl h))))⟩

theorem State.later_of_inHoming {s : State} (h : s.inHoming = true) : s.node.state.later = true := by
  unfold State.inHoming at h
  cases hs : s.node.state <;> simp_all [NodeState.later]

/-! ### What each record keeps -/

/-- The validity of the retained record falls: to DOUBTFUL from VALID, or to LOST (R52). -/
def Validity.Falls (v w : Validity) : Prop := w = v ∨ (v = .valid ∧ w = .doubtful) ∨ w = .lost

theorem Validity.Falls.refl (v : Validity) : v.Falls v := .inl rfl

theorem Validity.Falls.trans {u v w : Validity} (h : u.Falls v) (h' : v.Falls w) : u.Falls w := by
  rcases h with rfl | ⟨rfl, rfl⟩ | rfl
  · exact h'
  · rcases h' with rfl | ⟨h', -⟩ | rfl
    · exact .inr (.inl ⟨rfl, rfl⟩)
    · cases h'
    · exact .inr (.inr rfl)
  · rcases h' with rfl | ⟨h', -⟩ | rfl
    · exact .inr (.inr rfl)
    · cases h'
    · exact .inr (.inr rfl)

/-- The counters of the Epoch Unit within their ranges (R23). -/
def EpochUnit.Bounded (u : EpochUnit) : Prop :=
  u.syncedRun ≤ 16 ∧ u.alignEdges ≤ 64 ∧ u.realignRun ≤ 7 ∧ u.realignCount ≤ 255

structure EpochKept (u v : EpochUnit) : Prop where
  running : v.running = u.running
  bounded : u.Bounded → v.Bounded

/-- The runs of a port within their range (R36 to R38). -/
def PortRecord.Bounded (r : PortRecord) : Prop := r.failRun ≤ 255 ∧ r.goodRun ≤ 255

/-- A read begins only in an event that finds work begun. -/
structure EncKept (s0 : State) (e f : EncoderInterface) : Prop where
  motorRead : f.motor.reading = true → e.motor.reading = true ∨ s0.Begun
  coarseRead : f.coarse.reading = true → e.coarse.reading = true ∨ s0.Begun
  motorRuns : e.motor.Bounded → f.motor.Bounded
  coarseRuns : e.coarse.Bounded → f.coarse.Bounded

structure PosKept (s : State) (u : PositionUnit) : Prop where
  count : CountFormed s → CountFormed (s.setPos u)
  play : |s.pos.s| ≤ s.cal.h → |u.s| ≤ s.cal.h
  failedRun : s.pos.failedRun ≤ 255 → u.failedRun ≤ 255
  driftRun : s.pos.driftRun ≤ 2 → u.driftRun ≤ 2

structure PeersKept (t u : PeerTable) : Prop where
  addresses : u.entries.map PeerEntry.address = t.entries.map PeerEntry.address
  ages : (∀ e ∈ t.entries, e.age ≤ 255) → ∀ e ∈ u.entries, e.age ≤ 255
  quietRun : (∀ n, t.quietRun = some n → n ≤ 64) → ∀ n, u.quietRun = some n → n ≤ 64

/-- The runs of the tracker within their ranges (R48). -/
def Tracker.Bounded (t : Tracker) : Prop := t.unchangedRun ≤ 64 ∧ t.failedRun ≤ 3

/-- Inside an event the mirror's hold may end, and nothing else of the mirror changes (R43, R44). -/
structure RetKept (d e : RetentionDomain) : Prop where
  mirror : e.mirror = d.mirror ∨ e.mirror = { d.mirror with held := false }
  validity : d.record.validity.Falls e.record.validity
  reentries : d.record.reentries ≤ 255 → e.record.reentries ≤ 255
  tracker : d.tracker.Bounded → e.tracker.Bounded

/-- The counts of a sweep within their ranges (R116). -/
def SweepRecord.Bounded (w : SweepRecord) : Prop := (∀ n ∈ w.counts.toList, n ≤ 255) ∧ w.skipped ≤ 65535 ∧ w.overflow ≤ 65535

structure CalKept (s0 s : State) (c : WorkingCal) : Prop where
  play : |s.pos.s| ≤ s.cal.h → |s.pos.s| ≤ c.h
  ranges : calInRange s.cal.data → calInRange c.data
  ratio : s.cal.data.ratio.isSome = true → c.data.ratio.isSome = true
  window : s.cal.data.window.isSome = true → c.data.window.isSome = true
  valid : c.valid = true → s.cal.valid = true ∨ s0.store.writing = some .cal

structure SetupKept (s : State) (x : SetupCopies) : Prop where
  latched : x.latched = s.setup.latched
  image : setupRecordOk s.straps.address s.setup.image = true → setupRecordOk s.straps.address x.image = true

/-- A write begins only in an event that finds work begun, and one of CAL only with ratio and window set (R109). -/
def StoreKept (s0 s : State) (u : StoreUnit) : Prop :=
  u.writing = s.store.writing ∨ u.writing = none ∨
  s0.Begun ∧ (u.writing = some .cal → s.cal.data.ratio.isSome = true ∧ s.cal.data.window.isSome = true)

/-- The state a load leaves before the notices of bad records (R59). -/
def loaded (s : State) : State :=
  let setup := judgeSetup s.ownAddress s.store.setupArea
  let cal := judgeCal s.store.calArea
  let s1 := (s.setSetup (loadedSetup setup.2)).setCal (loadedCal cal.2)
  let s2 := s1.setSelfCheck { s1.selfCheck with setupRecord := setup.1, calRecord := cal.1 }
  let s3 := (s2.setPeers (PeerTable.start s2.setup.latched.members)).setEpoch (EpochUnit.begin s.pins.smpHigh)
  s3.setPos { s3.pos with playKnown := s3.cal.h == 0 }

/-! ### The parts of an event -/

/-- `s` is reached inside an event that began at s0, without leaving or entering the main domain. -/
inductive Within (s0 : State) : State → Prop
  | start : Within s0 s0
  | load (up : s0.node.state = .startup) (stopped : s0.epoch.running = false) : Within s0 (loaded s0)
  | pins {s : State} (h : Within s0 s) (p : Pins) : Within s0 (s.setPins p)
  | epoch {s : State} {u : EpochUnit} (h : Within s0 s) (k : EpochKept s.epoch u) : Within s0 (s.setEpoch u)
  | enc {s : State} {e : EncoderInterface} (h : Within s0 s) (k : EncKept s0 s.enc e) : Within s0 (s.setEnc e)
  | pos {s : State} {u : PositionUnit} (h : Within s0 s) (k : PosKept s u) : Within s0 (s.setPos u)
  | work {s : State} (h : Within s0 s) (w : EpochWork) : Within s0 (s.setWork w)
  | coupling {s : State} {c : CouplingRecord} (h : Within s0 s) 
      (k : s.coupling.missCount ≤ 255 → c.missCount ≤ 255) : Within s0 (s.setCoupling c)
  | peers {s : State} {t : PeerTable} (h : Within s0 s) (k : PeersKept s.peers t) : Within s0 (s.setPeers t)
  | ret {s : State} {d : RetentionDomain} (h : Within s0 s) (k : RetKept s.ret d) : Within s0 (s.setRet d)
  | node {s : State} {n : NodeRecord} (h : Within s0 s) (k : n.state = s.node.state) : Within s0 (s.setNode n)
  | move {s : State} {n : NodeRecord} (h : Within s0 s) (a : s0.Active) (k : n.state.later = true) :
      Within s0 (moveNode n s)
  | down {s : State} (h : Within s0 s) (k : s0.node.state = .retain) : Within s0 (judgeDown s)
  | homing {s : State} {x : HomingRecord} (h : Within s0 s) 
      (k : s.inHoming = false ∨ x.mode = s.homing.mode) :
      Within s0 (s.setHoming x)
  | homingOp {s : State} (h : Within s0 s) (x : HomingOp) : Within s0 (s.setHomingOp x)
  | sweep {s : State} {w : SweepRecord} (h : Within s0 s) (k : s.sweep.Bounded → w.Bounded) : Within s0 (s.setSweep w)
  | cal {s : State} {c : WorkingCal} (h : Within s0 s) (k : CalKept s0 s c) : Within s0 (s.setCal c)
  | setup {s : State} {x : SetupCopies} (h : Within s0 s) (k : SetupKept s x) : Within s0 (s.setSetup x)
  | store {s : State} {u : StoreUnit} (h : Within s0 s) (k : StoreKept s0 s u) : Within s0 (s.setStore u)
  | selfCheck {s : State} (h : Within s0 s) (c : SelfCheck) : Within s0 (s.setSelfCheck c)
  | link {s : State} {l : LinkController} (h : Within s0 s) 
      (k : LinkBounded s0 → LinkBounded s → LinkBounded (s.setLink l)) : Within s0 (s.setLink l)
  | faults {s : State} {f : FaultSupervisor} (h : Within s0 s) (k : f.active = s.faults.active)
      (n : s.faults.haltCount ≤ 255 → f.haltCount ≤ 255) : Within s0 (s.setFaults f)
  | moveFaults {s : State} {f : FaultSupervisor} (h : Within s0 s) (n : f.haltCount = s.faults.haltCount) :
      Within s0 (moveFaults f s)
  | gate {s : State} {g : MotionGate} (h : Within s0 s) 
      (k : GateFollowsPermission s → GateFollowsPermission (s.setGate g)) :
      Within s0 (s.setGate g)
  | judge {s : State} {g : MotionGate} {f : FaultSupervisor} (h : Within s0 s) (k : g.state = s.gate.state)
      (n : s.faults.haltCount ≤ 255 → f.haltCount ≤ 255) : Within s0 (judgeGate s ((s.setGate g).setFaults f))
  | restart {s : State} (h : Within s0 s) (b : Bool) : Within s0 (s.setRestartPending b)
  | free {s : State} (h : Within s0 s) (n : Nat) : Within s0 (s.setFree n)

theorem judgeGate_node (s0 s : State) : (judgeGate s0 s).node = s.node := by simp

/-- Where the node state stands inside an event: as the event found it, in a later state of an active node, or
judged again while the main domain is down. -/
theorem Within.state {s0 s : State} (h : Within s0 s) :
    s.node.state = s0.node.state ∨ (s0.Active ∧ s.node.state.later = true) ∨
    (s0.node.state = .retain ∧ (s.node.state = .retain ∨ s.node.state = .off)) := by
  induction h with
  | start => exact .inl rfl
  | load => exact .inl rfl
  | node _ k ih => simpa [k] using ih
  | move _ a k ih => exact .inr (.inl ⟨a, by simpa using k⟩)
  | down _ k ih =>
    refine .inr (.inr ⟨k, ?_⟩)
    simp only [judgeDown, State.setNode_node, downState]
    split <;> simp
  | moveFaults _ _ ih => simpa using ih
  | judge _ _ _ ih => simpa using ih
  | _ => assumption

/-- A later state inside an event is that of an active node. -/
theorem Within.active {s0 s : State} (h : Within s0 s) (hl : s.node.state.later = true) : s0.Active := by
  rcases h.state with e | ⟨a, -⟩ | ⟨-, e | e⟩
  · exact State.active_of_later (e ▸ hl)
  · exact a
  · rw [e] at hl
    cases hl
  · rw [e] at hl
    cases hl

/-- STARTUP inside an event that found work begun is that of an active node. -/
theorem Within.active_of_startup {s0 s : State} (h : Within s0 s) (hs : s.node.state = .startup) (hb : s0.Begun) :
    s0.Active := by
  rcases h.state with e | ⟨a, -⟩ | ⟨-, e | e⟩
  · exact ⟨s0.mainUp_iff.2 (.inr (e ▸ hs)), hb⟩
  · exact a
  · rw [hs] at e
    cases e
  · rw [hs] at e
    cases e

/-- The Epoch Unit runs on inside an event. -/
theorem Within.running {s0 s : State} (h : Within s0 s) (hr : s0.epoch.running = true) : s.epoch.running = true := by
  induction h with
  | start => exact hr
  | load => rfl
  | epoch _ k ih => exact k.running.trans ih
  | move | moveFaults | judge => simpa
  | _ => assumption

/-- What the count, the play and the runs of the Position Unit are. -/
def PositionUnit.core (u : PositionUnit) : Int × Theta × Int × Nat := (u.p, u.thetaLast, u.s, u.failedRun)

/-- The count, the play and the runs left as they are. -/
theorem PosKept.same {s : State} {u : PositionUnit} (h : (u.core, u.driftRun) = (s.pos.core, s.pos.driftRun)) : PosKept s u := by
  simp only [PositionUnit.core, Prod.mk.injEq] at h
  obtain ⟨⟨hp, ht, hs, hf⟩, hd⟩ := h
  exact ⟨by simp [CountFormed, hp, ht], by simp [hs], by simp [hf], by simp [hd]⟩

/-- The drift run set to 0, and the count, the play and the failed run left. -/
theorem PosKept.undrifted {s : State} {u : PositionUnit} (h : (u.core, u.driftRun) = (s.pos.core, 0)) : PosKept s u := by
  simp only [PositionUnit.core, Prod.mk.injEq] at h
  obtain ⟨⟨hp, ht, hs, hf⟩, hd⟩ := h
  exact ⟨by simp [CountFormed, hp, ht], by simp [hs], by simp [hf], by simp [hd]⟩

end Sys2Proof.Machine
end

section
/-! SUPPORT. Every operation of the main domain is a part of an event. -/

namespace Sys2Proof.Machine

variable {s0 s : State}

/-! ### Small parts -/

theorem Within.ite {c : Prop} [Decidable c] {a b : State} (ha : c → Within s0 a) (hb : Within s0 b) :
    Within s0 (if c then a else b) := by
  split
  · exact ha ‹_›
  · exact hb

theorem Within.orSelf {c : Prop} [Decidable c] {a : State} (h : Within s0 s) (ha : c → Within s0 a) :
    Within s0 (if c then a else s) := .ite ha h

theorem Within.driftReset (h : Within s0 s) : Within s0 (s.setPos { s.pos with driftRun := 0 }) :=
  h.pos (.undrifted (by rfl))

theorem RetKept.endHold (d : RetentionDomain) : RetKept d { d with mirror := { d.mirror with held := false } } :=
  ⟨.inr rfl, .refl _, id, id⟩

theorem Within.placeStatus (h : Within s0 s) : Within s0 (placeStatus s) := by
  refine h.orSelf fun hp => h.link fun _ b => ?_
  have hd : s.link.health ≠ 224 := by
    intro e
    simp [LinkController.placing, LinkController.detached, healthState, e] at hp
  exact ⟨b.health, b.intact, b.replies, b.requests, b.idle, Nat.zero_le _, b.requestOverrun, b.publishOverrun,
    b.stuckCount, fun e => absurd e hd⟩

theorem Within.placePosition (h : Within s0 s) (p : List Byte) : Within s0 (placePosition p s) := by
  refine h.orSelf fun hp => h.link fun _ b => ?_
  have hd : s.link.health ≠ 224 := by
    intro e
    simp [LinkController.placing, LinkController.detached, healthState, e] at hp
  refine ⟨b.health, b.intact, b.replies, b.requests, b.idle, b.beacon, b.requestOverrun, ?_, b.stuckCount,
    fun e => absurd e hd⟩
  simp only [State.setLink_link]
  split
  · exact satSucc_le _ _
  · exact b.publishOverrun

/-! ### The Reference Controller's moves -/

theorem Within.enterReferenced (h : Within s0 s) (a : s0.Active) : Within s0 (enterReferenced s) := by
  unfold Machine.enterReferenced
  exact (h.move a (by rfl)).pos (.undrifted (by simp [PositionUnit.core]))

theorem Within.setAbsolute (h : Within s0 s) : Within s0 (setAbsolute s) :=
  (h.pos (.undrifted (by rfl))).ret (.endHold _)

theorem Within.demote (h : Within s0 s) (a : s0.Active) : Within s0 (demote s) := h.move a (by rfl)

theorem Within.reasonFault (h : Within s0 s) : Within s0 (reasonFault s) := (h.node (by rfl))

theorem Within.closeHoming (h : Within s0 s) (o : HomingOutcome) (r : HomingReason) : Within s0 (closeHoming o r s) :=
  (h.homing (by exact .inr rfl)).homingOp _

theorem Within.returnFromHoming (h : Within s0 s) (a : s0.Active) : Within s0 (returnFromHoming s) := by
  unfold Machine.returnFromHoming
  split
  · exact (h.move a (by rfl)).pos (.undrifted (by simp [PositionUnit.core]))
  · exact h.move a (by rfl)

theorem Within.endHoming (h : Within s0 s) (o : HomingOutcome) (r : HomingReason) : Within s0 (endHoming o r s) :=
  h.orSelf fun hi => (h.closeHoming o r).returnFromHoming (h.active (s.later_of_inHoming hi))

theorem Within.dropSweep (h : Within s0 s) (o : SweepOutcome) : Within s0 (dropSweep o s) :=
  h.sweep fun b => ⟨by simp, b.2⟩

theorem Within.enterConfirmation (h : Within s0 s) (a : s0.Active) : Within s0 (enterConfirmation s) := h.move a (by rfl)

theorem Within.confirmIfReferenced (h : Within s0 s) : Within s0 (confirmIfReferenced s) :=
  h.orSelf fun e => h.enterConfirmation (h.active (by rw [e]; rfl))

theorem Within.trustLoss (h : Within s0 s) : Within s0 (trustLoss s) := by
  unfold Machine.trustLoss
  split
  · next e => exact h.enterConfirmation (h.active (by rw [e]; rfl))
  · next e => exact (h.dropSweep _).enterConfirmation (h.active (by rw [e]; rfl))
  · exact (h.endHoming _ _).confirmIfReferenced
  · exact h

theorem Within.demoteByState (h : Within s0 s) : Within s0 (demoteByState s) := by
  have a (x : NodeState) (e : s.node.state = x) (l : x.later = true) : s0.Active := h.active (e ▸ l)
  unfold Machine.demoteByState
  split
  · next e => exact h.demote (a _ e rfl)
  · next e => exact (h.closeHoming _ _).demote (a _ e rfl)
  · next e => exact (h.dropSweep _).demote (a _ e rfl)
  · next e => exact h.demote (a _ e rfl)
  · exact (h.node (by rfl))
  · exact h

theorem Within.reasonByState (h : Within s0 s) (entry : Bool) : Within s0 (reasonByState entry s) := by
  unfold Machine.reasonByState
  split
  · next e => exact .ite (fun _ => (h.closeHoming _ _).demote (h.active (by rw [e]; rfl))) h.reasonFault
  · exact h
  · exact h
  · exact h
  · exact h.reasonFault

theorem Within.clearAbsolute (h : Within s0 s) : Within s0 (clearAbsolute s) :=
  h.pos (.undrifted (by rfl))

theorem Within.removeAbsolute (h : Within s0 s) (entry : Bool) : Within s0 (removeAbsolute entry s) := by
  have h' : Within s0 (if s.pos.abs then Machine.clearAbsolute s else s) := h.orSelf fun _ => h.clearAbsolute
  exact .ite (fun _ => (h'.node (by rfl))) (.ite (fun _ => h'.demoteByState) (h'.reasonByState entry))

/-! ### The Fault Supervisor -/

theorem Within.startRetry (h : Within s0 s) (k : FaultKind) : Within s0 (startRetry k s) :=
  h.orSelf fun _ => (h.faults (by rfl) (by exact id))

theorem Within.endHomingByFault (h : Within s0 s) (k : FaultKind) : Within s0 (endHomingByFault k s) :=
  h.orSelf fun _ => h.endHoming _ _

theorem Within.removeByKind (h : Within s0 s) (k : FaultKind) (entry : Bool) : Within s0 (removeByKind k entry s) :=
  h.orSelf fun _ => h.removeAbsolute entry

theorem Within.noticeWith (h : Within s0 s) (k : FaultKind) (why : JumpReason) : Within s0 (noticeWith k why s) :=
  .ite (fun _ => ((h.faults (by rfl) (by exact id)).startRetry k).removeByKind k false)
    ((((h.moveFaults (by rfl)).startRetry k).endHomingByFault k).removeByKind k true)

theorem Within.notice (h : Within s0 s) (k : FaultKind) : Within s0 (notice k s) := h.noticeWith k .none

theorem Within.depart (h : Within s0 s) (k : FaultKind) : Within s0 (depart k s) := (h.moveFaults (by rfl))

theorem Within.retryTest (h : Within s0 s) : Within s0 (retryTest s) := h.orSelf fun _ => h.depart _

theorem Within.conditionGone (h : Within s0 s) (k : FaultKind) : Within s0 (conditionGone k s) := by
  have hc : Within s0 (conditionCleared k s) := (h.faults (by rfl) (by exact id))
  refine h.orSelf fun _ => ?_
  split
  · exact hc.retryTest
  · exact hc
  · exact h
  · exact h
  · exact h
  · exact h
  · exact h.depart _

/-! ### Position, handover, restore -/

theorem Within.judgeTravel (h : Within s0 s) (j : Int) : Within s0 (judgeTravel j s) := by
  unfold Machine.judgeTravel
  split
  · exact h
  · refine .ite (fun _ => (h.gate (by exact id))) ?_
    split
    · exact h
    · exact Within.notice (h.gate (by exact id)) _

theorem Within.handover (h : Within s0 s) (joint : Joint) (src : Option SourceFrame) : Within s0 (handover joint src s) := by
  refine h.orSelf fun _ => ?_
  have hp : Within s0 (Machine.placePosition (s.positionPayload joint (s.trustedNow src))
      (s.setNode { s.node with trusted := s.trustedNow src })) := .placePosition (h.node (by rfl)) _
  exact .ite (fun _ => hp.judgeTravel _) hp

theorem Within.computeJoint (h : Within s0 s) (k : Int) (src : Option SourceFrame) : Within s0 (computeJoint k src s) :=
  .handover (.work (h.pos (.same (by rfl))) _) _ _

theorem Within.raiseConflict (h : Within s0 s) (d : RestoreDecision) : Within s0 (raiseConflict d s) :=
  h.orSelf fun _ => h.notice _

theorem turnOf_countOf (t : Int) (θ : Theta) : turnOf (countOf t θ) = t := by
  have := θ.isLt
  unfold turnOf countOf
  omega

/-- A count of a turn number within its range is formed (R1). -/
theorem countFormed_countOf {s : State} {u : PositionUnit} {t : Int} (ht : inRange turnMin turnMax t = true)
    (hp : u.p = countOf t u.thetaLast) : CountFormed (s.setPos u) := by
  have hθ := u.thetaLast.isLt
  obtain ⟨lo, hi⟩ := inRange_iff.1 ht
  unfold turnMin at lo
  unfold turnMax at hi
  simp only [CountFormed, State.setPos_pos, hp, countOf]
  omega

/-- A turn number that a decision takes lies within its range (R65, R68). -/
theorem initialDecision_range {ra va c : Bool} {r : RetainedRecord} {q : Quadrant} {v : VernierResult} {t : Int}
    (hv : v.status = .clear → inRange turnMin turnMax v.tv = true)
    (ht : (initialDecision ra va (retainedOutcome r c q) v).2 = some t) : inRange turnMin turnMax t = true := by
  have ho : ∀ t, retainedOutcome r c q = .adjusted t → inRange turnMin turnMax t = true := by
    intro t
    unfold retainedOutcome
    repeat' split
    all_goals simp
    rintro rfl
    assumption
  cases e : retainedOutcome r c q with
  | adjusted u =>
    simp only [e, initialDecision] at ht
    repeat' split at ht
    all_goals simp at ht
    all_goals exact ht ▸ ho _ e
  | unusable why =>
    simp only [e, initialDecision] at ht
    split at ht
    · next hc => simp only [Option.some.injEq] at ht; exact ht ▸ hv hc.1
    · simp at ht

/-- A CLEAR vernier has its turn number in range (R19). -/
theorem vernier_range {cal : WorkingCal} {usable known : Bool} {base k : Int} {θ : Theta} {guide : Option Int}
    (h : (vernier cal usable known base k θ guide).status = .clear) :
    inRange turnMin turnMax (vernier cal usable known base k θ guide).tv = true := by
  revert h
  unfold vernier
  split
  · simp
  · simp only
    split
    · simp only
      split <;> simp
    · simp only [vernierStatus]
      split
      · simp
      · next hr => intro _; simpa using hr

theorem PosKept.setTurn {s : State} (t : Option Int) (ht : ∀ x, t = some x → inRange turnMin turnMax x = true) :
    PosKept s (setTurn t s.pos) := by
  cases t with
  | none => exact .undrifted (by rfl)
  | some x =>
    exact ⟨fun _ => countFormed_countOf (ht x rfl) rfl, id, id, fun _ => Nat.zero_le _⟩

theorem Within.decideInitial (h : Within s0 s) (a : s0.Active) (joint : Joint) (base : Int) (usable : Bool) :
    Within s0 (decideInitial joint base usable s) := by
  have hu := PosKept.setTurn (s := s) _ fun x => initialDecision_range (ra := s.setup.latched.retainedAlone)
    (va := s.setup.latched.vernierAlone) (c := s.node.continuity) (r := s.ret.record) (q := quadrantOf s.pos.thetaLast)
    (v := vernier s.cal usable s.pos.playKnown base joint.k s.pos.thetaLast
      (initialGuide s.cal.data (retainedOutcome s.ret.record s.node.continuity (quadrantOf s.pos.thetaLast)) s.pos.thetaLast
        joint.k)) vernier_range
  unfold Machine.decideInitial
  refine Within.move (Within.raiseConflict ((h.pos hu).ret (.endHold _)) _) a ?_
  simp only [decidedNode]
  split <;> rfl

theorem Within.decideConfirmation (h : Within s0 s) (a : s0.Active) (joint : Joint) (base : Int) (usable : Bool) :
    Within s0 (decideConfirmation joint base usable s) := by
  unfold Machine.decideConfirmation
  refine Within.move (Within.raiseConflict (h.pos (.undrifted (by rfl))) _) a ?_
  simp only [confirmedNode]
  split <;> rfl

theorem Within.restoreDecide (h : Within s0 s) (a : s0.Active) (joint : Joint) (base : Int) (usable : Bool) :
    Within s0 (restoreDecide joint base usable s) := by
  unfold Machine.restoreDecide
  split
  · exact h.decideInitial a joint base usable
  · exact h.decideConfirmation a joint base usable

theorem WorkingCal.h_nonneg (c : WorkingCal) : 0 ≤ c.h := by
  unfold WorkingCal.h
  split <;> omega

theorem abs_clampInt_le {h : Int} (hh : 0 ≤ h) (x : Int) : |clampInt (-h) h x| ≤ h := by
  rw [clampInt_eq (by omega), abs_le]
  omega

theorem abs_playUnknown_le (c : WorkingCal) (h : Int) (u : PositionUnit) : |(playUnknown h u).s| ≤ c.h := by
  simpa [playUnknown] using c.h_nonneg

theorem PosKept.playUnknown {s : State} (h : Int) : PosKept s (playUnknown h s.pos) :=
  ⟨id, fun _ => abs_playUnknown_le s.cal h s.pos, id, id⟩

theorem Within.setRestorePlay (h : Within s0 s) : Within s0 (setRestorePlay s) := by
  refine h.orSelf fun _ => ?_
  unfold restoredPlay
  split
  · exact h.pos ⟨id, fun _ => abs_clampInt_le s.cal.h_nonneg _, id, id⟩
  · exact h.pos (.playUnknown _)

/-! ### Homing and sweep -/

theorem Within.testWaitSet (h : Within s0 s) : Within s0 (testWaitSet s) := by
  refine h.orSelf fun e => ?_
  have h' := h.homingOp { s.homingOp with found := s.waitSet.filter fun a => s.homingOp.found.contains a || s.peerReady a }
  exact h'.orSelf fun _ => h'.move (h.active (by rw [e]; rfl)) (by rfl)

theorem Within.peerNotice (h : Within s0 s) (a : Address) : Within s0 (peerNotice a s) := by
  have he := h.endHoming .failed .peerLost
  exact h.orSelf fun _ => .ite (fun _ => .ite (fun _ => he.confirmIfReferenced) he) (h.orSelf fun _ => h.testWaitSet)

theorem Within.takeCrossing (h : Within s0 s) (p : Int) : Within s0 (takeCrossing p s) := by
  have h' : Within s0 (s.setHoming { s.homing with captureTag := some s.epoch.count, pCap := some p }) := (h.homing (by exact .inr rfl))
  exact .ite (fun _ => h'.endHoming _ _) (h'.homingOp _)

theorem Within.examineCapture (h : Within s0 s) (d : Int) : Within s0 (examineCapture d s) :=
  .ite (fun _ => h.endHoming _ _) (.ite (fun _ => h.takeCrossing _) (.ite (fun _ => h.endHoming _ _) (h.homingOp _)))

theorem Within.homingCounted (h : Within s0 s) (d : Int) : Within s0 (homingCounted d s) := by
  unfold Machine.homingCounted
  split
  · next e => exact h.orSelf fun _ => Within.move (.homingOp (h.homing (by exact .inr rfl)) _) (h.active (by rw [e]; rfl)) (by rfl)
  · exact .ite (fun _ => h) (h.examineCapture d)
  · exact h

theorem Within.homingUncounted (h : Within s0 s) : Within s0 (homingUncounted s) := by
  unfold Machine.homingUncounted
  split
  · exact h.orSelf fun _ => h.endHoming _ _
  · exact h

theorem StoreKept.of_writing {u : StoreUnit} (e : u.writing = s.store.writing) : StoreKept s0 s u := .inl e

theorem Within.markCal (h : Within s0 s) : Within s0 (markCal s) := by
  have h' : Within s0 (s.setCal { s.cal with dirty := true }) := h.cal ⟨id, id, id, id, .inl⟩
  exact h'.orSelf fun _ => h'.store (.of_writing rfl)

theorem Within.resolveConflict (h : Within s0 s) : Within s0 (resolveConflict s) := Within.conditionGone (h.node (by rfl)) _

/-- A count moved by whole turns stays formed while it is in range. -/
theorem PosKept.turns {s : State} {p n : Int} (hp : p = s.pos.p + 16384 * n) (lo : countMin ≤ p) (hi : p ≤ countMax) :
    PosKept s { s.pos with p := p } where
  count := by
    unfold countMin at lo
    unfold countMax at hi
    simp only [CountFormed, State.setPos_pos]
    omega
  play := id
  failedRun := id
  driftRun := id

theorem Within.homingSuccess (h : Within s0 s) (a : s0.Active) {t : Int}
    (ht : inRange countMin countMax (s.pos.p + 16384 * t) = true) : Within s0 (homingSuccess t s) := by
  have h1 : Within s0 (Machine.resolveConflict (Machine.setAbsolute (s.setPos { s.pos with p := s.pos.p + 16384 * t }))) :=
    (Within.setAbsolute (h.pos (.turns rfl (inRange_iff.1 ht).1 (inRange_iff.1 ht).2))).resolveConflict
  exact (Within.closeHoming (h1.node (by rfl)) _ _).enterReferenced a

theorem calRecordOk_home {c : CalRecord} (h : Int) (gh : Sixteenths) (l : Bool)
    (hr : inRange int32Min int32Max h = true) (k : calInRange c) : calInRange { c with h := h, gh := gh, learned := l } := by
  simp only [calInRange, calRecordOk, Bool.and_eq_true] at k ⊢
  simp_all

theorem home32_inRange (x : Int) : inRange int32Min int32Max (home32 x) = true := inRange_iff.2 (home32_bounds x)

theorem Within.homingLearned (h : Within s0 s) (a : s0.Active) (e : Int) (g : Sixteenths) :
    Within s0 (homingLearned e g s) := by
  have h1 : Within s0 (s.setCal { s.cal with data := { s.cal.data with h := home32 e, gh := g, learned := true } }) :=
    h.cal ⟨id, calRecordOk_home _ g true (home32_inRange e), id, id, .inl⟩
  exact (h1.markCal.closeHoming _ _).enterReferenced a

theorem Within.recordCoarse (h : Within s0 s) (usable : Bool) (d : Int) : Within s0 (recordCoarse usable d s) :=
  .ite (fun _ => (h.homing (by exact .inr rfl))) (h.homing (by exact .inr rfl))

theorem Within.completeCapture (h : Within s0 s) (a : s0.Active) (k : Int) (usable : Bool) :
    Within s0 (completeCapture k usable s) := by
  unfold Machine.completeCapture
  simp only
  split
  · unfold finishLearn
    exact .ite (fun _ => Within.homingLearned (.recordCoarse (h.homing (by exact .inr rfl)) _ _) a _ _) (Within.endHoming (h.homing (by exact .inr rfl)) _ _)
  · refine .ite (fun _ => Within.endHoming (h.homing (by exact .inr rfl)) _ _) ?_
    split
    · exact Within.endHoming (h.homing (by exact .inr rfl)) _ _
    · next hr =>
      unfold finishHome
      exact .ite (fun _ => .endHoming (.recordCoarse (h.homing (by exact .inr rfl)) _ _) _ _)
        (.homingSuccess (.recordCoarse (h.homing (by exact .inr rfl)) _ _) a (by simpa using hr))

theorem addSample_bounded (x : SweepSample) {w : SweepRecord} (b : w.Bounded) : (addSample x w).Bounded := by
  obtain ⟨hc, hs, ho⟩ := b
  unfold addSample
  split
  · next hlt =>
    refine ⟨fun n hn => ?_, hs, ho⟩
    rw [Vector.mem_toList_iff, Vector.mem_iff_getElem] at hn
    obtain ⟨i, hi, e⟩ := hn
    rw [Vector.getElem_setIfInBounds] at e
    split at e
    · omega
    · exact hc n (by rw [Vector.mem_toList_iff, ← e]; exact Vector.getElem_mem _)
  · exact ⟨hc, hs, satSucc_le _ _⟩

theorem skipSample_bounded {w : SweepRecord} (b : w.Bounded) : (skipSample w).Bounded := ⟨b.1, satSucc_le _ _, b.2.2⟩

theorem Within.judgeSample (h : Within s0 s) (joint : Joint) (sj : Int) (usable : Bool) :
    Within s0 (judgeSample joint sj usable s) := by
  have hk := h.sweep (skipSample_bounded (w := s.sweep))
  unfold Machine.judgeSample
  split
  · exact .ite (fun _ => h.sweep (addSample_bounded _)) hk
  · exact hk

/-! ### The coarse evaluation and the coupling -/

theorem Within.driftRaised (h : Within s0 s) : Within s0 (driftRaised s) := h.driftReset.notice _

theorem Within.driftRun3 (h : Within s0 s) : Within s0 (driftRun3 s) := h.orSelf fun _ => h.driftRaised

theorem Within.driftCount (h : Within s0 s) (d : Int) : Within s0 (driftCount d s) := by
  refine .ite (fun _ => ?_) h.driftReset
  unfold Machine.driftRun3
  split
  · exact h.driftReset.notice .vernierDrift
  · next hd =>
    refine h.pos ⟨id, id, id, fun b => ?_⟩
    simp only [State.setPos_pos] at hd ⊢
    omega

theorem Within.driftMonitor (h : Within s0 s) (joint : Joint) (base : Int) (usable : Bool) :
    Within s0 (driftMonitor joint base usable s) := h.orSelf fun _ => h.driftCount _

theorem Within.evaluationCarries (h : Within s0 s) (joint : Joint) (base sj : Int) (usable : Bool) :
    Within s0 (evaluationCarries joint base sj usable s) := by
  unfold Machine.evaluationCarries
  split
  · next e => exact h.restoreDecide (h.active (by rw [e]; rfl)) _ _ _
  · next e => exact h.orSelf fun _ => h.completeCapture (h.active (by rw [e]; rfl)) _ _
  · exact h.orSelf fun _ => h.judgeSample _ _ _
  · exact h

theorem PosKept.coarseResult {s : State} (usable : Bool) (e sj : Int) :
    PosKept s (coarseResult s.cal.data usable s.work.coarse e sj s.pos) := by
  unfold Machine.coarseResult
  split <;> exact .same (by rfl)

theorem Within.evaluate (h : Within s0 s) (joint : Joint) (e : Int) : Within s0 (evaluate joint e s) := by
  unfold Machine.evaluate
  exact .evaluationCarries (.driftMonitor (.work (h.setRestorePlay.pos (.coarseResult _ _ _)) _) _ _ _) _ _ _ _

theorem Within.coarseEvaluate (h : Within s0 s) : Within s0 (coarseEvaluate s) := by
  refine h.orSelf fun _ => ?_
  split
  · exact h
  · unfold evaluateJoint
    split
    · exact h.evaluate _ _
    · exact (h.free _).evaluate _ _

theorem Within.openCoupling (h : Within s0 s) : Within s0 (openCoupling s) := h.orSelf fun _ => (h.coupling (by exact id))

theorem Within.referenceOnMatch (h : Within s0 s) (b : Bool) : Within s0 (referenceOnMatch b s) :=
  .ite (fun _ => h.orSelf fun e => h.move (h.active (by rw [e.1]; rfl)) (by rfl)) h.trustLoss

theorem Within.makeMatch (h : Within s0 s) (f : SourceFrame) : Within s0 (makeMatch f s) := by
  unfold Machine.makeMatch
  refine .coarseEvaluate (.referenceOnMatch (.conditionGone (Within.coupling ?_ fun _ => Nat.zero_le _) _) _)
  exact Within.computeJoint (h.coupling (by exact id)) _ _

theorem Within.tryMatch (h : Within s0 s) : Within s0 (tryMatch s) := by
  refine h.orSelf fun _ => ?_
  split
  · exact h
  · exact h.makeMatch _

theorem Within.loseCoupling (h : Within s0 s) : Within s0 (loseCoupling s) := (h.notice _).trustLoss

theorem Within.missCapture (h : Within s0 s) : Within s0 (missCapture s) := h.orSelf fun _ => h.endHoming _ _

theorem Within.closeCoupling (h : Within s0 s) : Within s0 (closeCoupling s) := by
  refine h.orSelf fun _ => .ite (fun _ => (h.coupling (by exact id))) ?_
  have h' : Within s0 (Machine.missCapture
      (s.setCoupling { s.coupling with prevMissed := true, missCount := satSucc 255 s.coupling.missCount })) :=
    .missCapture (h.coupling fun _ => satSucc_le _ _)
  exact h'.orSelf fun _ => h'.loseCoupling

theorem Within.couplingLostOp (h : Within s0 s) : Within s0 (couplingLostOp s) := h.orSelf fun _ => h.loseCoupling

/-! ### Members -/

theorem PeerTable.modify_addresses (t : PeerTable) (a : Address) {f : PeerEntry → PeerEntry}
    (hf : ∀ e, (f e).address = e.address) :
    (t.modify a f).entries.map PeerEntry.address = t.entries.map PeerEntry.address := by
  simp only [PeerTable.modify, List.map_map]
  refine List.map_congr_left fun e _ => ?_
  simp only [Function.comp_apply]
  split <;> simp [hf]

theorem PeersKept.modify (t : PeerTable) (a : Address) {f : PeerEntry → PeerEntry} (hf : ∀ e, (f e).address = e.address)
    (hage : ∀ e, e.age ≤ 255 → (f e).age ≤ 255) : PeersKept t (t.modify a f) where
  addresses := t.modify_addresses a hf
  ages := by
    intro b e he
    simp only [PeerTable.modify, List.mem_map] at he
    obtain ⟨d, hd, rfl⟩ := he
    split
    · exact hage d (b d hd)
    · exact b d hd
  quietRun := id

theorem PeersKept.quiet (t : PeerTable) {n : Nat} (hn : n ≤ 64) : PeersKept t { t with quietRun := some n } :=
  ⟨rfl, id, fun _ m e => by cases e; exact hn⟩

theorem PeersKept.aged (t : PeerTable) :
    PeersKept t { t with entries := t.entries.map fun e => { e with age := satSucc 255 e.age } } where
  addresses := by simp [Function.comp_def]
  ages := by
    intro _ e he
    obtain ⟨d, -, rfl⟩ := List.mem_map.1 he
    exact satSucc_le _ _
  quietRun := id

theorem Within.markAbsent (h : Within s0 s) (a : Address) : Within s0 (markAbsent a s) := by
  have h' : Within s0 (s.setPeers (s.peers.modify a fun e => { e with absent := true })) :=
    h.peers (.modify _ _ (fun _ => rfl) fun _ => id)
  exact .ite (fun _ => h'.peerNotice a)
    (.ite (fun _ => ((h'.free _).notice _).peerNotice a) (((h'.free _).peerNotice a).notice _))

theorem Within.peerAbsentOp (h : Within s0 s) (a : Address) : Within s0 (peerAbsentOp a s) :=
  h.orSelf fun _ => h.markAbsent a

theorem Within.absentCleared {s1 : State} (h : Within s0 s) : Within s0 (absentCleared s1 s) :=
  h.orSelf fun _ => h.conditionGone _

theorem Within.quietRun64Op (h : Within s0 s) : Within s0 (quietRun64Op s) := h.orSelf fun _ => h.conditionGone _

theorem Within.quietTick (h : Within s0 s) : Within s0 (quietTick s) := by
  unfold Machine.quietTick
  split
  · exact h.orSelf fun hn => Within.quietRun64Op (h.peers (.quiet _ hn))
  · exact h

theorem Within.agePeers (h : Within s0 s) : Within s0 (agePeers s) := by
  have fold (l : List Address) : ∀ {s}, Within s0 s → Within s0 (l.foldl (fun t a => Machine.peerAbsentOp a t) s) := by
    induction l with
    | nil => exact id
    | cons a l ih => exact fun h => ih (h.peerAbsentOp a)
  exact fold _ (h.peers (.aged _))

/-! ### The encoder reads -/

theorem Within.noteResponse (h : Within s0 s) (p : Port) (ack : Bool) : Within s0 (noteResponse p ack s) := by
  unfold Machine.noteResponse portResponded
  cases p <;> exact h.orSelf fun _ => h.selfCheck _

theorem Within.portResponded (h : Within s0 s) (p : Port) : Within s0 (portResponded p s) := h.noteResponse p true

theorem EncKept.motor {e : EncoderInterface} {r : PortRecord} (hr : r.reading = false)
    (hb : e.motor.Bounded → r.Bounded) : EncKept s0 e { e with motor := r } :=
  ⟨by simp [hr], .inl, hb, id⟩

theorem EncKept.coarse {e : EncoderInterface} {r : PortRecord} (hr : r.reading = false)
    (hb : e.coarse.Bounded → r.Bounded) : EncKept s0 e { e with coarse := r } :=
  ⟨.inl, by simp [hr], id, hb⟩

theorem goodRuns_bounded (r : PortRecord) : (goodRuns r).Bounded := ⟨Nat.zero_le _, satSucc_le _ _⟩

theorem failedRuns_bounded (c : ReadCause) (r : PortRecord) : (failedRuns c r).Bounded := ⟨satSucc_le _ _, Nat.zero_le _⟩

theorem Within.motorFailureNotice (h : Within s0 s) : Within s0 (motorFailureNotice s) := h.orSelf fun _ => h.notice _

theorem Within.motorGoodGone (h : Within s0 s) : Within s0 (motorGoodGone s) := h.orSelf fun _ => h.conditionGone _

theorem Within.coarseFailureNotice (h : Within s0 s) : Within s0 (coarseFailureNotice s) := h.orSelf fun _ => h.notice _

theorem Within.coarseGoodGone (h : Within s0 s) : Within s0 (coarseGoodGone s) := h.orSelf fun _ => h.conditionGone _

theorem downgrade_falls (why : RetainedReason) (r : RetainedRecord) : r.validity.Falls (downgrade why r).validity := by
  unfold downgrade
  split
  · next e => exact .inr (.inl ⟨e, rfl⟩)
  · exact .refl _

theorem downgrade_reentries (why : RetainedReason) (r : RetainedRecord) : (downgrade why r).reentries = r.reentries := by
  unfold downgrade
  split <;> rfl

theorem Within.endHoldByMotion (h : Within s0 s) : Within s0 (endHoldByMotion s) :=
  h.orSelf fun _ => h.ret ⟨.inr rfl, downgrade_falls _ _, by simp [downgrade_reentries], id⟩

theorem Within.jumpAndHoming (h : Within s0 s) (r : JumpReason) (d : Int) : Within s0 (jumpAndHoming r d s) := by
  unfold Machine.jumpAndHoming
  split
  · exact h.homingCounted d
  · exact .ite (fun _ => ((h.free _).noticeWith _ _).homingCounted d) (((h.free _).homingCounted d).noticeWith _ _)

theorem Within.exitStartup (h : Within s0 s) (hb : s0.Begun) : Within s0 (exitStartup s) := by
  refine h.orSelf fun e => ?_
  have a := h.active_of_startup e.1 hb
  exact .ite (fun _ => h.move a (by rfl)) (.ite (fun _ => h.move a (by rfl)) (h.move a (by rfl)))

theorem Within.afterCount (h : Within s0 s) : Within s0 (afterCount s) :=
  .ite (fun _ => Within.tryMatch (h.coupling (by exact id))) (h.computeJoint 0 none).coarseEvaluate

/-- The count after a motion is formed (R3, R6). -/
theorem addMotion_formed {p : Int} {θ last : Theta} (hp : p % 16384 = (last.toNat : Int)) :
    (addMotion p (motionOf θ last) θ).1 % 16384 = (θ.toNat : Int) ∧
    -536870912 ≤ (addMotion p (motionOf θ last) θ).1 ∧ (addMotion p (motionOf θ last) θ).1 ≤ 536870911 := by
  have hw := wrapS_bounds ((θ.toNat : Int) - last.toNat)
  have hθ := θ.isLt
  rw [(addMotion_eq p (motionOf θ last) θ).1]
  unfold motionOf
  split
  · omega
  · split <;> omega

theorem playUpdate_bounded {h : Int} (hh : 0 ≤ h) (d : Int) (u : PositionUnit) : |(playUpdate h d u).s| ≤ h := by
  unfold playUpdate learnPlay
  split
  · exact abs_clampInt_le hh _
  · split
    · simp only
      split
      · rw [abs_of_nonneg hh]
      · rw [abs_neg, abs_of_nonneg hh]
    · simpa using hh

theorem playUpdate_driftRun (h d : Int) (u : PositionUnit) : (playUpdate h d u).driftRun = u.driftRun := by
  unfold playUpdate learnPlay
  repeat' split
  all_goals rfl

theorem PosKept.countGood {s : State} (jl : Nat) (θ : Theta) : PosKept s (countGood s.cal.h jl θ s.pos).pos := by
  have zero : inRange turnMin turnMax 0 = true := by decide
  unfold Machine.countGood
  simp only
  split
  · exact ⟨fun _ => countFormed_countOf zero rfl, fun _ => by simpa [firstRead] using s.cal.h_nonneg,
      fun _ => Nat.zero_le _, id⟩
  · split
    · exact ⟨fun b => addMotion_formed b.1, fun _ => abs_playUnknown_le s.cal _ _, fun _ => Nat.zero_le _, id⟩
    · split
      · obtain ⟨hp, hθ, -, hf, -⟩ := playUpdate_frame s.cal.h (motionOf θ s.pos.thetaLast)
          { s.pos with p := (addMotion s.pos.p (motionOf θ s.pos.thetaLast) θ).1, thetaLast := θ,
                       deltaLast := roundDiv (motionOf θ s.pos.thetaLast) (s.pos.failedRun + 1), failedRun := 0,
                       lastDir := directionOf (motionOf θ s.pos.thetaLast) s.pos.lastDir }
        refine ⟨fun b => ?_, fun _ => playUpdate_bounded s.cal.h_nonneg _ _, fun _ => ?_, fun b => ?_⟩
        · simp only [CountFormed, State.setPos_pos, countedRead, hp, hθ]
          exact addMotion_formed b.1
        · simp only [countedRead, hf]
          exact Nat.zero_le _
        · simpa only [countedRead, playUpdate_driftRun] using b
      · refine ⟨fun b => countFormed_countOf (t := turnOf s.pos.p) ?_ rfl, fun _ => abs_playUnknown_le s.cal _ _,
          fun _ => Nat.zero_le _, id⟩
        obtain ⟨-, lo, hi⟩ := b
        rw [inRange_iff]
        unfold turnOf turnMin turnMax
        omega

theorem Within.motorGood (h : Within s0 s) (hb : s0.Begun) (θ : Theta) : Within s0 (motorGood θ s) := by
  have h1 : Within s0 (Machine.retryTest (Machine.motorGoodGone (s.setEnc { s.enc with motor := goodRuns s.enc.motor }))) :=
    (Within.motorGoodGone (h.enc (.motor rfl fun _ => goodRuns_bounded _))).retryTest
  unfold Machine.motorGood takeCount
  exact .afterCount (.exitStartup (.openCoupling (.jumpAndHoming (.endHoldByMotion (.work (h1.pos (.countGood _ _)) _)) _ _)) hb)

theorem PosKept.countFailed {s : State} : PosKept s (countFailed s.pos).1 := by
  unfold Machine.countFailed
  split
  · exact .same (by rfl)
  · exact ⟨id, id, fun _ => satSucc_le _ _, id⟩

theorem Within.motorFailed (h : Within s0 s) (c : ReadCause) : Within s0 (motorFailed c s) := by
  have h1 : Within s0 (s.setEnc { s.enc with motor := failedRuns c s.enc.motor }) :=
    h.enc (.motor rfl fun _ => failedRuns_bounded _ _)
  unfold Machine.motorFailed afterFailed
  refine .motorFailureNotice ?_
  split
  · exact .afterCount (.homingUncounted (.work (h1.pos .countFailed) _))
  · exact .work (h1.pos .countFailed) _

theorem Within.coarseGood (h : Within s0 s) (g : CoarseAngle) : Within s0 (coarseGood g s) :=
  .coarseEvaluate (.work (.coarseGoodGone (h.enc (.coarse rfl fun _ => goodRuns_bounded _))) _)

theorem Within.coarseFailed (h : Within s0 s) (c : ReadCause) : Within s0 (coarseFailed c s) :=
  .coarseEvaluate (.work (.coarseFailureNotice (h.enc (.coarse rfl fun _ => failedRuns_bounded _ _))) _)

theorem Within.readComplete (h : Within s s) (w : EncoderWord) : Within s (readComplete w s) := by
  cases w with
  | motor θ error c1 c0 =>
    refine h.orSelf fun hr => ?_
    split
    · exact (h.portResponded _).motorGood (.inr (.inl hr)) _
    · exact (h.portResponded _).motorFailed _
  | coarse g error c1 c0 =>
    refine h.orSelf fun hr => ?_
    split
    · exact (h.portResponded _).coarseGood _
    · exact (h.portResponded _).coarseFailed _

theorem Within.failReading (h : Within s0 s) (p : Port) (ack : Bool) (c : ReadCause) :
    Within s0 (failReading p ack c s) := by
  cases p with
  | motor => exact h.orSelf fun _ => (h.noteResponse _ _).motorFailed _
  | coarse => exact h.orSelf fun _ => (h.noteResponse _ _).coarseFailed _

theorem Within.portPresence (h : Within s0 s) (p : Port) : Within s0 (portPresence p s) := by
  cases p <;> exact h.orSelf fun _ => h.orSelf fun _ => h.selfCheck _

/-! ### The Epoch Unit -/

theorem Within.becomeAligned (h : Within s0 s) : Within s0 (becomeAligned s) := .openCoupling (h.epoch ⟨rfl, id⟩)

theorem Within.alignmentTimeout (h : Within s0 s) : Within s0 (alignmentTimeout s) := h.orSelf fun _ => h.becomeAligned

theorem Within.alignmentEdge (h : Within s0 s) : Within s0 (alignmentEdge s) :=
  h.orSelf fun _ => .alignmentTimeout (h.epoch ⟨rfl, fun ⟨a, _, c⟩ => ⟨a, satSucc_le _ _, c⟩⟩)

theorem Within.syncedRun16 (h : Within s0 s) : Within s0 (syncedRun16 s) := h.orSelf fun _ => h.conditionGone _

theorem Within.closeEpoch (h : Within s0 s) (i : SampleInputs) : Within s0 (closeEpoch i s) := by
  have h' := (h.failReading .motor i.motorAck .superseded).failReading .coarse i.coarseAck .superseded
  exact .closeCoupling (h'.orSelf fun _ => h'.sweep skipSample_bounded)

theorem realignNow_bounded {u : EpochUnit} (h : u.syncedRun ≤ 16 ∧ u.alignEdges ≤ 64 ∧ u.realignRun ≤ 8 ∧ u.realignCount ≤ 255) :
    (realignNow u).Bounded := by
  obtain ⟨a, b, c, d⟩ := h
  unfold realignNow
  split
  · exact ⟨a, b, Nat.zero_le _, satSucc_le _ _⟩
  · exact ⟨a, b, by omega, d⟩

theorem realignNow_running (u : EpochUnit) : (realignNow u).running = u.running := by
  unfold realignNow
  split <;> rfl

theorem realignStep_ranges (synced : Bool) {u : EpochUnit} (h : u.Bounded) :
    (realignStep synced u).syncedRun ≤ 16 ∧ (realignStep synced u).alignEdges ≤ 64 ∧
    (realignStep synced u).realignRun ≤ 8 ∧ (realignStep synced u).realignCount ≤ 255 := by
  obtain ⟨a, b, c, d⟩ := h
  have c' : u.realignRun ≤ 8 := Nat.le_succ_of_le c
  have zero : 0 ≤ 8 := Nat.zero_le _
  have one : 1 ≤ 8 := by decide
  unfold realignStep judgeRealign
  repeat' split
  · exact ⟨a, b, c', d⟩
  · exact ⟨a, b, zero, d⟩
  · exact ⟨a, b, Nat.succ_le_succ c, d⟩
  · exact ⟨a, b, one, d⟩
  · exact ⟨a, b, c', d⟩
  · exact ⟨a, b, zero, d⟩

theorem realignStep_running (synced : Bool) (u : EpochUnit) : (realignStep synced u).running = u.running := by
  unfold realignStep judgeRealign
  repeat' split
  all_goals rfl

theorem EpochKept.stepEpoch (synced : Bool) (u : EpochUnit) : EpochKept u (stepEpoch synced u) where
  running := (realignNow_running _).trans (realignStep_running _ _)
  bounded := by
    intro b
    obtain ⟨hs, ha, hr, hc⟩ := realignStep_ranges synced b
    refine realignNow_bounded ⟨?_, ha, hr, hc⟩
    simp only
    split
    · exact satSucc_le _ _
    · exact hs

theorem EncKept.startReads (hb : s0.Begun) (i : SampleInputs) (e : EncoderInterface) : EncKept s0 e (startReads i e) :=
  ⟨fun _ => .inr hb, fun _ => .inr hb, id, id⟩

theorem Within.beginEpoch (h : Within s0 s) (hb : s0.Begun) (i : SampleInputs) : Within s0 (beginEpoch i s) :=
  .coupling (.work (h.enc (.startReads hb i _)) _) (by exact id)

theorem Within.beaconDue (h : Within s0 s) : Within s0 (beaconDue s) := h.orSelf fun _ => h.placeStatus

theorem Within.beaconTick (h : Within s0 s) : Within s0 (beaconTick s) :=
  h.orSelf fun _ => .beaconDue (h.link fun _ b => { b with beacon := satSucc_le _ _ })

theorem Within.sampleInstant (h : Within s0 s) (hb : s0.Begun) (synced : Bool) (i : SampleInputs) :
    Within s0 (sampleInstant synced i s) := by
  have h1 := (h.closeEpoch i).epoch (.stepEpoch synced _)
  unfold Machine.sampleInstant handInstant
  exact .beaconTick (.portPresence (.portPresence (h1.syncedRun16.alignmentEdge.beginEpoch hb i).agePeers.quietTick _) _)

theorem Within.risingEdge (h : Within s0 s) (hb : s0.Begun) (i : SampleInputs) : Within s0 (risingEdge i s) := by
  unfold Machine.risingEdge
  split
  · exact h.sampleInstant hb true i
  · split
    · refine Within.sampleInstant (h.epoch ?_) hb true i
      exact ⟨rfl, id⟩
    · exact h.epoch ⟨rfl, id⟩

theorem EpochKept.fallingEdge (u : EpochUnit) : EpochKept u (fallingEdge u) := by
  unfold Machine.fallingEdge
  simp only
  split <;> exact ⟨rfl, id⟩

end Sys2Proof.Machine
end

section
/-! SUPPORT. The parts of an event at the link, the store and the requests, and what an event can come to:
every command ends in `conclude` over one of four outcomes. -/

namespace Sys2Proof.Machine

variable {s0 s : State}

/-! ### The link's runs and slots -/

/-- A link record whose counters and queues stay within their ranges, and that holds no frame and no request the
old one did not hold. -/
structure LinkController.Quieter (l m : LinkController) : Prop where
  health : m.health ≤ l.health
  intact : m.intact ≤ l.intact
  replies : m.replies.length ≤ l.replies.length
  requests : m.requests.length ≤ l.requests.length
  idle : m.idlePeriods ≤ 64 ∨ m.idlePeriods ≤ l.idlePeriods
  beacon : m.beaconCount ≤ l.beaconCount
  request : m.requestOverrun ≤ 255 ∨ m.requestOverrun ≤ l.requestOverrun
  publish : m.publishOverrun ≤ 255 ∨ m.publishOverrun ≤ l.publishOverrun
  stuck : m.stuckCount ≤ 255 ∨ m.stuckCount ≤ l.stuckCount
  position : l.positionSlot = none → l.tx = none → m.positionSlot = none
  status : l.statusSlot = none → l.tx = none → m.statusSlot = none
  tx : l.tx = none → m.tx = none

theorem LinkController.Quieter.refl (l : LinkController) : l.Quieter l :=
  ⟨Nat.le_refl _, Nat.le_refl _, Nat.le_refl _, Nat.le_refl _, .inr (Nat.le_refl _), Nat.le_refl _, .inr (Nat.le_refl _),
    .inr (Nat.le_refl _), .inr (Nat.le_refl _), fun h _ => h, fun h _ => h, id⟩

open LinkController (Quieter)

theorem Within.quieter {l : LinkController} (h : Within s0 s) (k : s.link.Quieter l) : Within s0 (s.setLink l) := by
  refine h.link fun _ b => ?_
  obtain ⟨b1, b2, b3, b4, b5, b6, b7, b8, b9, bs⟩ := b
  obtain ⟨health, intact, replies, requests, idle, beacon, request, publish, stuck, position, status, tx⟩ := k
  constructor <;> simp only [State.setLink_link]
  case silent =>
    intro e
    obtain ⟨p, st, x, rp, rq⟩ := bs (by omega)
    rw [rp] at replies
    rw [rq] at requests
    exact ⟨position p x, status st x, tx x, List.length_eq_zero_iff.1 (by simpa using replies),
      List.length_eq_zero_iff.1 (by simpa using requests)⟩
  all_goals omega

theorem lineAfter_quieter (bits : List Bool) (l : LinkController) : l.Quieter (lineAfter bits l) := by
  exact { Quieter.refl l with }

theorem lineIdle_quieter (l : LinkController) : l.Quieter (lineIdle l) := by
  exact { Quieter.refl l with }

theorem Within.setLineAfter (h : Within s0 s) (bits : List Bool) : Within s0 (s.setLink (lineAfter bits s.link)) :=
  h.quieter (lineAfter_quieter bits _)

theorem Within.watchLine (h : Within s0 s) (bits : List Bool) : Within s0 (watchLine bits s) :=
  h.orSelf fun _ => h.setLineAfter bits

theorem Within.easeHealth (h : Within s0 s) : Within s0 (easeHealth s) :=
  .ite (fun _ => h) (h.quieter (by exact { Quieter.refl _ with health := Nat.sub_le _ _ }))

theorem detached_iff (l : LinkController) : l.detached = true ↔ 224 ≤ l.health := by
  unfold LinkController.detached healthState
  repeat' split
  all_goals simp
  all_goals omega

theorem not_detached_iff (l : LinkController) : l.detached = false ↔ l.health < 224 := by
  rw [← Bool.not_eq_true, detached_iff, Nat.not_le]

theorem Within.setHealth (h : Within s0 s) {l : LinkController} (e : l = { s.link with health := 0, intact := 0, idlePeriods := 0 }) :
    Within s0 (s.setLink l) := by
  subst e
  exact h.quieter (by exact { Quieter.refl _ with health := Nat.zero_le _, intact := Nat.zero_le _, idle := .inl (Nat.zero_le _) })

theorem Within.linkRejoin (h : Within s0 s) : Within s0 (linkRejoin s) :=
  h.orSelf fun _ => ((h.setHealth rfl).conditionGone _).placeStatus

theorem Within.lineIdle (h : Within s0 s) : Within s0 (s.setLink (lineIdle s.link)) := h.quieter (lineIdle_quieter _)

theorem Within.countIdle (h : Within s0 s) : Within s0 (countIdle s) :=
  h.orSelf fun _ => .linkRejoin (h.quieter (by exact { Quieter.refl _ with idle := .inl (satSucc_le _ _) }))

theorem Within.intactCount32 (h : Within s0 s) : Within s0 (intactCount32 s) :=
  h.orSelf fun _ => .easeHealth (h.quieter (by exact { Quieter.refl _ with intact := Nat.zero_le _ }))

/-! ### A notice leaves the link alone -/

theorem judgeGate_setLink (s0 s : State) (l : LinkController) :
    judgeGate (s0.setLink l) (s.setLink l) = (judgeGate s0 s).setLink l := by
  unfold judgeGate
  rw [show (s0.setLink l).permission = s0.permission from rfl, show (s.setLink l).permission = s.permission from rfl]
  split <;> rfl

theorem moveNode_setLink (n : NodeRecord) (s : State) (l : LinkController) :
    moveNode n (s.setLink l) = (moveNode n s).setLink l := judgeGate_setLink s (s.setNode n) l

theorem moveFaults_setLink (f : FaultSupervisor) (s : State) (l : LinkController) :
    moveFaults f (s.setLink l) = (moveFaults f s).setLink l := judgeGate_setLink s (s.setFaults f) l

theorem returnFromHoming_setLink (s : State) (l : LinkController) :
    returnFromHoming (s.setLink l) = (returnFromHoming s).setLink l := by
  unfold returnFromHoming
  simp only [State.setLink_homing, State.setLink_node, moveNode_setLink]
  split <;> rfl

theorem endHoming_setLink (o : HomingOutcome) (r : HomingReason) (s : State) (l : LinkController) :
    endHoming o r (s.setLink l) = (endHoming o r s).setLink l := by
  unfold endHoming
  rw [show (s.setLink l).inHoming = s.inHoming from rfl]
  split
  · exact returnFromHoming_setLink (closeHoming o r s) l
  · rfl

theorem endHomingByFault_setLink (k : FaultKind) (s : State) (l : LinkController) :
    endHomingByFault k (s.setLink l) = (endHomingByFault k s).setLink l := by
  unfold endHomingByFault
  rw [show (s.setLink l).actionOf k = s.actionOf k from rfl, endHoming_setLink]
  split <;> rfl

/-- The notice of LINK_DETACHED reads nothing of the link. -/
theorem notice_linkDetached_setLink (s : State) (l : LinkController) :
    notice .linkDetached (s.setLink l) = (notice .linkDetached s).setLink l := by
  have retry (s : State) : startRetry .linkDetached s = s := if_neg (by simp)
  have keep (entry : Bool) (s : State) : removeByKind .linkDetached entry s = s := if_neg (by decide)
  simp only [notice, noticeWith, repeatNotice, entryNotice, retry, keep]
  rw [show (s.setLink l).active .linkDetached = s.active .linkDetached from rfl]
  split
  · rfl
  · exact (congrArg _ (moveFaults_setLink _ s l)).trans (endHomingByFault_setLink _ _ l)

/-! ### Outcomes of an event -/

/-- What the effects of an event can come to, before it settles: a part of the main domain's work, an entry to
RETAIN after it, an entry to STARTUP, or a return from OFF. -/
inductive Comes (s : State) : State → Prop
  | within {u : State} (h : Within s u) : Comes s u
  | retain {u : State} (h : Comes s u) (hm : u.ret.mirror = s.ret.mirror) (up : s.mainUp = true ∨ s.link ≠ LinkController.start)
      (cause : RetainedCause) (low : Bool) : Comes s (enterRetain cause low u)
  | startup (hs : s.node.state = .retain) (straps : Straps) : Comes s (enterStartup straps s)
  | back (hs : s.node.state = .off) (how : OffReturn) : Comes s (returnFromOff how s)

theorem Comes.self (s : State) : Comes s s := .within .start

theorem Comes.ite {s : State} {c : Prop} [Decidable c] {a : State} (ha : c → Comes s a) : Comes s (if c then a else s) := by
  split
  · exact ha ‹_›
  · exact .self s

theorem Comes.ifWithin {s : State} {c : Prop} [Decidable c] {a : State} (ha : c → Within s a) :
    Comes s (if c then a else s) := .ite fun h => .within (ha h)

/-- Entry to DETACHED with no frame in the transmit register (R155). -/
theorem Comes.detach {s : State} {l : LinkController} (low : Bool) (ht : l.tx = none)
    (hl : LinkBounded s → LinkBounded (s.setLink (flushLink l))) (up : s.link ≠ LinkController.start) :
    Comes s (detach low (s.setLink l)) := by
  have hw : Within s ((notice .linkDetached (s.setLink l)).setLink (flushLink (notice .linkDetached (s.setLink l)).link)) := by
    have hn : Within s (notice .linkDetached s) := Within.start.notice _
    rw [notice_linkDetached_setLink]
    exact hn.link (l := flushLink l) fun b0 _ => by
      obtain ⟨b1, b2, b3, b4, b5, b6, b7, b8, b9, -⟩ := hl b0
      exact ⟨b1, b2, b3, b4, b5, b6, b7, b8, b9, fun _ => ⟨rfl, rfl, ht, rfl, rfl⟩⟩
  unfold Machine.detach
  simp only
  split
  · exact .retain (.within hw) (by simp) (.inr up) _ _
  · exact .within hw

/-- An increment of the health counter with no frame in the transmit register (R147, R148). -/
theorem Comes.worsenHealth {s : State} {l : LinkController} (n : Nat) (low : Bool) (ht : l.tx = none)
    (hl : LinkBounded s → LinkBounded (s.setLink l)) (up : s.link ≠ LinkController.start) :
    Comes s (worsenHealth n low (s.setLink l)) := by
  have hb (b : LinkBounded s) {x : LinkController} (e : x = { l with health := min 224 (l.health + n) })
      (hx : x.health ≠ 224) : LinkBounded (s.setLink x) := by
    subst e
    exact { hl b with health := Nat.min_le_left _ _, silent := fun e => absurd e hx }
  unfold Machine.worsenHealth
  split
  · exact .within (.link .start fun _ => hl)
  · simp only
    split
    · refine Comes.detach (s := s) (l := { l with health := min 224 (l.health + n) }) low ht (fun b => ?_) up
      obtain ⟨-, b2, -, -, -, b6, b7, b8, b9, -⟩ := hl b
      exact ⟨Nat.min_le_left _ _, b2, Nat.zero_le _, Nat.zero_le _, Nat.zero_le _, b6, b7, b8, b9,
        fun _ => ⟨rfl, rfl, ht, rfl, rfl⟩⟩
    · next hd =>
      refine .within (Within.link (l := { l with health := min 224 (l.health + n) }) (s := s) .start fun _ b => hb b rfl fun e => ?_)
      exact hd ((detached_iff _).2 (Nat.le_of_eq e.symm))

theorem detach_mirror (low : Bool) (s : State) : (detach low s).ret.mirror = s.ret.mirror := by
  unfold detach
  simp only
  split
  · change ((notice .linkDetached s).setLink _).ret.mirror = s.ret.mirror
    simp
  · simp

theorem worsenHealth_mirror (n : Nat) (low : Bool) (s : State) : (worsenHealth n low s).ret.mirror = s.ret.mirror := by
  unfold worsenHealth
  split
  · rfl
  · simp only
    split
    · exact detach_mirror _ _
    · rfl

theorem Comes.restartAfter {s u : State} (h : Comes s u) (hm : u.ret.mirror = s.ret.mirror) (up : s.link ≠ LinkController.start)
    (x : Transmission) (l : LinkController) (low : Bool) : Comes s (restartAfter x l low u) := by
  unfold Machine.restartAfter
  split
  · exact .retain h hm (.inr up) _ _
  · exact h

theorem link_ne_start_of_tx {s : State} {x : Transmission} (h : s.link.tx = some x) : s.link ≠ LinkController.start := by
  intro e
  rw [e] at h
  cases h

theorem receiving_iff (l : LinkController) :
    l.receiving = true ↔ l.joined = true ∧ l.health < 224 ∧ l.stuck = false ∧ l.tx = none ∧ l.awaitIdle = false := by
  simp only [LinkController.receiving, LinkController.placing, Bool.and_eq_true, Bool.not_eq_true', not_detached_iff,
    Option.isNone_iff_eq_none]
  tauto

theorem link_ne_start_of_receiving {s : State} (h : s.link.receiving = true) : s.link ≠ LinkController.start := by
  intro e
  rw [e] at h
  cases h

/-! ### The transmitter -/

theorem Within.beginFrame {f : Frame} {o : TxOrigin} (hb : s.link.mayBegin = true) :
    Within s (s.setLink (beginFrame f o s.link)) := by
  refine Within.link .start fun _ b => ?_
  have hd : s.link.health ≠ 224 := by
    intro e
    simp [LinkController.mayBegin, healthState, e] at hb
  have hr : (markHead true s.link.replies).length = s.link.replies.length := by
    cases s.link.replies <;> rfl
  obtain ⟨b1, b2, b3, b4, b5, b6, b7, b8, b9, -⟩ := b
  cases o
  · exact ⟨b1, b2, b3, b4, b5, b6, b7, b8, b9, fun e => absurd e hd⟩
  · exact ⟨b1, b2, b3, b4, b5, b6, b7, b8, b9, fun e => absurd e hd⟩
  · exact ⟨b1, b2, hr.le.trans b3, b4, b5, b6, b7, b8, b9, fun e => absurd e hd⟩

theorem Within.loseArbitration {x : Transmission} (ht : s.link.tx = some x) (bits : List Bool) :
    Within s (s.setLink (loseArbitration x (lineAfter bits s.link))) := by
  have never {p : Prop} : s.link.tx = none → p := fun e => by rw [ht] at e; cases e
  unfold Machine.loseArbitration
  cases x.origin
  · simp only [returnPosition]
    split
    · exact Within.start.quieter (by exact { lineAfter_quieter bits s.link with publish := .inl (satSucc_le _ _), tx := never })
    · exact Within.start.quieter (by exact { lineAfter_quieter bits s.link with position := fun _ => never, tx := never })
  · simp only [returnStatus]
    split
    · exact Within.start.quieter (by exact { lineAfter_quieter bits s.link with tx := never })
    · exact Within.start.quieter (by exact { lineAfter_quieter bits s.link with status := fun _ => never, tx := never })
  · have hr : (markHead false s.link.replies).length = s.link.replies.length := by
      cases s.link.replies <;> rfl
    exact Within.start.quieter (by exact { lineAfter_quieter bits s.link with replies := hr.le, tx := never })

theorem finishTx_bounded {x : Transmission} {l : LinkController} {s : State} (bits : List Bool) (e : l = finishTx x (lineAfter bits s.link))
    (b : LinkBounded s) (w : Bool) : LinkBounded (s.setLink { l with awaitIdle := w }) := by
  subst e
  obtain ⟨b1, b2, b3, b4, b5, b6, b7, b8, b9, bs⟩ := b
  have ht : s.link.replies.tail.length ≤ s.link.replies.length := by simp
  unfold finishTx
  cases x.origin
  · exact ⟨b1, b2, b3, b4, b5, b6, b7, b8, b9, fun e => ⟨(bs e).1, (bs e).2.1, rfl, (bs e).2.2.2⟩⟩
  · exact ⟨b1, b2, b3, b4, b5, b6, b7, b8, b9, fun e => ⟨(bs e).1, (bs e).2.1, rfl, (bs e).2.2.2⟩⟩
  · refine ⟨b1, b2, ht.trans b3, b4, b5, b6, b7, b8, b9, fun e => ?_⟩
    obtain ⟨p, st, -, rp, rq⟩ := bs e
    exact ⟨p, st, rfl, by simp [lineAfter, rp], rq⟩

theorem Comes.abortTx {s : State} {x : Transmission} (ht : s.link.tx = some x) (sent : Nat) (low : Bool) :
    Comes s (abortTx x sent low s) := by
  have up := link_ne_start_of_tx ht
  have tx : (finishTx x (lineAfter (x.readBack sent) s.link)).tx = none := by
    unfold finishTx
    cases x.origin <;> rfl
  have h := Comes.worsenHealth (s := s) (l := { finishTx x (lineAfter (x.readBack sent) s.link) with awaitIdle := true })
    4 low tx (fun b => finishTx_bounded _ rfl b true) up
  exact h.restartAfter (worsenHealth_mirror _ _ _) up _ _ _

theorem Comes.completeTx {s : State} {x : Transmission} (ht : s.link.tx = some x) (low : Bool) :
    Comes s (completeTx x low s) := by
  have hw : Within s (Machine.easeHealth (s.setLink (finishTx x (lineAfter x.bits s.link)))) :=
    .easeHealth (.link .start fun _ b => finishTx_bounded (x := x) x.bits rfl b (finishTx x (lineAfter x.bits s.link)).awaitIdle)
  exact (Comes.within hw).restartAfter (by simp) (link_ne_start_of_tx ht) _ _ _

/-! ### The receiver -/

theorem Within.takeClash (h : Within s0 s) : Within s0 (takeClash s) :=
  Within.notice (h.peers (.quiet _ (Nat.zero_le _))) _

theorem Within.alignOn (h : Within s0 s) (p : PositionFields) : Within s0 (alignOn p s) :=
  h.orSelf fun _ => .becomeAligned (h.epoch ⟨rfl, id⟩)

theorem Within.summarise (h : Within s0 s) (p : PositionFields) (c : TagClass) : Within s0 (summarise p c s) :=
  h.orSelf fun _ => h.epoch ⟨rfl, id⟩

theorem Within.offerSource (h : Within s0 s) (a : Address) (p : PositionFields) (c : TagClass) :
    Within s0 (offerSource a p c s) := h.orSelf fun _ => .tryMatch (h.coupling (by exact id))

theorem PeersKept.stored (t : PeerTable) (a : Address) {f : PeerEntry → PeerEntry} (hf : ∀ e, (f e).address = e.address)
    (hage : ∀ e, (f e).age = 0) : PeersKept t (t.modify a f) :=
  .modify t a hf fun e _ => by simp [hage e]

theorem Within.takePosition (h : Within s0 s) (a : Address) (p : PositionFields) : Within s0 (takePosition a p s) := by
  unfold Machine.takePosition
  have hs := (h.alignOn p).peers (.stored _ a (f := storePosition p (classOf p.tag (Machine.alignOn p s).epoch.count))
    (fun _ => rfl) fun _ => rfl)
  exact ((hs.absentCleared.summarise _ _).offerSource _ _ _).peerNotice a

theorem Within.takeStatus (h : Within s0 s) (a : Address) (f : StatusFields) : Within s0 (takeStatus a f s) := by
  unfold Machine.takeStatus
  have hs := h.peers (.stored _ a (f := storeStatus f) (fun _ => rfl) fun _ => rfl)
  exact hs.absentCleared.peerNotice a

theorem Within.deliverPeer (h : Within s0 s) (f : Frame) : Within s0 (deliverPeer f s) :=
  .ite (fun _ => h.takeClash) (h.orSelf fun _ => .ite (fun _ => h.takePosition _ _) (h.takeStatus _ _))

theorem Within.takeRequest (h : Within s0 s) (hd : s.link.health < 224) (f : Frame) : Within s0 (takeRequest f s) := by
  refine h.orSelf fun _ => ?_
  split
  · next hlt =>
    refine h.link fun _ b => { b with requests := ?_, silent := fun e => absurd e (Nat.ne_of_lt hd) }
    simpa using hlt
  · exact h.quieter (by exact { Quieter.refl _ with request := .inl (satSucc_le _ _) })

theorem Within.deliver (h : Within s0 s) (hd : s.link.health < 224) (f : Frame) : Within s0 (deliver f s) :=
  .ite (fun _ => h.deliverPeer f) (h.orSelf fun _ => h.takeRequest hd f)

/-- An intact frame counted: at 32 the count starts again (R148). -/
theorem Within.countIntact (bits : List Bool) :
    Within s (Machine.intactCount32 (s.setLink { lineAfter bits s.link with intact := s.link.intact + 1 })) := by
  unfold Machine.intactCount32
  split
  · exact .easeHealth (Within.start.quieter (l := { lineAfter bits s.link with intact := 0 })
      (by exact { lineAfter_quieter bits s.link with intact := Nat.zero_le _ }))
  · next hne =>
    refine Within.start.link fun _ b => { b with intact := ?_ }
    have := b.intact
    simp only [State.setLink_link] at hne ⊢
    omega

theorem intactCount32_health_le (s : State) : (intactCount32 s).link.health ≤ s.link.health := by
  unfold intactCount32 easeHealth
  repeat' split
  all_goals simp

theorem Within.receiveIntact (hr : s.link.receiving = true) (f : Frame) (bits : List Bool) :
    Within s (receiveIntact f bits s) := by
  obtain ⟨-, hd, -⟩ := (receiving_iff _).1 hr
  exact (Within.countIntact bits).deliver ((intactCount32_health_le _).trans_lt hd) f

theorem Comes.discardFrame {s : State} (hr : s.link.receiving = true) (bits : List Bool) (low : Bool) :
    Comes s (discardFrame bits low s) := by
  obtain ⟨-, -, -, ht, -⟩ := (receiving_iff _).1 hr
  exact .worsenHealth (s := s) (l := waitIdle (lineAfter bits s.link)) 1 low ht
    (fun ⟨b1, b2, b3, b4, b5, b6, b7, b8, b9, bs⟩ => ⟨b1, b2, b3, b4, b5, b6, b7, b8, b9, bs⟩)
    (link_ne_start_of_receiving hr)

/-! ### The store -/

theorem Within.storeIdle (h : Within s0 s) (u : StoreUnit) : Within s0 (s.setStore (storeIdle u)) :=
  h.store (.inr (.inl rfl))

theorem Within.calVerified (hw : s.store.writing = some .cal) : Within s (calVerified s) := by
  unfold Machine.calVerified
  have h1 : Within s (s.setCal { s.cal with dirty := s.cal.dirty && s.store.calMarked }) := Within.start.cal ⟨id, id, id, id, .inl⟩
  have h2 := h1.storeIdle { (s.setCal { s.cal with dirty := s.cal.dirty && s.store.calMarked }).store with calOutcome := .verified }
  refine .conditionGone ?_ _
  unfold validateCal
  split
  · exact h2
  · have h3 := h2.pos (.playUnknown (WorkingCal.h { s.cal with dirty := s.cal.dirty && s.store.calMarked, valid := true }))
    refine h3.cal (c := { s.cal with dirty := s.cal.dirty && s.store.calMarked, valid := true }) ?_
    exact ⟨fun _ => abs_playUnknown_le _ _ _, id, id, id, fun _ => .inr hw⟩

theorem Within.setupVerified : Within s (setupVerified s) := by
  have h1 : Within s (s.setSetup { s.setup with dirty := s.setup.dirty && s.store.setupMarked }) := .setup .start ⟨rfl, id⟩
  exact .conditionGone (h1.storeIdle _) _

theorem Within.verifyStore {t : StoreTarget} (hw : s.store.writing = some t) (found : ReadBack) :
    Within s (verifyStore t found s) := by
  have calBad (a : Area CalRecord) : Within s (calFailed a s) := .notice (.storeIdle .start _) _
  have setupBad (a : Area Setup) : Within s (setupFailed a s) := .notice (.storeIdle .start _) _
  cases t <;> cases found
  · exact .calVerified hw
  · exact .ite (fun _ => .calVerified hw) (calBad _)
  · exact .start
  · exact .setupVerified
  · exact .start
  · exact .ite (fun _ => .setupVerified) (setupBad _)

theorem Within.loadStore (up : s.node.state = .startup) (stopped : s.epoch.running = false) : Within s (loadStore s) := by
  have h (k : FaultKind) (c : RecordCheck) {t : State} (ht : Within s t) : Within s (noticeIfBad k c t) :=
    .ite (fun _ => ht) (ht.notice k)
  exact h _ _ (h _ _ (.load up stopped))

/-! ### Requests -/

/-- A handler whose effect is a part of an event in a later node state, and leaves the link. -/
def Handler.Keeps (h : Handler) : Prop :=
  ∀ (s0 s : State) (r : Request), Within s0 s → s.node.state.later = true → Within s0 (h r s).1 ∧ (h r s).1.link = s.link

/-- A handler that changes nothing. -/
def Handler.Reads (h : Handler) : Prop := ∀ (r : Request) (s : State), (h r s).1 = s

/-- A refusal among a handler's tests (R188). -/
theorem keeps_refuse_or {c : Prop} [Decidable c] {why : RefusalReason} {x : State × Verdict} (h : Within s0 s)
    (hx : ¬c → Within s0 x.1 ∧ x.1.link = s.link) :
    Within s0 (if c then refuse why s else x).1 ∧ (if c then refuse why s else x).1.link = s.link := by
  split
  · exact ⟨h, rfl⟩
  · exact hx ‹_›

theorem takeable_link {r : Request} (h : takeable s = some r) :
    s.mainUp = true ∧ s.link.replies.length < 4 ∧ ∃ rest, s.link.requests = r :: rest := by
  unfold takeable at h
  split at h
  · next hg =>
    simp only [Bool.and_eq_true, decide_eq_true_eq] at hg
    obtain ⟨⟨up, room⟩, -⟩ := hg
    obtain ⟨rest, e⟩ := List.head?_eq_some_iff.1 h
    exact ⟨up, room, rest, e⟩
  · cases h

theorem Within.popRequest (h : Within s0 s) : Within s0 (popRequest s) := h.quieter (by exact { Quieter.refl _ with requests := by simp })

/-- The reply of a request that was taken, once its effect is made (R153). -/
theorem Within.appendReply {t : State} {r : Request} (ht : takeable s = some r) (h : Within s t) (hl : t.link = (Machine.popRequest s).link)
    (reply : Reply) : Within s (appendReply reply t) := by
  obtain ⟨-, room, rest, e⟩ := takeable_link ht
  refine h.link fun b0 b => ?_
  have hd : t.link.health ≠ 224 := by
    rw [hl]
    intro hh
    have := (b0.silent hh).2.2.2.2
    rw [e] at this
    cases this
  have hr : t.link.replies.length < 4 := by rw [hl]; exact room
  exact { b with replies := by simpa using hr, silent := fun e => absurd e hd }

theorem Within.served {code : Nat} {h : Handler} (hc : takenInStartup code = false) (hk : h.Keeps) : Within s (Machine.serve code h s) := by
  unfold Machine.serve
  split
  · next r ht =>
    refine Within.start.orSelf fun e => ?_
    obtain ⟨up, -⟩ := takeable_link ht
    have hp : Within s (Machine.popRequest s) := .popRequest .start
    have hj : Within s (Machine.judge h r (Machine.popRequest s)).1 ∧
        (Machine.judge h r (Machine.popRequest s)).1.link = (Machine.popRequest s).link := by
      refine keeps_refuse_or hp fun hs => keeps_refuse_or hp fun _ => hk s _ r hp ?_
      rcases s.mainUp_iff.1 up with hl | hst
      · exact hl
      · exact absurd ⟨hst, e ▸ hc⟩ hs
    exact hj.1.appendReply ht hj.2 _
  · exact .start

theorem Within.servedRead {code : Nat} {h : Handler} (hh : h.Reads) : Within s (Machine.serve code h s) := by
  unfold Machine.serve
  split
  · next r ht =>
    refine Within.start.orSelf fun _ => ?_
    have hj : (Machine.judge h r (Machine.popRequest s)).1 = Machine.popRequest s := by
      unfold Machine.judge
      repeat' split
      · rfl
      · rfl
      · exact hh r _
    unfold execute
    simp only
    rw [hj]
    exact Within.appendReply ht (.popRequest .start) rfl _
  · exact .start

theorem Within.serveUnknown : Within s (serveUnknown s) := by
  unfold Machine.serveUnknown
  split
  · next r ht => exact .ite (fun _ => .start) (Within.appendReply ht (.popRequest .start) rfl _)
  · exact .start

theorem Handler.Reads.sized {n : Nat} {h : Handler} (hh : h.Reads) : Handler.Reads (sized n h) := by
  intro r s
  unfold Machine.sized
  split
  · exact hh r s
  · rfl

theorem reads_reads (data : Request → State → List Byte) : Handler.Reads (reads data) := fun _ _ => rfl

theorem readsPart_reads (last : Nat) (data : Request → State → List Byte) : Handler.Reads (readsPart last data) :=
  .sized fun r s => by split <;> rfl

theorem readPeer_reads : Handler.Reads readPeer := .sized fun r s => by
  simp only
  split <;> rfl

theorem calRead_reads : Handler.Reads calRead := .sized fun r s => by split <;> rfl

theorem setupRead_reads : Handler.Reads setupRead := .sized fun r s => by
  split
  · rfl
  · split <;> rfl

theorem Handler.Keeps.sized {n : Nat} {h : Handler} (hh : h.Keeps) : Handler.Keeps (sized n h) := by
  intro s0 s r w hl
  unfold Machine.sized
  split
  · exact hh s0 s r w hl
  · exact ⟨w, rfl⟩

theorem clearKind_haltCount (f : FaultSupervisor) (k : FaultKind) : (clearKind f k).haltCount = f.haltCount := by
  unfold clearKind
  split <;> rfl

theorem clearFaults_haltCount (f : FaultSupervisor) : (clearFaults f).haltCount = f.haltCount := by
  have fold (l : List FaultKind) : ∀ f : FaultSupervisor, (l.foldl clearKind f).haltCount = f.haltCount := by
    induction l with
    | nil => exact fun _ => rfl
    | cons k l ih => exact fun f => (ih _).trans (clearKind_haltCount f k)
  exact fold _ f

theorem clearFaultsHandler_keeps : Handler.Keeps clearFaultsHandler :=
  .sized fun _ _ _ w _ => ⟨w.moveFaults (clearFaults_haltCount _), by simp⟩

theorem Within.answerGate (h : Within s0 s) {g : MotionGate} (hg : g.state = s.gate.state) :
    Within s0 (answerGate s (s.setGate g)).1 ∧ (answerGate s (s.setGate g)).1.link = s.link :=
  ⟨h.judge (f := s.faults) hg id, by simp [Machine.answerGate]⟩

theorem takeGrant_state (jog : Bool) (g : MotionGate) : (takeGrant jog g).state = g.state := by
  unfold takeGrant
  split <;> rfl

theorem releaseGrant_keeps : Handler.Keeps releaseGrant := fun _ _ _ w _ =>
  keeps_refuse_or w fun _ => keeps_refuse_or w fun _ => w.answerGate (takeGrant_state _ _)

theorem releaseWithdraw_keeps : Handler.Keeps releaseWithdraw := fun _ _ _ w _ =>
  keeps_refuse_or w fun _ => keeps_refuse_or w fun _ => w.answerGate rfl

theorem Within.enterHoming (h : Within s0 s) (mode : HomingMode) (hl : s.node.state.later = true) (ho : s.operating = false) :
    Within s0 (enterHoming mode s) := by
  have hi : s.inHoming = false := by
    simp only [State.operating, Bool.or_eq_false_iff] at ho
    exact ho.1
  unfold Machine.enterHoming
  exact .testWaitSet (.pos (.move (.homingOp (h.homing (.inl hi)) _) (h.active hl) (by rfl)) (.undrifted (by simp [PositionUnit.core])))

theorem enterHoming_link (mode : HomingMode) (s : State) : (enterHoming mode s).link = s.link := by simp [enterHoming]

theorem homeArm_keeps : Handler.Keeps homeArm := fun _ _ _ w hl =>
  keeps_refuse_or w fun ho => keeps_refuse_or w fun _ => keeps_refuse_or w fun _ => keeps_refuse_or w fun _ =>
    keeps_refuse_or w fun _ => ⟨w.enterHoming .home hl (by simpa using ho), enterHoming_link _ _⟩

theorem homeLearn_keeps : Handler.Keeps homeLearn := fun _ _ _ w hl =>
  keeps_refuse_or w fun ho => keeps_refuse_or w fun _ => keeps_refuse_or w fun _ =>
    ⟨w.enterHoming .learn hl (by simpa using ho), enterHoming_link _ _⟩

theorem homeAbort_keeps : Handler.Keeps homeAbort := fun _ _ _ w _ =>
  keeps_refuse_or w fun _ => keeps_refuse_or w fun _ => ⟨w.endHoming _ _, by simp⟩

theorem calInRange_zeroed {u : PositionUnit} {c : CalRecord} (k : calInRange c) : calInRange (zeroedCal u c) := by
  have hz := home32_inRange u.lastE
  simp only [calInRange, calRecordOk, Bool.and_eq_true, zeroedCal] at k ⊢
  simp_all

theorem Within.zeroEffect (h : Within s0 s) (a : s0.Active) : Within s0 (zeroEffect s) := by
  unfold Machine.zeroEffect
  have h1 : Within s0 (s.setCal { s.cal with data := zeroedCal s.pos s.cal.data }) :=
    h.cal ⟨id, calInRange_zeroed, id, id, .inl⟩
  exact .enterReferenced (.node h1.markCal.setAbsolute (by rfl)) a

theorem zeroEffect_link (s : State) : (zeroEffect s).link = s.link := by simp [zeroEffect]

theorem zeroHere_keeps : Handler.Keeps zeroHere := fun _ _ _ w hl =>
  keeps_refuse_or w fun _ => keeps_refuse_or w fun _ => keeps_refuse_or w fun _ => keeps_refuse_or w fun _ =>
    keeps_refuse_or w fun _ => ⟨w.zeroEffect (w.active hl), zeroEffect_link _⟩

theorem acceptRestore_keeps : Handler.Keeps acceptRestore := fun s0 s r w hl => by
  unfold Machine.acceptRestore
  refine keeps_refuse_or w fun _ => ?_
  split
  · exact ⟨w, rfl⟩
  · next c _ =>
    refine keeps_refuse_or w fun _ => keeps_refuse_or w fun hr => ⟨?_, by simp [acceptEffect]⟩
    simp only [Bool.or_eq_true, Bool.not_eq_true', not_or, Bool.not_eq_false] at hr
    obtain ⟨-, hr⟩ := hr
    have hb := inRange_iff.1 hr
    unfold turnOf turnMin turnMax at hb
    have h1 : Within s0 (s.setPos { s.pos with p := chosenCount c (r.arg 0 == 1) s.pos.p }) := by
      refine w.pos (.turns (n := (if r.arg 0 == 1 then c.retainedSide else c.vernierSide) - c.decideTurn) ?_ ?_ ?_)
      · unfold chosenCount
        omega
      · unfold countMin
        omega
      · unfold countMax
        omega
    exact .enterReferenced (.node h1.setAbsolute.resolveConflict (by rfl)) (w.active hl)

theorem sweepStart_keeps : Handler.Keeps sweepStart := fun s0 s _ w hl => by
  refine keeps_refuse_or w fun _ => keeps_refuse_or w fun _ => keeps_refuse_or w fun _ => ⟨?_, by simp [beginSweep]⟩
  have h1 : Within s0 (s.setSweep { SweepRecord.start with outcome := .running }) :=
    w.sweep fun _ => ⟨by simp [SweepRecord.start], Nat.zero_le _, Nat.zero_le _⟩
  unfold beginSweep
  exact .work (.pos (h1.move (w.active hl) (by rfl)) (.undrifted (by simp [PositionUnit.core]))) _

/-- What a sweep's end may change of the calibration keeps it in range (R100, R120). -/
def SweptFrom (d c : CalRecord) : Prop :=
  d.ratio = c.ratio ∧ d.window = c.window ∧ d.lm = c.lm ∧ (calInRange c → calInRange d)

theorem mem_setIfInBounds {n : Nat} {α : Type} {v : Vector α n} {i : Nat} {x y : α} (h : y ∈ (v.setIfInBounds i x).toList) :
    y = x ∨ y ∈ v.toList := by
  rw [Vector.mem_toList_iff, Vector.mem_iff_getElem] at h
  obtain ⟨j, hj, e⟩ := h
  rw [Vector.getElem_setIfInBounds] at e
  split at e
  · exact .inl e.symm
  · exact .inr (by rw [Vector.mem_toList_iff, ← e]; exact Vector.getElem_mem _)

/-- A record stays in range when a bin takes a value of its range (R100). -/
theorem calInRange_setBin {c : CalRecord} (b : Nat) {x : Int} (m : BinMask) (hx : inRange (-2048) 2047 x = true) (k : calInRange c) :
    calInRange { c with corr := c.corr.setIfInBounds b x, coverage := m } := by
  simp only [calInRange, calRecordOk, Bool.and_eq_true, List.all_eq_true] at k ⊢
  have hc : ∀ y ∈ (c.corr.setIfInBounds b x).toList, inRange (-2048) 2047 y = true := by
    intro y hy
    rcases mem_setIfInBounds hy with rfl | hy
    · exact hx
    · simp_all
  simp_all

theorem clampInt_inRange {lo hi : Int} (h : lo ≤ hi) (x : Int) : inRange lo hi (clampInt lo hi x) = true := by
  rw [inRange_iff, clampInt_eq h]
  omega

theorem endBins_swept (w : SweepRecord) (least : Nat) (c : CalRecord) : SweptFrom (endBins w least c).data c := by
  have fold (l : List Nat) : ∀ x : SweepEnd, SweptFrom x.data c → SweptFrom (l.foldl (endBin w least) x).data c := by
    induction l with
    | nil => exact fun _ => id
    | cons b l ih =>
      refine fun x hx => ih _ ?_
      obtain ⟨hr, hw, hl, hk⟩ := hx
      unfold endBin
      simp only
      split
      · exact ⟨hr, hw, hl, fun k => calInRange_setBin _ _ (clampInt_inRange (by decide) _) (hk k)⟩
      · exact ⟨hr, hw, hl, hk⟩
  exact fold _ ⟨c, 0, 0⟩ ⟨rfl, rfl, rfl, id⟩

theorem Within.endSweep (h : Within s0 s) (a : s0.Active) : Within s0 (endSweep s) := by
  obtain ⟨hr, hw, hl, hk⟩ := endBins_swept s.sweep s.setup.latched.sweepMin s.cal.data
  unfold Machine.endSweep
  simp only
  refine .enterReferenced (.ite (fun _ => h.sweep id) (.markCal (.cal (h.sweep id) ?_))) a
  exact ⟨fun b => b.trans_eq (by unfold WorkingCal.h; rw [hl]; rfl), hk, fun e => by rw [hr]; exact e, fun e => by rw [hw]; exact e, .inl⟩

theorem endSweep_link (s : State) : (endSweep s).link = s.link := by simp [endSweep, apply_ite State.link]

theorem sweepEnd_keeps : Handler.Keeps sweepEnd := fun _ _ _ w hl =>
  keeps_refuse_or w fun _ => keeps_refuse_or w fun _ => ⟨w.endSweep (w.active hl), endSweep_link _⟩

theorem sweepAbort_keeps : Handler.Keeps sweepAbort := fun _ _ _ w hl =>
  keeps_refuse_or w fun _ => keeps_refuse_or w fun _ => ⟨(w.dropSweep _).enterReferenced (w.active hl), by simp⟩

/-! ### The writes -/

theorem inRange_intOfBytes_of_length_four {v : List Byte} (hv : v.length = 4) : inRange int32Min int32Max (intOfBytes v) = true := by
  rw [inRange_iff]
  have lo := BitVec.le_toInt (BitVec.ofNat (8 * v.length) (natOfBytes v))
  have hi := BitVec.toInt_lt (x := BitVec.ofNat (8 * v.length) (natOfBytes v))
  rw [show 2 ^ (8 * v.length - 1) = (2147483648 : Int) by rw [hv]; norm_num] at lo hi
  unfold intOfBytes int32Min int32Max
  omega

theorem writeChecked_eq_stored {α : Type} {ok : Bool} {x d : α} {cl : Bool} :
    writeChecked ok x = .stored d cl ↔ ok = true ∧ x = d ∧ cl = false := by
  unfold writeChecked
  cases ok <;> simp [eq_comm]

theorem writeClamped_eq_stored {α : Type} {lo hi x : Nat} {put : Nat → α} {d : α} {cl : Bool} :
    writeClamped lo hi x put = .stored d cl ↔ put (clampNat lo hi x) = d ∧ (clampNat lo hi x != x) = cl := by
  simp [writeClamped]

/-- What an accepted calibration write keeps (R100): the ranges, and that ratio and window are set. -/
structure CalWritten (c d : CalRecord) : Prop where
  ranges : calInRange c → calInRange d
  ratio : c.ratio.isSome = true → d.ratio.isSome = true
  window : c.window.isSome = true → d.window.isSome = true

theorem le_clampNat {lo hi : Nat} (h : lo ≤ hi) (x : Nat) : lo ≤ clampNat lo hi x := (clampNat_bounds h x).1

theorem clampNat_le {lo hi : Nat} (h : lo ≤ hi) (x : Nat) : clampNat lo hi x ≤ hi := (clampNat_bounds h x).2

/-- The ranges of a record, one by one (R100). -/
theorem calInRange_iff (c : CalRecord) :
    calInRange c ↔ ratioOk (c.ratio.getD ⟨16, 1⟩) = true ∧ windowOk (c.window.getD ⟨0, 1⟩) = true ∧
      inRange int32Min int32Max c.z = true ∧ inRange (-8192) 8191 c.c = true ∧
      c.corr.toList.all (inRange (-2048) 2047) = true ∧ c.lm ≤ 4095 ∧ c.m ≤ 65535 ∧ (256 ≤ c.v ∧ c.v ≤ 8191) ∧
      (256 ≤ c.driftLimit ∧ c.driftLimit ≤ 65535) ∧ inRange int32Min int32Max c.h = true ∧
      (16 ≤ c.homeCoarseTol ∧ c.homeCoarseTol ≤ 4096) ∧ (256 ≤ c.guardMin ∧ c.guardMin ≤ 8191) ∧
      64 ≤ c.homeResidualTol ∧ c.homeResidualTol ≤ 4096 := by
  simp only [calInRange, calRecordOk, Option.any_some, Bool.and_eq_true, decide_eq_true_eq, and_assoc]

/-- An accepted write of a calibration field keeps the record in range, and its L_m unless it is field 06h. -/
theorem calFieldWrite_stored {c d : CalRecord} {n idx : Nat} {v : List Byte} {cl : Bool}
    (hv : calValueSize n = some v.length) (h : calFieldWrite c n idx v = .stored d cl) :
    CalWritten c d ∧ (n ≠ 0x06 → d.lm = c.lm) := by
  have four (e : some 4 = some v.length) := inRange_intOfBytes_of_length_four (v := v) (by simpa using e.symm)
  unfold calFieldWrite at h
  split at h
  all_goals simp only [writeChecked_eq_stored, writeClamped_eq_stored, FieldWrite.stored.injEq, reduceCtorEq] at h
  -- Fields 01h and 07h, the ratio and the window: set, by their rules.
  case h_1 | h_7 =>
    obtain ⟨ok, rfl, -⟩ := h
    refine ⟨⟨?_, ?_, ?_⟩, fun _ => rfl⟩ <;> simp +contextual [calInRange_iff, ok]
  -- The numbers of four bytes: every value is in range.
  case h_2 | h_12 =>
    obtain ⟨rfl, -⟩ := h
    have := four hv
    refine ⟨⟨?_, id, id⟩, fun _ => rfl⟩
    simp +contextual [calInRange_iff, this]
  -- The angles and residues: no range of their own.
  case h_3 | h_13 =>
    obtain ⟨rfl, -⟩ := h
    exact ⟨⟨id, id, id⟩, fun _ => rfl⟩
  case h_11 =>
    obtain ⟨-, rfl, -⟩ := h
    exact ⟨⟨id, id, id⟩, fun _ => rfl⟩
  case h_4 =>
    obtain ⟨ok, rfl, -⟩ := h
    refine ⟨⟨?_, id, id⟩, fun _ => rfl⟩
    simp +contextual [calInRange_iff, ok]
  case h_5 =>
    obtain ⟨rfl, -⟩ := h
    exact ⟨⟨calInRange_setBin _ _ (clampInt_inRange (by decide) _), id, id⟩, fun _ => rfl⟩
  -- The numbers clamped to their bounds; L_m is field 06h.
  case h_6 =>
    obtain ⟨rfl, -⟩ := h
    refine ⟨⟨?_, id, id⟩, fun hne => absurd rfl hne⟩
    simp +contextual [calInRange_iff, clampNat_le]
  case h_8 | h_9 | h_10 | h_14 | h_15 | h_16 =>
    obtain ⟨rfl, -⟩ := h
    refine ⟨⟨?_, id, id⟩, fun _ => rfl⟩
    simp +contextual [calInRange_iff, clampNat_le, le_clampNat]

theorem roundPeriod_ok (x : Nat) : 250 ≤ roundPeriod x ∧ roundPeriod x ≤ 4000 ∧ roundPeriod x % 50 = 0 := by
  have := clampNat_bounds (lo := 250) (hi := 4000) (by decide) x
  unfold roundPeriod
  omega

/-- An allowed action set for its kind keeps every kind's action allowed (R175). -/
theorem actionsOk_set {s : Setup} {k : FaultKind} {a : Action} (ha : actionAllowed k a = true) (h : actionsOk s = true) :
    actionsOk { s with actions := s.actions.set (kindIndex k) a } = true := by
  unfold actionsOk at h ⊢
  rw [List.all_eq_true] at h ⊢
  intro j hj
  by_cases e : (kindIndex k).val = (kindIndex j).val
  · have hkj : k = j := by
      revert e
      cases k <;> cases j <;> simp [kindIndex]
    subst hkj
    simpa using ha
  · simpa [Vector.getElem_set_ne _ _ e] using h j hj

/-- An accepted write of a setup field keeps the record's rules (R105, R106). -/
theorem setupFieldWrite_stored {own : Address} {s d : Setup} {n kind : Nat} {v : List Byte} {cl : Bool}
    (hv : setupSizeOk n v.length = true) (h : setupFieldWrite own s n kind v = .stored d cl)
    (k : setupRecordOk own s = true) : setupRecordOk own d = true := by
  simp only [setupRecordOk, Bool.and_eq_true] at k ⊢
  obtain ⟨⟨⟨⟨hm, hs⟩, hw⟩, ha⟩, hn⟩ := k
  unfold setupFieldWrite at h
  split at h
  -- The members: the rules of the lists are tested as a whole.
  case h_1 =>
    simp only [writeChecked_eq_stored, Bool.and_eq_true] at h
    obtain ⟨⟨⟨⟨-, hm'⟩, hs'⟩, hw'⟩, rfl, -⟩ := h
    exact ⟨⟨⟨⟨hm', hs'⟩, hw'⟩, ha⟩, hn⟩
  case h_2 =>
    split at h
    · simp only [FieldWrite.stored.injEq] at h
      obtain ⟨rfl, -⟩ := h
      exact ⟨⟨⟨⟨hm, rfl⟩, hw⟩, ha⟩, hn⟩
    · simp only [writeChecked_eq_stored] at h
      obtain ⟨hs', rfl, -⟩ := h
      exact ⟨⟨⟨⟨hm, hs'⟩, hw⟩, ha⟩, hn⟩
  case h_3 =>
    simp only [writeChecked_eq_stored] at h
    obtain ⟨hw', rfl, -⟩ := h
    refine ⟨⟨⟨⟨hm, hs⟩, ?_⟩, ha⟩, hn⟩
    simp only [waitOk, Bool.and_eq_true]
    exact ⟨by simpa [setupSizeOk] using hv, hw'⟩
  case h_4 =>
    simp only [FieldWrite.stored.injEq] at h
    obtain ⟨rfl, -⟩ := h
    refine ⟨⟨⟨⟨hm, hs⟩, hw⟩, ha⟩, ?_⟩
    have := roundPeriod_ok (natOfBytes v)
    simp_all [setupNumbersOk]
  case h_9 =>
    split at h
    · simp only [writeChecked_eq_stored] at h
      obtain ⟨hk, rfl, -⟩ := h
      exact ⟨⟨⟨⟨hm, hs⟩, hw⟩, actionsOk_set hk ha⟩, hn⟩
    · cases h
  case h_10 =>
    simp only [writeChecked_eq_stored] at h
    obtain ⟨-, rfl, -⟩ := h
    exact ⟨⟨⟨⟨hm, hs⟩, hw⟩, ha⟩, hn⟩
  case h_12 | h_13 =>
    simp only [FieldWrite.stored.injEq] at h
    obtain ⟨rfl, -⟩ := h
    exact ⟨⟨⟨⟨hm, hs⟩, hw⟩, ha⟩, hn⟩
  case h_19 => cases h
  -- The numbers clamped to their bounds.
  all_goals
    simp only [writeClamped_eq_stored] at h
    obtain ⟨rfl, -⟩ := h
    refine ⟨⟨⟨⟨hm, hs⟩, hw⟩, ha⟩, ?_⟩
    simp only [setupNumbersOk, Bool.and_eq_true, decide_eq_true_eq] at hn ⊢
    simp [hn, clampNat_le, le_clampNat]

theorem markCal_setPos (s : State) (u : PositionUnit) : markCal (s.setPos u) = (markCal s).setPos u := by
  unfold markCal
  by_cases h : s.store.writing = some .cal
  · rw [if_pos h, if_pos (show (s.setPos u).store.writing = some .cal from h)]
    rfl
  · rw [if_neg h, if_neg (show ¬(s.setPos u).store.writing = some .cal from h)]
    rfl

theorem markCal_h (s : State) : (markCal s).cal.h = s.cal.h := by
  unfold markCal
  simp only
  split <;> rfl

theorem Within.storeCalField {d : CalRecord} (h : Within s0 s) {n : Nat} (k : CalWritten s.cal.data d) (hl : n ≠ 0x06 → d.lm = s.cal.data.lm) :
    Within s0 (storeCalField n d s) := by
  unfold Machine.storeCalField playAfterWrite
  by_cases e : n = 0x06
  · have h1 := h.pos (.playUnknown (WorkingCal.h { s.cal with data := d }))
    have h2 : Within s0 ((s.setPos (playUnknown (WorkingCal.h { s.cal with data := d }) s.pos)).setCal { s.cal with data := d }) :=
      h1.cal ⟨fun _ => abs_playUnknown_le _ _ _, k.ranges, k.ratio, k.window, .inl⟩
    have hp : (Machine.markCal (s.setCal { s.cal with data := d })).pos = s.pos := by simp
    rw [if_pos e, markCal_h, hp, ← markCal_setPos]
    exact h2.markCal
  · rw [if_neg e]
    exact .markCal (h.cal ⟨fun b => b.trans_eq (by unfold WorkingCal.h; rw [hl e]), k.ranges, k.ratio, k.window, .inl⟩)

theorem storeCalField_link (n : Nat) (d : CalRecord) (s : State) : (storeCalField n d s).link = s.link := by
  simp [storeCalField, playAfterWrite, apply_ite State.link]

theorem calWriteForm_size {r : Request} (h : calWriteForm r = true) : calValueSize (r.arg 0) = some (r.args.drop 2).length := by
  simp only [calWriteForm, Bool.and_eq_true, decide_eq_true_eq] at h
  obtain ⟨⟨-, h⟩, -⟩ := h
  cases e : calValueSize (r.arg 0) with
  | none => simp [e] at h
  | some n =>
    simp only [e, Option.any_some, beq_iff_eq] at h
    simp [h]

theorem calWrite_keeps : Handler.Keeps calWrite := fun s0 s r w _ => by
  refine keeps_refuse_or w fun _ => keeps_refuse_or w fun hf => keeps_refuse_or w fun _ => ?_
  split
  · exact ⟨w, rfl⟩
  · next d cl e =>
    obtain ⟨k, hl⟩ := calFieldWrite_stored (calWriteForm_size (by simpa using hf)) e
    exact ⟨w.storeCalField k hl, storeCalField_link _ _ _⟩

theorem setupWriteForm_size {r : Request} {s : State} (h : setupWriteForm r s = true) :
    setupSizeOk (r.arg 0) (r.args.drop 2).length = true := by
  simp only [setupWriteForm, Bool.and_eq_true] at h
  simpa using h.2

theorem setupWrite_keeps : Handler.Keeps setupWrite := fun s0 s r w _ => by
  refine keeps_refuse_or w fun _ => keeps_refuse_or w fun hf => ?_
  split
  · exact ⟨w, rfl⟩
  · next d cl e =>
    have h1 : Within s0 (s.setSetup { s.setup with image := d, dirty := true }) :=
      w.setup ⟨rfl, setupFieldWrite_stored (setupWriteForm_size (by simpa using hf)) e⟩
    exact ⟨h1.orSelf fun _ => h1.store (.of_writing rfl), by simp [storeSetupField, apply_ite State.link]⟩

theorem storeHandler_keeps : Handler.Keeps storeHandler := fun s0 s r w hl => by
  have hb : s0.Begun := (w.active hl).2
  refine keeps_refuse_or w fun _ => ?_
  split
  · exact ⟨w, rfl⟩
  · next t _ =>
    refine keeps_refuse_or w fun _ => keeps_refuse_or w fun hu => ?_
    cases t
    · refine ⟨w.store (.inr (.inr ⟨hb, fun _ => ?_⟩)), rfl⟩
      simpa [calUnset, Option.isSome_iff_ne_none, not_or] using hu
    · exact ⟨w.store (.inr (.inr ⟨hb, fun e => by cases e⟩)), rfl⟩

theorem restartHandler_keeps : Handler.Keeps restartHandler := fun _ _ _ w _ =>
  keeps_refuse_or w fun _ => keeps_refuse_or w fun _ => ⟨w.restart true, rfl⟩

/-! ### Every command -/

theorem conclude_judged (s0 s : State) : conclude s0 (judgeGate s0 s) = conclude s0 s := by
  rw [judgeGate_eq, conclude_eq, conclude_eq]
  simp only
  rw [gateAfter_judged]
  rfl

theorem trackRecord_falls (q : Quadrant) (r : RetainedRecord) :
    r.validity.Falls (trackRecord q r).validity ∧ (trackRecord q r).reentries = r.reentries := by
  unfold trackRecord changeTurn
  simp only
  repeat' split
  all_goals first
    | exact ⟨.refl _, rfl⟩
    | exact ⟨downgrade_falls _ _, downgrade_reentries _ _⟩

theorem loseBackup_falls (r : RetainedRecord) :
    r.validity.Falls (loseBackup r).validity ∧ (loseBackup r).reentries = r.reentries := by
  unfold loseBackup
  split
  · exact ⟨.refl _, rfl⟩
  · exact ⟨.inr (.inr rfl), rfl⟩

theorem trackerSlow_bounded {t : Tracker} (h : t.Bounded) : (trackerSlow t).Bounded := by
  unfold trackerSlow
  split <;> exact h

theorem trackGood_bounded (changed : Bool) (t : Tracker) : (trackGood changed t).Bounded := by
  unfold trackGood
  split
  · exact ⟨Nat.zero_le _, Nat.zero_le _⟩
  · exact trackerSlow_bounded ⟨satSucc_le _ _, Nat.zero_le _⟩

theorem RetKept.collapse (d : RetentionDomain) : RetKept d (collapse d) :=
  ⟨.inl rfl, (loseBackup_falls _).1, by simp [Machine.collapse, loseBackup_falls], id⟩

theorem RetKept.trackerFailed3 (d : RetentionDomain) : RetKept d (trackerFailed3 d) := by
  unfold Machine.trackerFailed3
  split
  · exact ⟨.inl rfl, downgrade_falls _ _, by simp [downgrade_reentries], id⟩
  · exact ⟨.inl rfl, .refl _, id, id⟩

/-- The commands that do not serve a request. -/
theorem exec_comes_event (c : Instr) (s : State) (hc : requestCode c = none) :
    ∃ u, exec c s = .next (conclude s u) ∧ Comes s u := by
  have self := Within.start (s0 := s)
  cases c
  case smpRisingEdge i =>
    refine ⟨_, rfl, .within ?_⟩
    exact .ite (fun hr => (self.pins _).risingEdge (.inl hr) i) (self.pins _)
  case smpFallingEdge =>
    refine ⟨_, rfl, .within ?_⟩
    split
    · exact (self.pins _).epoch (.fallingEdge _)
    · exact self.pins _
  case periodTimerExpiry => exact ⟨_, rfl, .ifWithin fun _ => self.epoch ⟨rfl, id⟩⟩
  case holdExpiry => exact ⟨_, rfl, .ifWithin fun _ => self.epoch ⟨rfl, id⟩⟩
  case sampleLineStuck i =>
    refine ⟨_, rfl, .ifWithin fun hg => ?_⟩
    simp only [Bool.and_eq_true] at hg
    refine Within.sampleInstant ((self.notice _).epoch ?_) (.inl hg.1.1) false i
    exact ⟨rfl, fun ⟨_, b, _, d⟩ => ⟨Nat.zero_le _, b, Nat.zero_le _, d⟩⟩
  case freePeriodExpiry i =>
    refine ⟨_, rfl, .ifWithin fun hg => ?_⟩
    simp only [Bool.and_eq_true] at hg
    exact self.sampleInstant (.inl hg.1.1) false i
  case rejoinArmed => exact ⟨_, rfl, .ifWithin fun _ => self.epoch ⟨rfl, id⟩⟩
  case syncedRun16 => exact ⟨_, rfl, .within self.syncedRun16⟩
  case alignmentTimeout => exact ⟨_, rfl, .within self.alignmentTimeout⟩
  case realignment =>
    exact ⟨_, rfl, .within (self.epoch ⟨realignNow_running _, fun ⟨a, b, c, d⟩ => realignNow_bounded ⟨a, b, Nat.le_succ_of_le c, d⟩⟩)⟩
  case encoderReadComplete w => exact ⟨_, rfl, .within (self.readComplete w)⟩
  case encoderReadTimeout p ack => exact ⟨_, rfl, .within (self.failReading p ack _)⟩
  case motorFailureRun3 => exact ⟨_, rfl, .within (.ite (fun _ => self) self.motorFailureNotice)⟩
  case motorGoodRun8 => exact ⟨_, rfl, .within self.motorGoodGone⟩
  case coarseFailureRun3 => exact ⟨_, rfl, .within (.ite (fun _ => self) self.coarseFailureNotice)⟩
  case coarseGoodRun8 => exact ⟨_, rfl, .within self.coarseGoodGone⟩
  case portPresenceTimeout p => exact ⟨_, rfl, .within (self.portPresence p)⟩
  case driftRun3 => exact ⟨_, rfl, .within self.driftRun3⟩
  case couplingLost => exact ⟨_, rfl, .within self.couplingLostOp⟩
  case peerAbsent a => exact ⟨_, rfl, .within (self.peerAbsentOp a)⟩
  case quietRun64 => exact ⟨_, rfl, .within self.quietRun64Op⟩
  case retainEntry cause low => exact ⟨_, rfl, .ite fun up => .retain (.self s) rfl (.inl up) _ _⟩
  case trackerReadStart => exact ⟨_, rfl, .ifWithin fun _ => self.ret ⟨.inl rfl, .refl _, id, id⟩⟩
  case trackerReadGood w =>
    exact ⟨_, rfl, .ifWithin fun _ => self.ret ⟨.inl rfl, (trackRecord_falls _ _).1, by simp [trackRecord_falls],
      fun _ => trackGood_bounded _ _⟩⟩
  case trackerReadFailed e =>
    refine ⟨_, rfl, .ifWithin fun _ => ?_⟩
    have hr : RetKept s.ret { s.ret with tracker := trackFailed s.ret.tracker } :=
      ⟨.inl rfl, .refl _, id, fun _ => ⟨Nat.zero_le _, satSucc_le _ _⟩⟩
    exact (self.ret hr).ret (.trackerFailed3 { s.ret with tracker := trackFailed s.ret.tracker })
  case trackerUnchanged64 =>
    exact ⟨_, rfl, .ifWithin fun _ => self.ret ⟨.inl rfl, .refl _, id, trackerSlow_bounded⟩⟩
  case trackerFailedRun3 => exact ⟨_, rfl, .ifWithin fun _ => self.ret (.trackerFailed3 _)⟩
  case backupCollapse good =>
    exact ⟨_, rfl, .within (.ite (fun hs => ((self.pins _).ret (.collapse _)).down hs) (self.pins _))⟩
  case restartDwellExpiry => exact ⟨_, rfl, .ifWithin fun _ => self.ret ⟨.inl rfl, .refl _, id, id⟩⟩
  case retainExit straps => exact ⟨_, rfl, .ite fun hs => .startup hs.1 straps⟩
  case offReturn how => exact ⟨_, rfl, .ite fun hs => .back hs how⟩
  case storeLoadComplete => exact ⟨_, rfl, .ifWithin fun ⟨up, _, stopped⟩ => .loadStore up stopped⟩
  case selfCheckReadback a b => exact ⟨_, rfl, .ifWithin fun _ => (self.selfCheck _).quieter (by exact { Quieter.refl s.link with })⟩
  case backupLowRaise => exact ⟨_, rfl, .ifWithin fun _ => self.notice _⟩
  case backupLowClear => exact ⟨_, rfl, .ifWithin fun _ => (self.pins _).conditionGone _⟩
  case linkJoin => exact ⟨_, rfl, .ifWithin fun _ => (self.quieter (by exact { Quieter.refl s.link with })).placeStatus⟩
  case frameTxStart =>
    refine ⟨_, rfl, .ifWithin fun hb => ?_⟩
    split
    · exact .beginFrame hb
    · exact self
  case arbitrationLost sent =>
    refine ⟨_, rfl, .within ?_⟩
    split
    · next ht => exact self.orSelf fun _ => .loseArbitration ht _
    · exact self
  case bitError low sent =>
    refine ⟨_, rfl, ?_⟩
    split
    · next ht => exact .ite fun _ => .abortTx ht _ _
    · exact .within self
  case frameTxComplete low =>
    refine ⟨_, rfl, ?_⟩
    split
    · next ht => exact .completeTx ht _
    · exact .within self
  case frameReceived bits =>
    refine ⟨_, rfl, .within ?_⟩
    split
    · exact .ite (fun hr => .receiveIntact hr _ _) (self.watchLine bits)
    · exact self
  case frameDiscard bits low =>
    refine ⟨_, rfl, ?_⟩
    split
    · split
      · next hr => exact .discardFrame hr _ _
      · exact .within (self.watchLine bits)
    · exact .within self
  case intactCount32 => exact ⟨_, rfl, .within self.intactCount32⟩
  case linkRejoin => exact ⟨_, rfl, .within self.linkRejoin⟩
  case lineStuck => exact ⟨_, rfl, .ifWithin fun _ => self.quieter (by exact { Quieter.refl s.link with stuck := .inl (satSucc_le _ _) })⟩
  case beacon => exact ⟨_, rfl, .within self.beaconDue⟩
  case retryTimerExpiry => exact ⟨_, rfl, .ifWithin fun _ => (self.faults (by rfl) (by exact id)).retryTest⟩
  case rdyLevelLow =>
    refine ⟨judgeGate s (if s.mainUp && s.gate.rdyLevel == .high then
      (s.setGate { s.gate with rdyLevel := .low, grant := false, jog := false }).setFaults
        { s.faults with haltCount := satSucc 255 s.faults.haltCount } else s), ?_, .within ?_⟩
    · rw [conclude_judged]
      rfl
    · split
      · exact self.judge rfl fun _ => satSucc_le _ _
      · exact self.judge (g := s.gate) (f := s.faults) rfl id
  case rdyLevelHigh =>
    refine ⟨judgeGate s (if s.mainUp && s.gate.rdyLevel == .low && !s.rdyHeld then
      s.setGate { s.gate with rdyLevel := .high } else s), ?_, .within ?_⟩
    · rw [conclude_judged]
      rfl
    · split
      · exact self.judge (f := s.faults) rfl id
      · exact self.judge (g := s.gate) (f := s.faults) rfl id
  case settleExpiry =>
    refine ⟨_, rfl, .ifWithin fun ⟨_, hp⟩ => self.gate fun _ => ⟨fun e => ?_, fun _ => hp⟩⟩
    cases e
  case biteExpiry =>
    refine ⟨_, rfl, .ifWithin fun _ => self.gate fun _ => ?_⟩
    have hp (g : GateState) : (s.setGate { s.gate with state := g }).permission = s.permission := permission_gate s g
    unfold GateFollowsPermission
    rw [hp]
    cases s.permission <;> simp
  case storeVerify found =>
    refine ⟨_, rfl, .within ?_⟩
    split
    · next hw => exact self.orSelf fun _ => .verifyStore hw found
    · exact self
  case unknownRequest => exact ⟨_, rfl, .within .serveUnknown⟩
  case lineIdle => exact ⟨_, rfl, .ifWithin fun _ => self.lineIdle.countIdle⟩
  case lossOfVmainInRetain low =>
    refine ⟨_, rfl, .ifWithin fun hs => .down ((self.pins _).ret ?_) hs⟩
    split
    · exact .collapse _
    · exact ⟨.inl rfl, .refl _, id, id⟩
  case retentionStateLoss => exact ⟨_, rfl, .ifWithin fun _ => self.ret ⟨.inl rfl, .refl _, id, id⟩⟩
  case storeCrcWritten =>
    refine ⟨_, rfl, .within ?_⟩
    split
    · refine .ite (fun _ => self) (self.store (.of_writing ?_))
      unfold writeCrc
      split <;> rfl
    · exact self
  all_goals cases hc

/-- The commands that serve a request. -/
theorem exec_comes_request (c : Instr) (s : State) (hc : requestCode c ≠ none) :
    ∃ u, exec c s = .next (conclude s u) ∧ Comes s u := by
  have act {n : Nat} {h : Handler} (hn : takenInStartup n = false) (hk : h.Keeps) : Comes s (serve n h s) :=
    .within (.served hn hk)
  have read {n : Nat} {h : Handler} (hr : h.Reads) : Comes s (serve n h s) := .within (.servedRead hr)
  cases c
  case identify => exact ⟨_, rfl, read (.sized (reads_reads _))⟩
  case readStatus => exact ⟨_, rfl, read (readsPart_reads _ _)⟩
  case readFaults => exact ⟨_, rfl, read (.sized (reads_reads _))⟩
  case readRestore => exact ⟨_, rfl, read (readsPart_reads _ _)⟩
  case readHoming => exact ⟨_, rfl, read (readsPart_reads _ _)⟩
  case readSweep => exact ⟨_, rfl, read (readsPart_reads _ _)⟩
  case readPeer => exact ⟨_, rfl, read readPeer_reads⟩
  case calRead => exact ⟨_, rfl, read calRead_reads⟩
  case setupRead => exact ⟨_, rfl, read setupRead_reads⟩
  case clearFaults => exact ⟨_, rfl, act rfl clearFaultsHandler_keeps⟩
  case releaseGrant => exact ⟨_, rfl, act rfl releaseGrant_keeps⟩
  case releaseWithdraw => exact ⟨_, rfl, act rfl releaseWithdraw_keeps⟩
  case homeArm => exact ⟨_, rfl, act rfl homeArm_keeps⟩
  case homeLearn => exact ⟨_, rfl, act rfl homeLearn_keeps⟩
  case homeAbort => exact ⟨_, rfl, act rfl homeAbort_keeps⟩
  case zeroHere => exact ⟨_, rfl, act rfl zeroHere_keeps⟩
  case acceptRestore => exact ⟨_, rfl, act rfl acceptRestore_keeps⟩
  case sweepStart => exact ⟨_, rfl, act rfl sweepStart_keeps⟩
  case sweepEnd => exact ⟨_, rfl, act rfl sweepEnd_keeps⟩
  case sweepAbort => exact ⟨_, rfl, act rfl sweepAbort_keeps⟩
  case calWrite => exact ⟨_, rfl, act rfl calWrite_keeps⟩
  case setupWrite => exact ⟨_, rfl, act rfl setupWrite_keeps⟩
  case store => exact ⟨_, rfl, act rfl storeHandler_keeps⟩
  case restart => exact ⟨_, rfl, act rfl restartHandler_keeps⟩
  all_goals exact absurd rfl hc

/-- Every command is one event: its effects come to one of the four outcomes, and the event settles. -/
theorem exec_comes (c : Instr) (s : State) : ∃ u, exec c s = .next (conclude s u) ∧ Comes s u := by
  by_cases hc : requestCode c = none
  · exact exec_comes_event c s hc
  · exact exec_comes_request c s hc

end Sys2Proof.Machine
end

section
/-! SUPPORT. The invariants of Safety.lean along every step, read off the parts of an event (O10 to O12, O14 to
O16). -/

namespace Sys2Proof.Machine

/-- An invariant that no command's outcome breaks is kept by every step. -/
theorem stepKeeps_of_comes {inv : State → Prop} (queue : ∀ s l, inv s → inv (s.setPending l))
    (keeps : ∀ {s u}, inv s → Comes s u → inv (conclude s u)) : StepKeeps inv := by
  intro s t hs ht
  unfold step at ht
  split at ht
  · cases ht
    exact hs
  · next c rest _ =>
    obtain ⟨u, e, hu⟩ := exec_comes c (s.setPending rest)
    rw [e] at ht
    cases ht
    exact keeps (queue s rest hs) hu

variable {s0 s u : State}

/-! ### The gate and the permission (R166, R170, R171) -/

/-- What the permission reads. -/
theorem permission_congr {s t : State} (grant : t.gate.grant = s.gate.grant) (jog : t.gate.jog = s.gate.jog)
    (rdy : t.gate.rdyLevel = s.gate.rdyLevel) (active : t.faults.active = s.faults.active)
    (latched : t.setup.latched = s.setup.latched) (node : t.node.state = s.node.state)
    (excused : t.conflictExcused = s.conflictExcused) : t.permission = s.permission := by
  simp only [State.permission, State.faultHolds, State.active, State.actionOf, State.statePermits, grant, jog, rdy, active,
    latched, node, excused]

theorem permission_eq_false_of_state (h : s.statePermits = false) : s.permission = false := by
  simp [State.permission, h]

theorem GateFollowsPermission.congr {s t : State} (h : GateFollowsPermission s) (hp : t.permission = s.permission)
    (hg : t.gate.state = s.gate.state) : GateFollowsPermission t := by
  unfold GateFollowsPermission
  rw [hg, hp]
  exact h

theorem judgeGate_gate (s0 s : State) : (judgeGate s0 s).gate = gateAfter s0 s := by rw [judgeGate_eq]

theorem judgeGate_permission (s0 s : State) : (judgeGate s0 s).permission = s.permission := by
  rw [judgeGate_eq]
  unfold gateAfter
  split
  · rfl
  · exact permission_gateOn s _ rfl

/-- A gate that followed the permission follows it again once a change is judged. -/
theorem GateFollowsPermission.judge {s t : State} (h : GateFollowsPermission s) (hg : t.gate.state = s.gate.state) :
    GateFollowsPermission (judgeGate s t) := by
  obtain ⟨applied, moving⟩ := h
  unfold GateFollowsPermission
  rw [judgeGate_permission, judgeGate_gate]
  unfold gateAfter
  split
  · next e =>
    rw [hg, ← e]
    exact ⟨applied, moving⟩
  · next ne =>
    cases hp : t.permission <;> cases hs : s.gate.state <;> simp_all [gateOn]

theorem Within.gateFollows (h : Within s0 s) (g : GateFollowsPermission s0) : GateFollowsPermission s := by
  induction h with
  | start => exact g
  | load up =>
    have off (t : State) (e : t.node.state = .startup) : t.permission = false :=
      permission_eq_false_of_state (by simp [State.statePermits, e])
    exact g.congr ((off (loaded s0) up).trans (off s0 up).symm) (by rfl)
  | node _ k ih =>
    refine ih.congr (permission_congr rfl rfl rfl rfl rfl k ?_) (by rfl)
    simp [State.conflictExcused, k]
  | move _ _ _ ih => exact ih.judge rfl
  | moveFaults _ _ ih => exact ih.judge rfl
  | judge _ k _ ih => exact ih.judge k
  | @down s h k ih =>
    have off (t : State) (e : t.node.state = .retain ∨ t.node.state = .off) : t.permission = false :=
      permission_eq_false_of_state (by rcases e with e | e <;> simp [State.statePermits, e])
    have before : s.node.state = .retain ∨ s.node.state = .off := by
      rcases h.state with e | ⟨a, -⟩ | ⟨-, e⟩
      · exact .inl (e.trans k)
      · have up := a.1
        rw [State.mainUp, k] at up
        cases up
      · exact e
    refine ih.congr ((off (judgeDown s) ?_).trans (off s before).symm) (by rfl)
    simp only [judgeDown, State.setNode_node, downState]
    split <;> simp
  | @homing s x h k ih =>
    refine ih.congr (permission_congr rfl rfl rfl rfl rfl rfl ?_) (by rfl)
    rcases k with k | k
    · have idle (sub : HomingSub) : (s.node.state == .homing sub) = false := by
        rw [beq_eq_false_iff_ne]
        intro e
        rw [State.inHoming, e] at k
        cases k
      simp [State.conflictExcused, idle]
    · simp [State.conflictExcused, k]
  | setup _ k ih =>
    refine ih.congr (permission_congr rfl rfl rfl rfl ?_ rfl rfl) (by rfl)
    exact k.latched
  | faults _ k _ ih =>
    refine ih.congr (permission_congr rfl rfl rfl ?_ rfl rfl rfl) (by rfl)
    exact k
  | gate _ k ih => exact k ih
  | _ => assumption

/-- With no grant and the brake applied the gate follows whatever the rest of the state is. -/
theorem gateFollows_of_start (h : s.gate = MotionGate.start) : GateFollowsPermission s := by
  have hp : s.permission = false := permission_noGrant s (by rw [h]; rfl)
  refine ⟨fun _ => hp, fun e => ?_⟩
  rw [h] at e
  rcases e with e | e <;> cases e

theorem Comes.gateFollows (h : Comes s u) (g : GateFollowsPermission s) : GateFollowsPermission u := by
  cases h with
  | within h => exact h.gateFollows g
  | retain => exact gateFollows_of_start rfl
  | startup => exact gateFollows_of_start rfl
  | back _ how => cases how <;> exact gateFollows_of_start rfl

theorem conclude_gate_of_follows (g : GateFollowsPermission u) : (conclude s u).gate = u.gate := by
  obtain ⟨applied, moving⟩ := g
  rw [(conclude_settles s u).gate]
  unfold gateAfter
  split
  · rfl
  · cases hp : u.permission <;> cases hs : u.gate.state <;> simp_all [gateOn]

theorem conclude_permission (h : (conclude s u).gate = u.gate) : (conclude s u).permission = u.permission := by
  refine permission_congr ?_ ?_ ?_ ?_ ?_ ?_ ?_ <;> simp [h, State.conflictExcused]

theorem gateFollowsPermission_kept : StepKeeps GateFollowsPermission :=
  stepKeeps_of_comes (fun _ _ => id) fun g h =>
    have e := conclude_gate_of_follows (h.gateFollows g)
    (h.gateFollows g).congr (conclude_permission e) (by rw [e])

/-! ### The start of the Epoch Unit's work (R59, R99) -/

theorem nothingBegun_iff (s : State) : NothingBegun s ↔ (s.Begun → s.epoch.running = true) := by
  have hl : s.node.state.later = false ↔ s.node.state = .startup ∨ s.node.state = .retain ∨ s.node.state = .off := by
    cases s.node.state <;> simp [NodeState.later]
  unfold NothingBegun State.Begun
  rw [← hl]
  cases s.epoch.running <;> cases s.enc.motor.reading <;> cases s.enc.coarse.reading <;> cases s.cal.valid <;>
    cases s.node.state.later <;> simp

theorem Within.begun (h : Within s0 s) (hb : ¬s0.Begun) : s.Begun → s.epoch.running = true := by
  induction h with
  | start => exact fun b => absurd b hb
  | load => exact fun _ => rfl
  | epoch _ k ih => simpa [State.Begun, k.running] using ih
  | enc _ k ih =>
    rintro (b | b | b | b)
    · exact b
    · exact ih (.inr (.inl ((k.motorRead b).resolve_right hb)))
    · exact ih (.inr (.inr (.inl ((k.coarseRead b).resolve_right hb))))
    · exact ih (.inr (.inr (.inr b)))
  | node _ k ih => simpa [State.Begun, k] using ih
  | move _ a => exact absurd a.2 hb
  | down h k ih =>
    rintro (b | b | b | b | b | b)
    · exact b
    · exact ih (.inr (.inl b))
    · exact ih (.inr (.inr (.inl b)))
    · exact ih (.inr (.inr (.inr (.inl b))))
    · simp only [judgeDown, State.setNode_node, downState] at b
      split at b <;> cases b
    · exact ih (.inr (.inr (.inr (.inr (.inr b)))))
  | cal _ k ih =>
    rintro (b | b | b | b | b | b)
    · exact b
    · exact ih (.inr (.inl b))
    · exact ih (.inr (.inr (.inl b)))
    · exact ih (.inr (.inr (.inr (.inl b))))
    · exact ih (.inr (.inr (.inr (.inr (.inl b)))))
    · rcases k.valid b with b | b
      · exact ih (.inr (.inr (.inr (.inr (.inr b)))))
      · exact absurd (.inr (.inr (.inr (.inl (by rw [b]; simp))))) hb
  | store _ k ih =>
    rintro (b | b | b | b | b)
    · exact b
    · exact ih (.inr (.inl b))
    · exact ih (.inr (.inr (.inl b)))
    · rcases k with k | k | ⟨k, -⟩
      · exact ih (.inr (.inr (.inr (.inl (by rw [← k]; exact b)))))
      · exact absurd k b
      · exact absurd k hb
    · exact ih (.inr (.inr (.inr (.inr b))))
  | moveFaults _ _ ih => simpa [State.Begun] using ih
  | judge _ _ _ ih => simpa [State.Begun] using ih
  | _ => assumption

theorem Within.nothingBegun (h : Within s0 s) (n : NothingBegun s0) : NothingBegun s := by
  rw [nothingBegun_iff] at n ⊢
  by_cases hb : s0.Begun
  · exact fun _ => h.running (n hb)
  · exact h.begun hb

/-- The records of a stopped or starting main domain: no work has begun. -/
theorem nothingBegun_of_start (hn : s.node.state.later = false) (hc : s.cal = WorkingCal.start) (hw : s.store.writing = none)
    (he : s.enc = EncoderInterface.start) : NothingBegun s := by
  rw [nothingBegun_iff]
  rintro (b | b | b | b | b | b)
  · exact b
  · rw [he] at b
    cases b
  · rw [he] at b
    cases b
  · exact absurd hw b
  · rw [hn] at b
    cases b
  · rw [hc] at b
    cases b

theorem downState_later (p : Pins) : (downState p).later = false := by
  unfold downState
  split <;> rfl

theorem Comes.nothingBegun (h : Comes s u) (n : NothingBegun s) : NothingBegun u := by
  cases h with
  | within h => exact h.nothingBegun n
  | retain => exact nothingBegun_of_start (downState_later _) rfl rfl rfl
  | startup => exact nothingBegun_of_start rfl rfl rfl rfl
  | back _ how => cases how <;> exact nothingBegun_of_start rfl rfl rfl rfl

theorem NothingBegun.conclude (n : NothingBegun u) : NothingBegun (conclude s u) := by simpa [NothingBegun] using n

/-! ### The play (R10) -/

theorem Within.play (h : Within s0 s) (b : |s0.pos.s| ≤ s0.cal.h) (n : NothingBegun s0) : |s.pos.s| ≤ s.cal.h := by
  induction h with
  | start => exact b
  | load _ stopped =>
    obtain ⟨-, invalid, -⟩ := n stopped
    rw [WorkingCal.h, invalid] at b
    exact b.trans (WorkingCal.h_nonneg _)
  | pos _ k ih => exact k.play ih
  | cal _ k ih => exact k.play ih
  | move _ _ _ ih => simpa using ih
  | moveFaults _ _ ih => simpa using ih
  | judge _ _ _ ih => simpa using ih
  | _ => assumption

theorem Comes.play (h : Comes s u) (b : |s.pos.s| ≤ s.cal.h) (n : NothingBegun s) : |u.pos.s| ≤ u.cal.h := by
  have zero : |(0 : Int)| ≤ 0 := by decide
  cases h with
  | within h => exact h.play b n
  | retain => exact zero
  | startup => exact zero
  | back _ how => cases how <;> exact zero

theorem playBounded_kept : StepKeeps PlayBounded :=
  stepKeeps_of_comes (fun _ _ => id) fun ⟨b, n⟩ h => ⟨by simpa using h.play b n, (h.nothingBegun n).conclude⟩

/-- Settles O10: the gate by the judgement at every change of the permission, the play by the operations that
change it. -/
theorem gateAndPlayKept : Obligations.GateAndPlayKept := ⟨gateFollowsPermission_kept, playBounded_kept⟩

/-! ### The count and the mirror (R1, R43) -/

theorem Within.countFormed (h : Within s0 s) (c : CountFormed s0) : CountFormed s := by
  induction h with
  | start => exact c
  | pos _ k ih => exact k.count ih
  | move _ _ _ ih => simpa [CountFormed] using ih
  | moveFaults _ _ ih => simpa [CountFormed] using ih
  | judge _ _ _ ih => simpa [CountFormed] using ih
  | _ => assumption

theorem countFormed_of_start (h : s.pos = PositionUnit.start) : CountFormed s := by
  rw [CountFormed, h]
  decide

theorem Comes.countFormed (h : Comes s u) (c : CountFormed s) : CountFormed u := by
  cases h with
  | within h => exact h.countFormed c
  | retain => exact countFormed_of_start rfl
  | startup => exact countFormed_of_start rfl
  | back _ how => cases how <;> exact countFormed_of_start rfl

theorem Within.mainUp (h : Within s0 s) : s.mainUp = s0.mainUp := by
  rcases h.state with e | ⟨a, l⟩ | ⟨e, e' | e'⟩
  · simp only [State.mainUp, e]
  · rw [a.1, State.mainUp_of_later l]
  · simp only [State.mainUp, e, e']
  · simp only [State.mainUp, e, e']

/-- Inside an event the mirror's hold may end, and nothing else of the mirror changes. -/
theorem Within.mirror (h : Within s0 s) :
    s.ret.mirror = s0.ret.mirror ∨ s.ret.mirror = { s0.ret.mirror with held := false } := by
  induction h with
  | start => exact .inl rfl
  | load => exact .inl rfl
  | ret _ k ih =>
    rcases k.mirror with k | k <;> rcases ih with ih | ih
    · exact .inl (k.trans ih)
    · exact .inr (k.trans ih)
    · exact .inr (by rw [State.setRet_ret, k, ih])
    · exact .inr (by rw [State.setRet_ret, k, ih])
  | move _ _ _ ih => simpa using ih
  | moveFaults _ _ ih => simpa using ih
  | judge _ _ _ ih => simpa using ih
  | _ => assumption

theorem mainUp_conclude (s u : State) : (conclude s u).mainUp = u.mainUp := by simp [State.mainUp]

theorem Within.mirrorFollows (h : Within s u) (m : MirrorFollowsCount s) : MirrorFollowsCount (conclude s u) := by
  intro up held
  rw [mainUp_conclude] at up
  rw [(conclude_settles s u).mirror] at held ⊢
  have hpos : (conclude s u).pos = u.pos := by simp
  rw [hpos]
  unfold mirrorAfter at held ⊢
  split
  · rfl
  · next hn =>
    rw [if_neg hn] at held
    simp only [up, held, true_and, not_or, Bool.not_eq_true, not_not] at hn
    obtain ⟨hs, hv⟩ := hn
    rw [← hv, ← m (h.mainUp ▸ up) hs]
    rcases h.mirror with e | e
    · exact e
    · rw [e, ← hs]

theorem Comes.mirrorFollows (h : Comes s u) (m : MirrorFollowsCount s) : MirrorFollowsCount (conclude s u) := by
  have starting {t : State} (e : t.ret.mirror.held = true) (hp : s.mainUp = false) : MirrorFollowsCount (conclude s t) := by
    intro _ held
    rw [(conclude_settles s t).mirror] at held
    simp [mirrorAfter, e] at held
  have stopped {t : State} (e : t.mainUp = false) : MirrorFollowsCount (conclude s t) := by
    intro up
    rw [mainUp_conclude, e] at up
    cases up
  cases h with
  | within h => exact h.mirrorFollows m
  | retain =>
    refine stopped ?_
    rw [Bool.eq_false_iff, Ne, State.mainUp_iff]
    have hl := downState_later
    rintro (b | b)
    · exact absurd b (by simp [enterRetain, downNode, mainStart, hl])
    · simp only [enterRetain, downNode, mainStart, downState, State.setRet_node, State.setPins_node] at b
      split at b <;> cases b
  | startup hs => exact starting rfl (by simp [State.mainUp, hs])
  | back hs how =>
    cases how
    · exact starting rfl (by simp [State.mainUp, hs])
    · exact stopped rfl
    · exact stopped rfl

/-- Settles O11: the count by the operations that change it, the mirror by the end of every event. -/
theorem countAndMirrorKept : Obligations.CountAndMirrorKept :=
  ⟨stepKeeps_of_comes (fun _ _ => id) fun c h => by simpa [CountFormed] using h.countFormed c,
    stepKeeps_of_comes (fun _ _ => id) fun m h => h.mirrorFollows m⟩

/-! ### The link and the counters -/

theorem LinkBounded.congr {s t : State} (b : LinkBounded s) (e : t.link = s.link) : LinkBounded t := by
  obtain ⟨b1, b2, b3, b4, b5, b6, b7, b8, b9, bs⟩ := b
  rw [← e] at b1 b2 b3 b4 b5 b6 b7 b8 b9 bs
  exact ⟨b1, b2, b3, b4, b5, b6, b7, b8, b9, bs⟩

theorem linkBounded_of_start (h : s.link = LinkController.start) : LinkBounded s := by
  constructor <;> rw [h] <;> decide

theorem Within.linkBounded (h : Within s0 s) (b : LinkBounded s0) : LinkBounded s := by
  induction h with
  | start => exact b
  | link _ k ih => exact k b ih
  | move _ _ _ ih | moveFaults _ _ ih | judge _ _ _ ih => exact ih.congr (by simp)
  | load => exact b.congr (by rfl)
  | pins _ _ ih | epoch _ _ ih | enc _ _ ih | pos _ _ ih | work _ _ ih | coupling _ _ ih | peers _ _ ih
  | ret _ _ ih | node _ _ ih | down _ _ ih | homing _ _ ih | homingOp _ _ ih | sweep _ _ ih | cal _ _ ih | setup _ _ ih
  | store _ _ ih | selfCheck _ _ ih | faults _ _ _ ih | gate _ _ ih | restart _ _ ih | free _ _ ih => exact ih.congr (by rfl)

theorem Comes.linkBounded (h : Comes s u) (b : LinkBounded s) : LinkBounded u := by
  cases h with
  | within h => exact h.linkBounded b
  | retain => exact linkBounded_of_start rfl
  | startup => exact linkBounded_of_start rfl
  | back _ how => cases how <;> exact linkBounded_of_start rfl

theorem LinkBounded.conclude (b : LinkBounded u) : LinkBounded (conclude s u) := by
  have hj : LinkBounded (judgeGate s (mirrorSync s u)) := b.congr (by simp)
  unfold Machine.conclude publish
  split
  · exact hj
  · exact (Within.start.placeStatus).linkBounded hj

theorem linkBounded_kept : StepKeeps LinkBounded :=
  stepKeeps_of_comes (fun _ _ b => b.congr (by rfl)) fun b h => (h.linkBounded b).conclude

/-- The counters of the records that a start sets to their start values (R1, R23, R36 to R38, R116, R122, R128,
R130, R174). -/
structure MainCounters (s : State) : Prop where
  pos : s.pos.failedRun ≤ 255 ∧ s.pos.driftRun ≤ 2
  motor : s.enc.motor.Bounded
  coarse : s.enc.coarse.Bounded
  epoch : s.epoch.Bounded
  coupling : s.coupling.missCount ≤ 255
  ages : ∀ e ∈ s.peers.entries, e.age ≤ 255
  quietRun : ∀ n, s.peers.quietRun = some n → n ≤ 64
  sweep : s.sweep.Bounded
  faults : s.faults.haltCount ≤ 255

/-- The counters of the Retention Domain (R46, R48). -/
def RetCounters (s : State) : Prop := s.ret.tracker.Bounded ∧ s.ret.record.reentries ≤ 255

theorem countersInRange_iff (s : State) : CountersInRange s ↔ MainCounters s ∧ RetCounters s := by
  constructor
  · rintro ⟨a, b, c, d, e, f, g, h, i, j, k, l, m, n, o, p⟩
    exact ⟨⟨⟨a, b⟩, c, d, ⟨e, f, g, h⟩, i, j, k, ⟨n, o⟩, p⟩, l, m⟩
  · rintro ⟨⟨⟨a, b⟩, c, d, ⟨e, f, g, h⟩, i, j, k, ⟨n, o⟩, p⟩, l, m⟩
    exact ⟨a, b, c, d, e, f, g, h, i, j, k, l, m, n, o, p⟩

theorem MainCounters.congr {s t : State} (b : MainCounters s) (hp : t.pos = s.pos) (he : t.enc = s.enc)
    (hu : t.epoch = s.epoch) (hc : t.coupling = s.coupling) (hs : t.peers = s.peers) (hw : t.sweep = s.sweep)
    (hf : t.faults.haltCount = s.faults.haltCount) : MainCounters t := by
  obtain ⟨b1, b2, b3, b4, b5, b6, b7, b8, b9⟩ := b
  constructor <;> simp only [hp, he, hu, hc, hs, hw, hf] <;> assumption

theorem mem_start_age {l : List Address} {e : PeerEntry} (h : e ∈ (PeerTable.start l).entries) : e.age ≤ 255 := by
  obtain ⟨a, -, rfl⟩ := List.mem_map.1 h
  exact Nat.zero_le _

theorem Within.mainCounters (h : Within s0 s) (b : MainCounters s0) : MainCounters s := by
  induction h with
  | start => exact b
  | load =>
    exact { b with
      epoch := ⟨Nat.zero_le _, Nat.zero_le _, Nat.zero_le _, Nat.zero_le _⟩
      ages := fun _ he => mem_start_age he
      quietRun := fun _ he => by cases he }
  | epoch _ k ih => exact { ih with epoch := k.bounded ih.epoch }
  | enc _ k ih => exact { ih with motor := k.motorRuns ih.motor, coarse := k.coarseRuns ih.coarse }
  | pos _ k ih => exact { ih with pos := ⟨k.failedRun ih.pos.1, k.driftRun ih.pos.2⟩ }
  | coupling _ k ih => exact { ih with coupling := k ih.coupling }
  | peers _ k ih => exact { ih with ages := k.ages ih.ages, quietRun := k.quietRun ih.quietRun }
  | sweep _ k ih => exact { ih with sweep := k ih.sweep }
  | faults _ _ n ih => exact { ih with faults := n ih.faults }
  | move _ _ _ ih => exact ih.congr (by simp) (by simp) (by simp) (by simp) (by simp) (by simp) (by simp)
  | moveFaults _ n ih =>
    exact ih.congr (by simp) (by simp) (by simp) (by simp) (by simp) (by simp) (by simpa using n)
  | @judge s g f _ _ n ih =>
    refine MainCounters.congr (s := (s.setGate g).setFaults f) { ih with faults := n ih.faults } ?_ ?_ ?_ ?_ ?_ ?_ ?_ <;> simp
  | pins _ _ ih | work _ _ ih | ret _ _ ih | node _ _ ih | down _ _ ih | homing _ _ ih | homingOp _ _ ih | cal _ _ ih
  | setup _ _ ih | store _ _ ih | selfCheck _ _ ih | link _ _ ih | gate _ _ ih | restart _ _ ih | free _ _ ih =>
    exact ih.congr rfl rfl rfl rfl rfl rfl rfl

theorem mainCounters_of_start (hp : s.pos = PositionUnit.start) (he : s.enc = EncoderInterface.start) (hu : s.epoch = EpochUnit.start)
    (hc : s.coupling = CouplingRecord.start) (hs : s.peers = PeerTable.start []) (hw : s.sweep = SweepRecord.start)
    (hf : s.faults = FaultSupervisor.start) : MainCounters s := by
  have port : PortRecord.start.Bounded := ⟨Nat.zero_le _, Nat.zero_le _⟩
  constructor
  case ages => rw [hs]; exact fun _ he => mem_start_age he
  case quietRun => rw [hs]; exact fun _ he => by cases he
  case pos => rw [hp]; decide
  case motor => rw [he]; exact port
  case coarse => rw [he]; exact port
  case epoch => rw [hu]; exact ⟨Nat.zero_le _, Nat.zero_le _, Nat.zero_le _, Nat.zero_le _⟩
  case coupling => rw [hc]; decide
  case sweep => rw [hw]; exact ⟨by simp [SweepRecord.start], Nat.zero_le _, Nat.zero_le _⟩
  case faults => rw [hf]; decide

theorem Within.retCounters (h : Within s0 s) (b : RetCounters s0) : RetCounters s := by
  induction h with
  | start => exact b
  | load => exact b
  | ret _ k ih => exact ⟨k.tracker ih.1, k.reentries ih.2⟩
  | move _ _ _ ih => simpa [RetCounters] using ih
  | moveFaults _ _ ih => simpa [RetCounters] using ih
  | judge _ _ _ ih => simpa [RetCounters] using ih
  | _ => assumption

theorem entryRecord_reentries {d : RetentionDomain} (cause : RetainedCause) (low : Bool) :
    (entryRecord cause low d).reentries ≤ 255 := by
  unfold entryRecord
  simp only
  have hr : (if d.mirror.held then { d.record with cause := cause, reentries := satSucc 255 d.record.reentries }
      else formRecord cause d.mirror).reentries ≤ 255 := by
    split
    · exact satSucc_le _ _
    · exact Nat.zero_le _
  split
  · rw [(loseBackup_falls _).2]
    exact hr
  · exact hr

theorem Comes.mainCounters (h : Comes s u) (b : MainCounters s) : MainCounters u := by
  cases h with
  | within h => exact h.mainCounters b
  | retain => exact mainCounters_of_start rfl rfl rfl rfl rfl rfl rfl
  | startup => exact mainCounters_of_start rfl rfl rfl rfl rfl rfl rfl
  | back _ how => cases how <;> exact mainCounters_of_start rfl rfl rfl rfl rfl rfl rfl

theorem returnDomain_counters {d : RetentionDomain} (b : d.tracker.Bounded ∧ d.record.reentries ≤ 255) :
    (returnDomain d).tracker.Bounded ∧ (returnDomain d).record.reentries ≤ 255 := by
  unfold returnDomain
  split
  · exact ⟨⟨Nat.zero_le _, Nat.zero_le _⟩, Nat.zero_le _⟩
  · exact b

theorem Comes.retCounters (h : Comes s u) (b : RetCounters s) : RetCounters u := by
  cases h with
  | within h => exact h.retCounters b
  | retain => exact ⟨⟨Nat.zero_le _, Nat.zero_le _⟩, entryRecord_reentries _ _⟩
  | startup => exact b
  | back _ how => cases how <;> exact returnDomain_counters b

theorem countersInRange_kept : StepKeeps CountersInRange := by
  refine stepKeeps_of_comes (fun s l b => ?_) fun {s u} b h => ?_
  · rw [countersInRange_iff] at b ⊢
    exact ⟨b.1.congr rfl rfl rfl rfl rfl rfl rfl, b.2⟩
  · rw [countersInRange_iff] at b ⊢
    refine ⟨(h.mainCounters b.1).congr ?_ ?_ ?_ ?_ ?_ ?_ ?_, ?_⟩
    case refine_8 => simpa [RetCounters] using h.retCounters b.2
    all_goals simp

/-- Settles O12: the bounds by the operations that count. -/
theorem linkAndCountersKept : Obligations.LinkAndCountersKept := ⟨linkBounded_kept, countersInRange_kept⟩

/-! ### The setup, the entries and the calibration -/

theorem judgeSetup_rules {own : Address} {a : Area Setup} {x : Setup} (h : (judgeSetup own a).2 = some x) :
    setupRecordOk own x = true := by
  unfold judgeSetup at h
  repeat' split at h
  all_goals simp only [reduceCtorEq, Option.some.injEq] at h
  subst h
  assumption

theorem membersOk_nil (own : Address) : setupRecordOk own Setup.defaults = true := by
  have : setupRecordOk own Setup.defaults = setupRecordOk 0 Setup.defaults := rfl
  rw [this]
  decide

theorem setupRules_of_start (h : s.setup = SetupCopies.start) : SetupObeysRules s := by
  rw [SetupObeysRules, h]
  exact ⟨membersOk_nil _, membersOk_nil _⟩

theorem loadedSetup_rules {own : Address} (a : Area Setup) :
    setupRecordOk own (loadedSetup (judgeSetup own a).2).image = true ∧
    setupRecordOk own (loadedSetup (judgeSetup own a).2).latched = true := by
  cases e : (judgeSetup own a).2 with
  | none => exact ⟨membersOk_nil own, membersOk_nil own⟩
  | some x => exact ⟨judgeSetup_rules e, judgeSetup_rules e⟩

theorem Within.setupRules (h : Within s0 s) (b : SetupObeysRules s0) : SetupObeysRules s := by
  induction h with
  | start => exact b
  | load => exact loadedSetup_rules s0.store.setupArea
  | setup _ k ih => exact ⟨k.image ih.1, by rw [State.setSetup_setup, k.latched]; exact ih.2⟩
  | move _ _ _ ih => simpa [SetupObeysRules] using ih
  | moveFaults _ _ ih => simpa [SetupObeysRules] using ih
  | judge _ _ _ ih => simpa [SetupObeysRules] using ih
  | _ => assumption

theorem Comes.setupRules (h : Comes s u) (b : SetupObeysRules s) : SetupObeysRules u := by
  cases h with
  | within h => exact h.setupRules b
  | retain => exact setupRules_of_start rfl
  | startup => exact setupRules_of_start rfl
  | back _ how => cases how <;> exact setupRules_of_start rfl

theorem Within.entries (h : Within s0 s) (b : EntriesAreMembers s0) : EntriesAreMembers s := by
  induction h with
  | start => exact b
  | load => simp [EntriesAreMembers, loaded, PeerTable.start, Function.comp_def, PeerEntry.start]
  | peers _ k ih => exact k.addresses.trans ih
  | setup _ k ih => exact ih.trans (by rw [State.setSetup_setup, k.latched])
  | move _ _ _ ih => simpa [EntriesAreMembers] using ih
  | moveFaults _ _ ih => simpa [EntriesAreMembers] using ih
  | judge _ _ _ ih => simpa [EntriesAreMembers] using ih
  | _ => assumption

theorem Comes.entries (h : Comes s u) (b : EntriesAreMembers s) : EntriesAreMembers u := by
  cases h with
  | within h => exact h.entries b
  | retain => rfl
  | startup => rfl
  | back _ how => cases how <;> rfl

/-- Settles O14: the setup by its write rules, the entries by their addresses. -/
theorem setupAndEntriesKept : Obligations.SetupAndEntriesKept :=
  ⟨stepKeeps_of_comes (fun _ _ => id) fun b h => by simpa [SetupObeysRules] using h.setupRules b,
    stepKeeps_of_comes (fun _ _ => id) fun b h => by simpa [EntriesAreMembers] using h.entries b⟩

/-- Ratio and window set (R109). -/
def CalSet (s : State) : Prop := s.cal.data.ratio.isSome = true ∧ s.cal.data.window.isSome = true

/-- What an event keeps of the calibration: its ranges, and ratio and window set wherever they must be. -/
structure CalHeld (s0 s : State) : Prop where
  ranges : calInRange s.cal.data
  valid : s.cal.valid = true → CalSet s
  writing : s.store.writing = some .cal → CalSet s
  found : s0.store.writing = some .cal → CalSet s

theorem calInRange_blank : calInRange CalRecord.blank := by
  unfold calInRange
  decide

theorem judgeCal_rules {a : Area CalRecord} {c : CalRecord} (h : (judgeCal a).2 = some c) :
    calInRange c ∧ c.ratio.isSome = true ∧ c.window.isSome = true := by
  have ok : calRecordOk c = true := by
    unfold judgeCal at h
    repeat' split at h
    all_goals simp only [reduceCtorEq, Option.some.injEq] at h
    subst h
    assumption
  have hs : c.ratio.isSome = true ∧ c.window.isSome = true := by
    simp only [calRecordOk, Bool.and_eq_true] at ok
    cases hr : c.ratio <;> cases hw : c.window <;> simp_all
  refine ⟨?_, hs⟩
  obtain ⟨r, hr⟩ := Option.isSome_iff_exists.1 hs.1
  obtain ⟨w, hw⟩ := Option.isSome_iff_exists.1 hs.2
  simpa [calInRange, calRecordOk, hr, hw] using ok

theorem CalHeld.congr {s t : State} (b : CalHeld s0 s) (hc : t.cal = s.cal) (hw : t.store.writing = s.store.writing) :
    CalHeld s0 t := by
  obtain ⟨b1, b2, b3, b4⟩ := b
  constructor <;> simp only [CalSet, hc, hw] <;> assumption

theorem Within.calHeld (h : Within s0 s) (b : CalHeld s0 s0) (n : NothingBegun s0) : CalHeld s0 s := by
  induction h with
  | start => exact b
  | load _ stopped =>
    obtain ⟨-, -, idle, -⟩ := n stopped
    have none (e : s0.store.writing = some .cal) {p : Prop} : p := by rw [idle] at e; cases e
    cases e : (judgeCal s0.store.calArea).2 with
    | none =>
      have hc : (loaded s0).cal = WorkingCal.start := by simp [loaded, e, loadedCal]
      refine ⟨?_, fun hv => ?_, fun e => none e, fun e => none e⟩
      · rw [hc]
        exact calInRange_blank
      · rw [hc] at hv
        cases hv
    | some c =>
      obtain ⟨hr, hs⟩ := judgeCal_rules e
      have hc : (loaded s0).cal = { data := c, valid := true, dirty := false } := by simp [loaded, e, loadedCal]
      exact ⟨by rw [hc]; exact hr, fun _ => by rw [CalSet, hc]; exact hs, fun e => none e, fun e => none e⟩
  | cal _ k ih =>
    have set (b : CalSet _) := And.intro (k.ratio b.1) (k.window b.2)
    refine ⟨k.ranges ih.ranges, fun hv => ?_, fun e => set (ih.writing e), fun e => set (ih.found e)⟩
    rcases k.valid hv with hv | hv
    · exact set (ih.valid hv)
    · exact set (ih.found hv)
  | store _ k ih =>
    refine { ih with writing := fun e => ?_ }
    rcases k with k | k | ⟨-, k⟩
    · exact ih.writing (k.symm.trans e)
    · rw [State.setStore_store, k] at e
      cases e
    · exact k e
  | move _ _ _ ih | moveFaults _ _ ih | judge _ _ _ ih => exact ih.congr (by simp) (by simp)
  | pins _ _ ih | epoch _ _ ih | enc _ _ ih | pos _ _ ih | work _ _ ih | coupling _ _ ih | peers _ _ ih | ret _ _ ih
  | node _ _ ih | down _ _ ih | homing _ _ ih | homingOp _ _ ih | sweep _ _ ih | setup _ _ ih | selfCheck _ _ ih
  | link _ _ ih | faults _ _ _ ih | gate _ _ ih | restart _ _ ih | free _ _ ih => exact ih.congr rfl rfl

theorem calibrationInRange_of_start (n : NothingBegun s) (hc : s.cal = WorkingCal.start) (hw : s.store.writing = none) :
    CalibrationInRange s := by
  refine ⟨n, ?_, fun e => ?_, fun e => ?_⟩
  · rw [hc]
    exact calInRange_blank
  · rw [hc] at e
    cases e
  · rw [hw] at e
    cases e

theorem Comes.calibrationInRange (h : Comes s u) (b : CalibrationInRange s) : CalibrationInRange u := by
  have n := h.nothingBegun b.begun
  cases h with
  | within h =>
    have k := h.calHeld ⟨b.ranges, b.valid, b.writing, b.writing⟩ b.begun
    exact ⟨n, k.ranges, k.valid, k.writing⟩
  | retain => exact calibrationInRange_of_start n rfl rfl
  | startup => exact calibrationInRange_of_start n rfl rfl
  | back _ how => cases how <;> exact calibrationInRange_of_start n rfl rfl

theorem CalibrationInRange.congr {s t : State} (b : CalibrationInRange s) (n : NothingBegun t) (hc : t.cal = s.cal)
    (hw : t.store.writing = s.store.writing) : CalibrationInRange t := by
  obtain ⟨-, b1, b2, b3⟩ := b
  refine ⟨n, ?_, ?_, ?_⟩ <;> simp only [hc, hw] <;> assumption

/-- Settles O15: the calibration by its write rules, its validity by the load and the verify of a write. -/
theorem calibrationInRangeKept : Obligations.CalibrationInRangeKept :=
  stepKeeps_of_comes (fun _ _ b => b.congr b.begun rfl rfl) fun b h =>
    have b' := h.calibrationInRange b
    b'.congr b'.begun.conclude (by simp) (by simp)

/-! ### The validity of the retained record (R46, R47, R52) -/

theorem Within.validity (h : Within s0 s) : s0.ret.record.validity.Falls s.ret.record.validity := by
  induction h with
  | start => exact .refl _
  | load => exact .refl _
  | ret _ k ih => exact ih.trans k.validity
  | move _ _ _ ih => simpa using ih
  | moveFaults _ _ ih => simpa using ih
  | judge _ _ _ ih => simpa using ih
  | _ => assumption

theorem entryRecord_falls {d : RetentionDomain} (cause : RetainedCause) (low : Bool) (h : d.mirror.held = true) :
    d.record.validity.Falls (entryRecord cause low d).validity := by
  unfold entryRecord
  simp only [h, if_true]
  split
  · exact (loseBackup_falls _).1
  · exact .refl _

theorem returnDomain_falls (d : RetentionDomain) : d.record.validity.Falls (returnDomain d).record.validity := by
  unfold returnDomain
  split
  · exact .inr (.inr rfl)
  · exact .refl _

theorem enterRetain_down (cause : RetainedCause) (low : Bool) (s : State) : (enterRetain cause low s).mainUp = false := by
  rw [Bool.eq_false_iff, Ne, State.mainUp_iff]
  rintro (b | b)
  · exact absurd b (by simp [enterRetain, downNode, mainStart, downState_later])
  · simp only [enterRetain, downNode, mainStart, downState, State.setRet_node, State.setPins_node] at b
    split at b <;> cases b

/-- The validity falls in every outcome but an entry that forms the record anew. -/
theorem Comes.validity (h : Comes s u) (stopped : MainIsStopped s) :
    s.ret.record.validity.Falls u.ret.record.validity ∨ (s.mainUp = true ∧ u.mainUp = false ∧ s.ret.mirror.held = false) := by
  induction h with
  | within h => exact .inl h.validity
  | @retain v _ hm up cause low ih =>
    have hup : s.mainUp = true := by
      rcases up with up | up
      · exact up
      · by_contra hd
        exact up (stopped (by simpa using hd)).2.2.2.2.2.2.2.2.2.2.2.1
    cases held : s.ret.mirror.held with
    | false => exact .inr ⟨hup, enterRetain_down _ _ _, rfl⟩
    | true =>
      refine .inl ?_
      have e : v.ret.mirror.held = true := by rw [hm, held]
      rcases ih with ih | ⟨-, -, ih⟩
      · exact ih.trans (entryRecord_falls cause low e)
      · rw [held] at ih
        cases ih
  | startup => exact .inl (.refl _)
  | back _ how => cases how <;> exact .inl (returnDomain_falls _)

/-- Settles O16: the validity by the operations of the record, a new record by the entry with the mirror not
held. -/
theorem retainedValidityOnlyFalls : Obligations.RetainedValidityOnlyFalls := by
  intro c s t stopped ht hn
  obtain ⟨u, e, hu⟩ := exec_comes c s
  rw [e] at ht
  cases ht
  have hr : (conclude s u).ret.record = u.ret.record := by simp
  rw [hr]
  rw [mainUp_conclude] at hn
  exact (hu.validity stopped).resolve_right hn

end Sys2Proof.Machine
end

section
/-! SUPPORT. Every command completes, and one whose event cannot occur leaves the state as it was (O2); what the main
domain's records are while it is down (O13). -/

namespace Sys2Proof.Machine

variable {s s0 u : State}

/-! ### The queue of commands -/

theorem Within.pending (h : Within s0 s) : s.pending = s0.pending := by
  induction h with
  | start => rfl
  | load => rfl
  | move | moveFaults | judge => simpa
  | _ => assumption

theorem Comes.pending (h : Comes s u) : u.pending = s.pending := by
  induction h with
  | within h => exact h.pending
  | retain _ _ _ _ _ ih => exact ih
  | startup => rfl
  | back _ how => cases how <;> rfl

theorem conclude_pending (s0 s : State) : (conclude s0 s).pending = s.pending := by
  rw [(conclude_settles s0 s).rest]

/-! ### Commands whose event cannot occur (log 1) -/

theorem next_idle (h : u = s) : Host.Outcome.next (conclude s u) = (.next s : Host.Outcome State Fault Refusal) := by
  rw [h, conclude_self]

/-- A command whose effect stands behind a test of its event. -/
theorem exec_idle_of_test {c : Instr} {p : Prop} [Decidable p] (e : exec c s = .next (conclude s (if p then u else s)))
    (o : p → Occurs c s) (h : ¬Occurs c s) : exec c s = .next s := by
  rw [e, if_neg fun g => h (o g), conclude_self]

theorem conditionGone_inactive {k : FaultKind} (h : s.active k = false) : conditionGone k s = s := by
  simp [conditionGone, h]

theorem placeStatus_silent (h : s.link.placing = false) : placeStatus s = s := by
  simp [placeStatus, h]

/-- A request's command finds no request of its row at the head of the queue. -/
theorem serve_idle {code : Nat} {h : Handler} (hn : ¬∃ r, takeable s = some r ∧ some code = some r.code) :
    serve code h s = s := by
  unfold serve
  split
  · next r hr => exact if_neg fun e => hn ⟨r, hr, by rw [e]⟩
  · rfl

theorem exec_idle_request (c : Instr) (s : State) (hc : requestCode c ≠ none) (h : ¬Occurs c s) : exec c s = .next s := by
  cases c
  case identify | readStatus | readFaults | readRestore | readHoming | readSweep | readPeer | calRead | setupRead |
      clearFaults | releaseGrant | releaseWithdraw | homeArm | homeLearn | homeAbort | zeroHere | acceptRestore |
      sweepStart | sweepEnd | sweepAbort | calWrite | setupWrite | store | restart =>
    exact next_idle (serve_idle h)
  all_goals exact absurd rfl hc

/-- The commands of the line, of the transmitter and of the receiver. -/
def lineCommand : Instr → Bool
  | .linkJoin | .lineIdle | .lineStuck | .linkRejoin | .intactCount32 | .frameTxStart | .arbitrationLost _ | .bitError _ _ |
      .frameTxComplete _ | .frameReceived _ | .frameDiscard _ _ => true
  | _ => false

/-- Bits that do not reach the node change nothing. -/
theorem unheard {bits : List Bool} (h : ¬HearsLine s) : (if s.link.receiving then u else watchLine bits s) = s := by
  unfold HearsLine at h
  rw [if_neg fun hr => h (.inl hr)]
  exact if_neg fun hw => h (.inr (by simpa using hw))

/-- The commands of the link whose event cannot occur. -/
theorem exec_idle_link (c : Instr) (s : State) (hc : lineCommand c = true) (h : ¬Occurs c s) : exec c s = .next s := by
  delta Occurs at h
  cases c
  case frameTxStart =>
    refine next_idle (ite_eq_right_iff.2 fun hb => ?_)
    split
    · next f e => exact absurd ⟨hb, by rw [e]; rfl⟩ h
    · rfl
  case arbitrationLost sent =>
    refine next_idle ?_
    split
    · next x hx =>
      refine if_neg fun hl => h ⟨x, hx, ?_⟩
      simpa [Transmission.losesAt] using hl
    · rfl
  case bitError low sent =>
    refine next_idle ?_
    split
    · next x hx =>
      refine if_neg fun hl => h ⟨x, hx, ?_⟩
      simpa [Transmission.errsAt] using hl
    · rfl
  case frameTxComplete low =>
    refine next_idle ?_
    split
    · next x hx => exact absurd (by rw [hx]; rfl) h
    · rfl
  case frameReceived bits =>
    refine next_idle ?_
    split
    · next f hf => exact unheard fun hl => h ⟨hl, f, hf⟩
    · rfl
  case frameDiscard bits low =>
    refine next_idle ?_
    split
    · next why hw => exact unheard fun hl => h ⟨hl, why, hw⟩
    · rfl
  case intactCount32 => exact next_idle (if_neg h)
  case linkRejoin => exact next_idle (if_neg (by simpa using h))
  case linkJoin | lineStuck | lineIdle => exact exec_idle_of_test rfl (by delta Occurs; simp) h
  all_goals cases hc

/-- The commands of timers, runs and counts whose event cannot occur. -/
theorem exec_idle_event (c : Instr) (s : State) (hc : requestCode c = none) (hl : lineCommand c = false) (h : ¬Occurs c s) :
    exec c s = .next s := by
  delta Occurs at h
  cases c
  case smpRisingEdge | smpFallingEdge | backupCollapse => exact absurd trivial h
  case periodTimerExpiry | holdExpiry | sampleLineStuck | freePeriodExpiry | rejoinArmed | storeLoadComplete |
      selfCheckReadback | rdyLevelLow | rdyLevelHigh | settleExpiry | biteExpiry |
      retryTimerExpiry | retainEntry | trackerReadStart | trackerReadGood | trackerReadFailed | restartDwellExpiry |
      retainExit | offReturn | lossOfVmainInRetain | retentionStateLoss | backupLowRaise | backupLowClear =>
    exact exec_idle_of_test rfl (by delta Occurs; simp [and_assoc]) h
  case syncedRun16 =>
    refine next_idle (ite_eq_right_iff.2 fun hr => conditionGone_inactive ?_)
    simpa using fun ha => h ⟨hr, ha⟩
  case alignmentTimeout => exact next_idle (if_neg h)
  case realignment =>
    have hu : realignNow s.epoch = s.epoch := if_neg h
    refine next_idle ?_
    rw [hu]
    rfl
  case encoderReadComplete w => cases w <;> exact next_idle (if_neg h)
  case encoderReadTimeout p ack => cases p <;> exact next_idle (if_neg h)
  case motorFailureRun3 | coarseFailureRun3 =>
    refine next_idle (ite_eq_left_iff.2 fun hn => if_neg fun hr => h ⟨hr, ?_⟩)
    simpa using hn
  case motorGoodRun8 | coarseGoodRun8 =>
    refine next_idle (ite_eq_right_iff.2 fun hr => conditionGone_inactive ?_)
    simpa using fun ha => h ⟨hr, ha⟩
  case portPresenceTimeout p => cases p <;> exact next_idle (ite_eq_right_iff.2 fun hi => if_neg fun hp => h ⟨hi, hp⟩)
  case driftRun3 => exact next_idle (if_neg h)
  case couplingLost => exact next_idle (if_neg (by simpa [and_assoc] using h))
  case peerAbsent a =>
    refine next_idle (if_neg fun hp => h ?_)
    obtain ⟨e, he, ho⟩ := (Option.any_eq_true _ _).1 hp
    exact ⟨e, he, by simpa [State.overdue] using ho⟩
  case quietRun64 =>
    refine next_idle (ite_eq_right_iff.2 fun hr => conditionGone_inactive ?_)
    simpa using fun ha => h ⟨hr, ha⟩
  case trackerUnchanged64 =>
    refine next_idle (ite_eq_right_iff.2 fun hs => ?_)
    have ht : trackerSlow s.ret.tracker = s.ret.tracker := if_neg fun hu => h ⟨hs, hu⟩
    rw [ht]
    rfl
  case trackerFailedRun3 =>
    refine next_idle (ite_eq_right_iff.2 fun hs => ?_)
    have ht : trackerFailed3 s.ret = s.ret := by
      refine ite_eq_right_iff.2 fun hf => ?_
      have hd : downgrade .encoder s.ret.record = s.ret.record := if_neg fun hv => h ⟨hs, hf, hv⟩
      rw [hd]
    rw [ht]
    rfl
  case beacon =>
    refine next_idle (ite_eq_right_iff.2 fun hb => placeStatus_silent ?_)
    simpa using fun hp => h ⟨hb, hp⟩
  case storeVerify found =>
    refine next_idle ?_
    split
    · next t ht =>
      refine ite_eq_right_iff.2 fun hw => ?_
      cases t <;> cases found
      all_goals first
        | rfl
        | exact absurd ⟨hw, by simp [ht]⟩ h
    · rfl
  case unknownRequest =>
    refine next_idle ?_
    unfold serveUnknown
    split
    · next r hr => exact if_pos (by simpa using fun hk => h ⟨r, hr, hk⟩)
    · rfl
  case storeCrcWritten =>
    refine next_idle ?_
    split
    · next t ht =>
      refine if_pos ?_
      simpa using fun hw => h ⟨by rw [ht]; rfl, hw⟩
    · rfl
  all_goals first
    | (cases hl; done)
    | cases hc

/-- A command whose event cannot occur leaves the state as it was. -/
theorem exec_idle (c : Instr) (s : State) (h : ¬Occurs c s) : exec c s = .next s := by
  by_cases hc : requestCode c = none
  · cases hl : lineCommand c
    · exact exec_idle_event c s hc hl h
    · exact exec_idle_link c s hl h
  · exact exec_idle_request c s hc h

/-! ### The commands that report a level (log 9) -/

theorem permission_down (h : s.mainUp = false) : s.permission = false :=
  permission_eq_false_of_state (by
    unfold State.statePermits
    cases hs : s.node.state <;> simp_all [State.mainUp])

theorem exec_edge_stopped (i : SampleInputs) (h : s.epoch.running = false) :
    exec (.smpRisingEdge i) s = .next { s with pins := { s.pins with smpHigh := true } } ∧
    exec .smpFallingEdge s = .next { s with pins := { s.pins with smpHigh := false } } := by
  constructor
  all_goals
    simp only [exec, execSmpRisingEdge, execSmpFallingEdge, h, Bool.false_eq_true, if_false]
    exact next_quiet (.inl ⟨rfl, rfl⟩) rfl rfl

theorem exec_backupCollapse_outside (vmain : Bool) (h : s.node.state ≠ .retain) :
    exec (.backupCollapse vmain) s = .next { s with pins := { s.pins with vbakLow := true } } := by
  simp only [exec, execBackupCollapse, if_neg h]
  exact next_quiet (.inl ⟨rfl, rfl⟩) rfl rfl

/-- Settles O2: every command's effects settle, and the test of its event stands before them. -/
theorem everyCommandCompletes : Obligations.EveryCommandCompletes := by
  refine ⟨fun c s => ?_, exec_idle, fun i s => exec_edge_stopped i, fun vmain s => exec_backupCollapse_outside vmain⟩
  obtain ⟨u, e, h⟩ := exec_comes c s
  exact ⟨_, e, (conclude_pending s u).trans h.pending⟩

/-! ### The main domain while it is down (R45, log 31) -/

/-- The records of a stopped main domain. -/
structure State.Stopped (s : State) : Prop where
  epoch : s.epoch = EpochUnit.start
  enc : s.enc = EncoderInterface.start
  pos : s.pos = PositionUnit.start
  work : s.work = EpochWork.start
  coupling : s.coupling = CouplingRecord.start
  peers : s.peers = PeerTable.start []
  homing : s.homing = HomingRecord.start
  sweep : s.sweep = SweepRecord.start
  cal : s.cal = WorkingCal.start
  setup : s.setup = SetupCopies.start
  writing : s.store.writing = none
  link : s.link = LinkController.start
  faults : s.faults = FaultSupervisor.start
  gate : s.gate = MotionGate.start
  restart : s.restartPending = false

theorem mainIsStopped_iff (s : State) : MainIsStopped s ↔ (s.mainUp = false → s.Stopped) :=
  forall_congr' fun _ =>
    ⟨fun ⟨a, b, c, d, e, f, g, h, i, j, k, l, m, n, o⟩ => ⟨a, b, c, d, e, f, g, h, i, j, k, l, m, n, o⟩,
      fun ⟨a, b, c, d, e, f, g, h, i, j, k, l, m, n, o⟩ => ⟨a, b, c, d, e, f, g, h, i, j, k, l, m, n, o⟩⟩

/-- What an event settles leaves a stopped domain stopped: no frame is placed, and the gate has no grant to lose. -/
theorem State.Stopped.settled (h : u.Stopped) (s : State) : (conclude s u).Stopped := by
  have hg := conclude_gate_of_follows (s := s) (gateFollows_of_start h.gate)
  obtain ⟨rest, -, -, -, kept⟩ := conclude_settles s u
  have silent : u.link.placing = false := by rw [h.link]; rfl
  obtain ⟨slot, beacon⟩ := kept (.inr silent)
  rw [hg, slot, beacon] at rest
  rw [rest]
  obtain ⟨a, b, c, d, e, f, g, h, i, j, k, l, m, n, o⟩ := h
  exact ⟨a, b, c, d, e, f, g, h, i, j, k, l, m, n, o⟩

theorem enterRetain_stopped (cause : RetainedCause) (low : Bool) (s : State) : (enterRetain cause low s).Stopped :=
  ⟨rfl, rfl, rfl, rfl, rfl, rfl, rfl, rfl, rfl, rfl, rfl, rfl, rfl, rfl, rfl⟩

theorem enterStartup_stopped (straps : Straps) (s : State) : (enterStartup straps s).Stopped :=
  ⟨rfl, rfl, rfl, rfl, rfl, rfl, rfl, rfl, rfl, rfl, rfl, rfl, rfl, rfl, rfl⟩

theorem returnFromOff_stopped (how : OffReturn) (s : State) : (returnFromOff how s).Stopped := by
  cases how
  case startup straps => exact enterStartup_stopped straps _
  all_goals exact ⟨rfl, rfl, rfl, rfl, rfl, rfl, rfl, rfl, rfl, rfl, rfl, rfl, rfl, rfl, rfl⟩

theorem conclude_mainUp (s u : State) : (conclude s u).mainUp = u.mainUp := by
  rw [(conclude_settles s u).rest]
  rfl

/-- The commands that a down node takes up: the levels of its pins, its tracker, its supplies and its exits. -/
def downCommand : Instr → Bool
  | .smpRisingEdge _ | .smpFallingEdge | .trackerReadStart | .trackerReadGood _ | .trackerReadFailed _ |
      .trackerUnchanged64 | .trackerFailedRun3 | .backupCollapse _ | .restartDwellExpiry | .retainExit _ | .offReturn _ |
      .lossOfVmainInRetain _ | .retentionStateLoss => true
  | _ => false

theorem takeable_down (h : s.mainUp = false) : takeable s = none := by
  simp [takeable, h]

theorem active_stopped (h : s.Stopped) (k : FaultKind) : s.active k = false := by
  unfold State.active
  rw [h.faults]
  cases k <;> rfl

theorem not_hearsLine_stopped (h : s.Stopped) : ¬HearsLine s := by
  unfold HearsLine
  rw [h.link]
  decide

/-- No request can be taken, and no other event can occur, in a stopped domain. -/
theorem not_occurs_stopped {c : Instr} (up : s.mainUp = false) (h : s.Stopped) (hc : downCommand c = false) : ¬Occurs c s := by
  have hs : s.node.state ≠ .startup := fun e => by
    rw [State.mainUp, e] at up
    cases up
  intro o
  cases c
  case periodTimerExpiry | holdExpiry | sampleLineStuck | freePeriodExpiry | rejoinArmed | alignmentTimeout |
      realignment | backupLowRaise | backupLowClear =>
    delta Occurs at o
    simp [h.epoch, EpochUnit.start] at o
  case portPresenceTimeout p =>
    delta Occurs at o
    cases p <;> simp [h.epoch, EpochUnit.start] at o
  case encoderReadComplete w =>
    delta Occurs at o
    cases w <;> simp [h.enc, EncoderInterface.start, PortRecord.start] at o
  case encoderReadTimeout p ack =>
    delta Occurs at o
    cases p <;> simp [h.enc, EncoderInterface.start, PortRecord.start] at o
  case motorFailureRun3 | coarseFailureRun3 =>
    delta Occurs at o
    simp [h.enc, EncoderInterface.start, PortRecord.start] at o
  case syncedRun16 | motorGoodRun8 | coarseGoodRun8 | quietRun64 =>
    delta Occurs at o
    simp [active_stopped h] at o
  case driftRun3 =>
    delta Occurs at o
    simp [h.pos, PositionUnit.start] at o
  case couplingLost =>
    delta Occurs at o
    simp [h.coupling, CouplingRecord.start] at o
  case peerAbsent a =>
    obtain ⟨e, he, -⟩ := o
    rw [h.peers] at he
    cases he
  case retainEntry | rdyLevelLow | rdyLevelHigh =>
    delta Occurs at o
    simp [up] at o
  case storeLoadComplete | selfCheckReadback => exact hs o.1
  case frameReceived | frameDiscard => exact not_hearsLine_stopped h o.1
  case linkJoin | lineStuck | lineIdle | beacon | frameTxStart | arbitrationLost | bitError | frameTxComplete |
      intactCount32 | linkRejoin =>
    delta Occurs at o
    simp [h.link, LinkController.start, LinkController.placing, LinkController.mayBegin, LinkController.detached,
      healthState] at o
  case retryTimerExpiry =>
    delta Occurs at o
    simp [h.faults, FaultSupervisor.start] at o
  case settleExpiry | biteExpiry =>
    delta Occurs at o
    simp [h.gate, MotionGate.start] at o
  case storeVerify | storeCrcWritten =>
    delta Occurs at o
    simp [h.writing] at o
  case unknownRequest | identify | readStatus | readFaults | readRestore | readHoming | readSweep | readPeer | calRead |
      setupRead | clearFaults | releaseGrant | releaseWithdraw | homeArm | homeLearn | homeAbort | zeroHere |
      acceptRestore | sweepStart | sweepEnd | sweepAbort | calWrite | setupWrite | store | restart =>
    obtain ⟨r, hr, -⟩ := o
    rw [takeable_down up] at hr
    cases hr
  all_goals cases hc

/-- What a down node's own commands leave stopped: they change its pins, its Retention Domain and its node state, or
start every record again. -/
theorem exec_stopped {c : Instr} (h : s.Stopped) (hc : downCommand c = true) :
    ∃ u, exec c s = .next (conclude s u) ∧ u.Stopped := by
  have kept {p : Prop} [Decidable p] {a : State} (ha : a.Stopped) : (if p then a else s).Stopped := by
    split
    · exact ha
    · exact h
  have same {t : State} (e : { s with pins := t.pins, ret := t.ret, node := t.node } = t) : t.Stopped := by
    obtain ⟨a, b, c, d, e', f, g, h, i, j, k, l, m, n, o⟩ := h
    rw [← e]
    exact ⟨a, b, c, d, e', f, g, h, i, j, k, l, m, n, o⟩
  cases c
  case smpRisingEdge | smpFallingEdge =>
    refine ⟨_, rfl, ?_⟩
    rw [if_neg (by simp [h.epoch, EpochUnit.start])]
    exact same rfl
  case trackerReadStart | trackerReadGood | trackerReadFailed | trackerUnchanged64 | trackerFailedRun3 |
      restartDwellExpiry | lossOfVmainInRetain | retentionStateLoss =>
    exact ⟨_, rfl, kept (same rfl)⟩
  case backupCollapse good =>
    refine ⟨_, rfl, ?_⟩
    split <;> exact same rfl
  case retainExit straps => exact ⟨_, rfl, kept (enterStartup_stopped straps s)⟩
  case offReturn how => exact ⟨_, rfl, kept (returnFromOff_stopped how s)⟩
  all_goals cases hc

theorem Within.up (h : Within s u) (up : s.mainUp = true) : u.mainUp = true := by
  rcases h.state with e | ⟨-, hl⟩ | ⟨e, -⟩
  · rw [State.mainUp, e]
    exact up
  · exact u.mainUp_of_later hl
  · rw [State.mainUp, e] at up
    cases up

/-- An event that finds the main domain up leaves it up, or stopped by an entry. -/
theorem Comes.stopped (h : Comes s u) (up : s.mainUp = true) (down : u.mainUp = false) : u.Stopped := by
  cases h with
  | within h =>
    rw [h.up up] at down
    cases down
  | retain => exact enterRetain_stopped _ _ _
  | startup => exact enterStartup_stopped _ _
  | back => exact returnFromOff_stopped _ _

theorem exec_keeps_stopped {c : Instr} {t : State} (h : s.mainUp = false → s.Stopped) (e : exec c s = .next t)
    (down : t.mainUp = false) : t.Stopped := by
  cases up : s.mainUp
  · cases hc : downCommand c
    · rw [exec_idle c s (not_occurs_stopped up (h up) hc)] at e
      cases e
      exact h down
    · obtain ⟨u, e', hu⟩ := exec_stopped (h up) hc
      rw [e'] at e
      cases e
      exact hu.settled s
  · obtain ⟨u, e', hu⟩ := exec_comes c s
    rw [e'] at e
    cases e
    rw [conclude_mainUp] at down
    exact (hu.stopped up down).settled s

/-- Settles O13: a down node takes up only the commands of its pins, its supplies and its tracker; an entry to RETAIN
starts every record again. -/
theorem mainIsStoppedKept : Obligations.MainIsStoppedKept := by
  intro s t hs ht
  rw [mainIsStopped_iff] at hs ⊢
  unfold step at ht
  split at ht
  · cases ht
    exact hs
  · next c rest _ =>
    refine fun down => exec_keeps_stopped (s := s.setPending rest) (fun up => ?_) ht down
    obtain ⟨a, b, c, d, e, f, g, h, i, j, k, l, m, n, o⟩ := hs up
    exact ⟨a, b, c, d, e, f, g, h, i, j, k, l, m, n, o⟩

/-! ### One step, and the state after reset -/

/-- Settles O1. -/
theorem stepRunsTheFrontCommand : Obligations.StepRunsTheFrontCommand := by
  unfold Obligations.StepRunsTheFrontCommand
  constructor
  · intro c s rest h
    simp only [step, h]
    rfl
  · intro s h
    simp only [step, h]

theorem reset_linkBounded : LinkBounded State.reset := by
  constructor <;> decide

theorem reset_calibrationInRange : CalibrationInRange State.reset where
  begun _ := ⟨.inl rfl, rfl, rfl, rfl, rfl⟩
  ranges := by
    unfold calInRange
    decide
  valid h := by cases h
  writing h := by cases h

theorem reset_countersInRange : CountersInRange State.reset := by
  constructor
  case ages => exact fun _ he => by cases he
  case quietRun => exact fun _ hn => by cases hn
  all_goals decide

theorem reset_countFormed : CountFormed State.reset := by
  unfold CountFormed
  decide

/-- Settles O3: the reset state is a start of every record. -/
theorem resetStateAndInvariants : Obligations.ResetStateAndInvariants := by
  refine ⟨?_, gateFollows_of_start rfl, reset_countFormed, ⟨by decide, reset_calibrationInRange.begun⟩,
    reset_linkBounded, ?_, ⟨by decide, by decide⟩, reset_calibrationInRange, ?_, rfl, reset_countersInRange⟩
  · and_intros <;> rfl
  · intro down
    cases down
  · intro _ free
    cases free

end Sys2Proof.Machine
end

section
/-! SUPPORT. The arithmetic of the Position Unit: rounding, the coarse angle, the candidates, the vernier, the count update,
the play and the joint position, and the tables of the restore (O17 to O19, O21 to O23). -/

namespace Sys2Proof.Machine

/-! ### Rounding (R2) -/

theorem roundDiv_neg (a : Int) (b : Nat) (hb : 0 < b) : roundDiv (-a) b = -roundDiv a b := by
  have zero : (b : Int) / (2 * b) = 0 := Int.ediv_eq_zero_of_lt (by omega) (by omega)
  unfold roundDiv
  rcases lt_trichotomy a 0 with h | rfl | h
  · rw [if_pos (by omega), if_neg (by omega), neg_neg]
  · simp [zero]
  · rw [if_neg (by omega), if_pos (by omega), neg_neg]

/-- A tie is rounded away from zero. -/
theorem roundDiv_tie {a : Int} {b : Nat} (hb : 0 < b) (h : 2 * |a - b * roundDiv a b| = b) : |a| < |b * roundDiv a b| := by
  wlog ha : 0 ≤ a generalizing a
  · have e : -a - b * roundDiv (-a) b = -(a - b * roundDiv a b) := by
      rw [roundDiv_neg a b hb]
      ring
    have := @this (-a) (by rw [e, abs_neg, h]) (by omega)
    rwa [roundDiv_neg a b hb, abs_neg, mul_neg, abs_neg] at this
  · have e : roundDiv a b = (2 * a + b) / (2 * b) := if_pos ha
    have div := Int.mul_ediv_add_emod (2 * a + b) (2 * b)
    have r0 := Int.emod_nonneg (2 * a + b) (b := 2 * b) (by omega)
    have r1 := Int.emod_lt_of_pos (2 * a + b) (b := 2 * b) (by omega)
    rw [← e, mul_assoc] at div
    generalize (b : Int) * roundDiv a b = m at *
    rw [abs_of_nonneg ha]
    rcases abs_cases (a - m) with e1 | e1 <;> rcases abs_cases m with e2 | e2 <;> omega

theorem abs_roundDiv_le (a : Int) {b : Nat} (hb : 0 < b) : 2 * |a - b * roundDiv a b| ≤ b := by
  obtain ⟨hi, lo⟩ := roundDiv_near a b hb
  have : |2 * (a - b * roundDiv a b)| ≤ b := abs_le.2 ⟨lo, hi⟩
  rwa [abs_mul, abs_two] at this

/-- A part of a difference lies between its ends. -/
theorem roundDiv_part_bounds {d : Int} {f : Nat} (hf : f < 128) (lo : Int) :
    min lo (lo + d) ≤ lo + roundDiv (d * f) 128 ∧ lo + roundDiv (d * f) 128 ≤ max lo (lo + d) := by
  obtain ⟨h1, h2⟩ := roundDiv_near (d * f) 128 (by decide)
  generalize roundDiv (d * f) 128 = q at *
  have hf' : (f : Int) ≤ 127 := by omega
  rcases le_total 0 d with hd | hd
  · have a : 0 ≤ d * f := by positivity
    have b : d * f ≤ d * 127 := by gcongr
    push_cast at h1 h2
    omega
  · have a : d * f ≤ 0 := mul_nonpos_of_nonpos_of_nonneg hd (by positivity)
    have b : d * 127 ≤ d * f := mul_le_mul_of_nonpos_left hf' hd
    push_cast at h1 h2
    omega

/-! ### The coarse angle (R15, R16) -/

theorem binOf_eq (g : CoarseAngle) :
    binOf g = ((((g.toNat : Int) - 64) % 4096 / 128).toNat, (((g.toNat : Int) - 64) % 4096 % 128).toNat) := by
  have e : ((g - 64#12).toNat : Int) = ((g.toNat : Int) - 64) % 4096 := by
    rw [BitVec.toNat_sub]
    have := g.isLt
    simp
    omega
  unfold binOf
  simp only [Prod.mk.injEq]
  omega

theorem correctedAngle_toNat (c : CalRecord) (g : CoarseAngle) :
    ((correctedAngle c g).toNat : Int) = (16 * g.toNat + correction c g) % 65536 := by
  unfold correctedAngle
  rw [BitVec.toNat_ofInt]
  omega

theorem coarseJoint_bounds (c : CalRecord) (q : Sixteenths) : -524288 ≤ coarseJoint c q ∧ coarseJoint c q ≤ 524272 := by
  unfold coarseJoint
  have := signed65536_bounds (q.toNat - c.zg.toNat)
  omega

/-- Settles O17. -/
theorem roundingAndCorrectedCoarseAngle : Obligations.RoundingAndCorrectedCoarseAngle := by
  refine ⟨⟨fun a b hb => ⟨abs_roundDiv_le a hb, roundDiv_tie hb⟩, by decide, by decide, wrapS_bounds, signed65536_bounds⟩,
    fun c g => ?_⟩
  intro u b f lo hi corr
  have hb : b < 32 := by omega
  have hf : f < 128 := by omega
  have e : correction c g = corr := by
    have split : binOf g = (b, f) := binOf_eq g
    simp only [correction, split, corrBin, Nat.mod_eq_of_lt hb]
    rfl
  have bounds := roundDiv_part_bounds (d := hi - lo) hf lo
  rw [add_sub_cancel] at bounds
  exact ⟨hb, hf, e, bounds.1, bounds.2, e ▸ correctedAngle_toNat c g, coarseJoint_bounds c _⟩

/-! ### The candidates (R17) -/

theorem le_kAtLeast (base lo k : Int) : kAtLeast base lo ≤ k ↔ lo ≤ base + k * 1048576 := by
  unfold kAtLeast revolution
  omega

theorem kAtMost_le (base hi k : Int) : k ≤ kAtMost base hi ↔ base + k * 1048576 ≤ hi := by
  unfold kAtMost revolution
  omega

/-- Among the candidates from `lo` to `hi` the clamped nearest one is nearest, the lower of two equally near. -/
theorem nearest_clamped {base x lo hi : Int} (h : lo ≤ hi) {k : Int} (hk : lo ≤ k ∧ k ≤ hi) :
    let j := base + clampInt lo hi (kNearest base x) * 1048576
    |j - x| < |base + k * 1048576 - x| ∨ (|j - x| = |base + k * 1048576 - x| ∧ j ≤ base + k * 1048576) := by
  intro j
  have near := kNearest_near base x
  have ej : j = base + clampInt lo hi (kNearest base x) * 1048576 := rfl
  rw [clampInt_eq h] at ej
  generalize kNearest base x = n at *
  rcases abs_cases (j - x) with e1 | e1 <;> rcases abs_cases (base + k * 1048576 - x) with e2 | e2 <;> omega

theorem candidates_count (c : CalRecord) {w : Window} (h : c.window = some w) (base : Int) (guide : Option Int) :
    (candidates c base guide).count = (kAtMost base (w.hi + c.m) - kAtLeast base (w.lo - c.m) + 1).toNat := by
  simp [candidates, h]

/-- The candidate that is chosen: the only one, or the nearest to the guide (R17). -/
theorem candidates_chosen (c : CalRecord) {w : Window} (h : c.window = some w) (base : Int) (guide : Option Int) :
    (candidates c base guide).chosen =
      if (candidates c base guide).count = 0 then none
      else if (candidates c base guide).count = 1 then some (base + kAtLeast base (w.lo - c.m) * 1048576)
      else guide.map fun x =>
        base + clampInt (kAtLeast base (w.lo - c.m)) (kAtMost base (w.hi + c.m)) (kNearest base x) * 1048576 := by
  simp only [candidates, h]
  rfl

/-- Settles O18. -/
theorem candidatesWithinTheWindow : Obligations.CandidatesWithinTheWindow := by
  intro c w base guide hw
  have hc := candidates_count c hw base guide
  have hx := candidates_chosen c hw base guide
  have hlo := le_kAtLeast base (w.lo - c.m)
  have hhi := kAtMost_le base (w.hi + c.m)
  generalize kAtLeast base (w.lo - c.m) = lo at *
  generalize kAtMost base (w.hi + c.m) = hi at *
  refine ⟨⟨lo, hi, fun k => by rw [hlo, hhi], hc⟩, ?_, ?_, ?_, ?_, ?_⟩
  · intro ok hm
    simp only [windowOk, Bool.and_eq_true, decide_eq_true_eq] at ok
    have := (hlo lo).1 (Int.le_refl _)
    have := (hhi hi).1 (Int.le_refl _)
    omega
  · intro h0
    rw [hx, if_pos h0]
  · intro h2 hg
    rw [hx, if_neg (by omega), if_neg (by omega), hg]
    rfl
  · intro x h
    have at_ {j : Int} (hj : lo ≤ j ∧ j ≤ hi) : w.lo - c.m ≤ base + j * 1048576 ∧ base + j * 1048576 ≤ w.hi + c.m ∧
        (base + j * 1048576 - base) % 1048576 = 0 := ⟨(hlo j).1 hj.1, (hhi j).1 hj.2, by omega⟩
    rw [hx] at h
    split at h
    · cases h
    · next h0 =>
      have hle : lo ≤ hi := by omega
      split at h
      · next h1 =>
        cases h
        obtain ⟨a, b, d⟩ := at_ ⟨Int.le_refl lo, hle⟩
        refine ⟨a, b, d, fun g k _ l u => ?_⟩
        have e : k = lo := by
          have := (hlo k).2 l
          have := (hhi k).2 u
          omega
        exact .inr ⟨by rw [e], by rw [e]⟩
      · obtain ⟨g, hg, rfl⟩ := Option.map_eq_some_iff.1 h
        have inside : lo ≤ clampInt lo hi (kNearest base g) ∧ clampInt lo hi (kNearest base g) ≤ hi := by
          rw [clampInt_eq hle]
          omega
        obtain ⟨a, b, d⟩ := at_ inside
        refine ⟨a, b, d, fun g' k e l u => ?_⟩
        rw [hg] at e
        cases e
        exact nearest_clamped hle ⟨(hlo k).2 l, (hhi k).2 u⟩
  · rintro (h1 | ⟨h2, hg⟩)
    · rw [hx, if_neg (by omega), if_pos h1]
      rfl
    · rw [hx, if_neg (by omega), if_neg (by omega), Option.isSome_map]
      exact hg

/-! ### The vernier (R18, R19) -/

theorem candidates_none_of_zero {c : CalRecord} {base : Int} {guide : Option Int} (h : (candidates c base guide).count = 0) :
    (candidates c base guide).chosen = none := by
  cases hw : c.window with
  | none => simp [candidates, hw]
  | some w => rw [candidates_chosen c hw, if_pos h]

theorem candidates_none_of_unguided {c : CalRecord} {base : Int} (h : 2 ≤ (candidates c base none).count) :
    (candidates c base none).chosen = none := by
  cases hw : c.window with
  | none => simp [candidates, hw]
  | some w =>
    rw [candidates_chosen c hw, if_neg (by omega), if_neg (by omega)]
    rfl

/-- The turn number of a candidate gives the nearest count, a tie away from 0. -/
theorem vernierTurn_nearest {c : CalRecord} {ratio : Ratio} (h : c.ratio = some ratio) (jc k : Int) (θ : Theta) :
    let pg := c.z + roundDiv (jc * ratio.num) (64 * ratio.den) + k
    let v := vernierTurn c jc k θ
    v.1 = roundDiv (pg - θ.toNat) 16384 ∧ pg = v.1 * 16384 + θ.toNat + v.2 ∧ -8192 ≤ v.2 ∧ v.2 ≤ 8192 ∧
    (∀ t : Int, |v.2| ≤ |pg - (t * 16384 + θ.toNat)|) ∧ (v.2 = -8192 → 0 < pg - θ.toNat) ∧ (v.2 = 8192 → pg - θ.toNat < 0) := by
  intro pg v
  have hr : ratioInUse c = ratio := by simp [ratioInUse, h]
  have e1 : v.1 = roundDiv (pg - θ.toNat) 16384 := by
    simp only [v, vernierTurn, hr]
    rfl
  have e2 : v.2 = pg - θ.toNat - 16384 * v.1 := by
    simp only [v, vernierTurn, hr]
    rfl
  have near := roundDiv_near (pg - θ.toNat) 16384 (by decide)
  have tie := roundDiv_tie (a := pg - θ.toNat) (b := 16384) (by decide)
  rw [← e1] at near tie
  push_cast at near tie
  rw [← e2] at near tie
  have ties (hv : v.2 = -8192 ∨ v.2 = 8192) : |pg - θ.toNat| < |16384 * v.1| :=
    tie (by rcases hv with hv | hv <;> rw [hv] <;> rfl)
  refine ⟨e1, by omega, by omega, by omega, fun t => ?_, fun hv => ?_, fun hv => ?_⟩
  · rcases abs_cases v.2 with a1 | a1 <;> rcases abs_cases (pg - (t * 16384 + θ.toNat)) with a2 | a2 <;> omega
  · have := ties (.inl hv)
    rcases abs_cases (pg - (θ.toNat : Int)) with a1 | a1 <;> rcases abs_cases (16384 * v.1) with a2 | a2 <;> omega
  · have := ties (.inr hv)
    rcases abs_cases (pg - (θ.toNat : Int)) with a1 | a1 <;> rcases abs_cases (16384 * v.1) with a2 | a2 <;> omega

theorem vernier_of_none {cal : WorkingCal} {known : Bool} {base k : Int} {θ : Theta} {guide : Option Int}
    (h : (candidates cal.data base guide).chosen = none) :
    vernier cal true known base k θ guide =
      ⟨if (candidates cal.data base guide).count = 0 then .outside else .ambiguous, 0, 0, 0,
        (candidates cal.data base guide).count⟩ := by
  simp [vernier, h]

theorem vernier_of_chosen {cal : WorkingCal} {known : Bool} {base k jc : Int} {θ : Theta} {guide : Option Int}
    (h : (candidates cal.data base guide).chosen = some jc) :
    vernier cal true known base k θ guide =
      ⟨vernierStatus (vernierTolerance cal known) (vernierTurn cal.data jc k θ).1 (vernierTurn cal.data jc k θ).2,
        (vernierTurn cal.data jc k θ).1, (vernierTurn cal.data jc k θ).2, 8192 - |(vernierTurn cal.data jc k θ).2|,
        (candidates cal.data base guide).count⟩ := by
  simp [vernier, h]

theorem vernierStatus_outside {tol t r : Int} (h : t < -32768 ∨ 32767 < t) : vernierStatus tol t r = .outside := by
  have ht : inRange turnMin turnMax t = false := inRange_eq_false_iff.2 h
  simp [vernierStatus, ht]

theorem vernierStatus_inside {tol t r : Int} (h1 : -32768 ≤ t) (h2 : t ≤ 32767) :
    vernierStatus tol t r = if |r| ≤ tol then .clear else .weak := by
  have ht : inRange turnMin turnMax t = true := inRange_iff.2 ⟨h1, h2⟩
  simp [vernierStatus, ht]

/-- Settles O19. -/
theorem vernierTurnAndStatus : Obligations.VernierTurnAndStatus := by
  refine ⟨fun c ratio jc k θ h _ => vernierTurn_nearest h jc k θ, fun cal usable known base k θ guide => ?_⟩
  refine ⟨?_, ?_, ?_, ?_, ?_⟩
  · rintro rfl
    rfl
  · rintro rfl h0
    rw [vernier_of_none (candidates_none_of_zero h0), if_pos h0, h0]
  · rintro rfl h2 rfl
    rw [vernier_of_none (candidates_none_of_unguided h2), if_neg (by omega)]
  · rintro jc rfl h
    rw [vernier_of_chosen h]
    refine ⟨rfl, rfl, rfl, rfl, vernierStatus_outside, fun l u hr => ?_, fun l u hr => ?_⟩
    · exact (vernierStatus_inside l u).trans (if_pos hr)
    · exact (vernierStatus_inside l u).trans (if_neg (not_le.2 hr))
  · intro hv
    split <;> omega

/-! ### The count update (R3 to R8, R37) -/

section CountGood

variable {h : Int} {jumpLimit : Nat} {θ : Theta} {u : PositionUnit}

theorem countGood_first (he : u.established = false) : countGood h jumpLimit θ u = firstRead h θ u := by
  simp [countGood, he]

theorem countGood_rebase (he : u.established = true) (hf : 3 ≤ u.failedRun) :
    countGood h jumpLimit θ u = rebaseRead h (motionOf θ u.thetaLast) θ u := by
  simp [countGood, he, hf]

theorem countGood_counted (he : u.established = true) (hf : u.failedRun < 3)
    (hd : |motionOf θ u.thetaLast| ≤ (jumpBound jumpLimit (u.failedRun + 1) : Int)) :
    countGood h jumpLimit θ u = countedRead h (motionOf θ u.thetaLast) (u.failedRun + 1) θ u := by
  simp [countGood, he, hf.not_ge, hd]

theorem countGood_jump (he : u.established = true) (hf : u.failedRun < 3)
    (hd : (jumpBound jumpLimit (u.failedRun + 1) : Int) < |motionOf θ u.thetaLast|) :
    countGood h jumpLimit θ u = jumpRead h θ u := by
  simp [countGood, he, hf.not_ge, hd.not_ge]

theorem jumpBound_eq (jumpLimit n : Nat) : (jumpBound jumpLimit n : Int) = min 8191 ((jumpLimit * n : Nat) : Int) := by
  unfold jumpBound
  omega

theorem playKnown_beq (h : Int) : (h == 0) = true ↔ h = 0 := beq_iff_eq

/-- The play update reads s, play-known and A only. -/
theorem playUpdate_congr {v : PositionUnit} (d : Int) (hk : v.playKnown = u.playKnown) (hs : v.s = u.s) (ha : v.acc = u.acc) :
    (playUpdate h d v).s = (playUpdate h d u).s ∧ (playUpdate h d v).acc = (playUpdate h d u).acc ∧
    (playUpdate h d v).playKnown = (playUpdate h d u).playKnown := by
  unfold playUpdate learnPlay
  rw [hk, hs, ha]
  repeat' split
  all_goals exact ⟨rfl, rfl, rfl⟩

/-- What every good read leaves: the angle, an end of the failed run, ABS, and a count of the angle. -/
theorem countGood_common (hp : u.p % 16384 = (u.thetaLast.toNat : Int)) :
    (countGood h jumpLimit θ u).pos.thetaLast = θ ∧ (countGood h jumpLimit θ u).pos.failedRun = 0 ∧
    (countGood h jumpLimit θ u).pos.abs = u.abs ∧ (countGood h jumpLimit θ u).pos.p % 16384 = (θ.toNat : Int) := by
  have low (t : Int) : countOf t θ % 16384 = (θ.toNat : Int) := by
    have := θ.isLt
    unfold countOf
    omega
  have moved := (addMotion_formed (θ := θ) hp).1
  cases he : u.established
  · rw [countGood_first he]
    exact ⟨rfl, rfl, rfl, low 0⟩
  · by_cases hf : 3 ≤ u.failedRun
    · rw [countGood_rebase he hf]
      exact ⟨rfl, rfl, rfl, moved⟩
    · by_cases hd : |motionOf θ u.thetaLast| ≤ (jumpBound jumpLimit (u.failedRun + 1) : Int)
      · rw [countGood_counted he (not_le.1 hf) hd]
        have frame := playUpdate_frame h (motionOf θ u.thetaLast)
          { u with p := (addMotion u.p (motionOf θ u.thetaLast) θ).1, thetaLast := θ,
                   deltaLast := roundDiv (motionOf θ u.thetaLast) (u.failedRun + 1), failedRun := 0,
                   lastDir := directionOf (motionOf θ u.thetaLast) u.lastDir }
        obtain ⟨fp, ft, -, ff, fa, -⟩ := frame
        exact ⟨ft, ff, fa, fp.symm ▸ moved⟩
      · rw [countGood_jump he (not_le.1 hf) (not_le.1 hd)]
        exact ⟨rfl, rfl, rfl, low _⟩

end CountGood

/-- Settles O21. -/
theorem countUpdateOfAGoodRead : Obligations.CountUpdateOfAGoodRead := by
  intro h jumpLimit θ u hp _ _ n d limit x direction moved ranged
  have hlimit : (jumpBound jumpLimit (u.failedRun + 1) : Int) = limit := jumpBound_eq _ _
  obtain ⟨c1, c2, c3, c4⟩ := countGood_common (h := h) (jumpLimit := jumpLimit) (θ := θ) hp
  obtain ⟨m1, m2⟩ := addMotion_eq u.p d θ
  have hdir : directionOf d u.lastDir = direction := rfl
  refine ⟨c1, c2, c3, c4, fun he => ?first, fun he hf => ?rebase, fun he hf hd => ?counted, fun he hf hd => ?jump⟩
  case first =>
    have e : x = firstRead h θ u := countGood_first he
    rw [e]
    exact ⟨rfl, by simp [firstRead, countOf], rfl, rfl, rfl, rfl, rfl, rfl, playKnown_beq h⟩
  case rebase =>
    have e : x = rebaseRead h d θ u := countGood_rebase he hf
    rw [e]
    exact ⟨m1, m2, rfl, rfl, hdir, rfl, rfl, playKnown_beq h⟩
  case counted =>
    have e : x = countedRead h d n θ u := countGood_counted he hf (hlimit.symm ▸ hd)
    have frame := playUpdate_frame h d
      { u with p := (addMotion u.p d θ).1, thetaLast := θ, deltaLast := roundDiv d n, failedRun := 0,
               lastDir := directionOf d u.lastDir }
    obtain ⟨fp, -, fd, -, -, fl⟩ := frame
    obtain ⟨ps, pa, pk⟩ := playUpdate_congr (h := h) (u := u)
      (v := { u with p := (addMotion u.p d θ).1, thetaLast := θ, deltaLast := roundDiv d n, failedRun := 0,
                     lastDir := directionOf d u.lastDir }) d rfl rfl rfl
    rw [e]
    exact ⟨fp.trans m1, m2, rfl, fd, fl.trans hdir, ps, pa, pk⟩
  case jump =>
    have e : x = jumpRead h θ u := countGood_jump he hf (hlimit.symm ▸ hd)
    rw [e]
    exact ⟨rfl, rfl, rfl, rfl, rfl, rfl, rfl, playKnown_beq h⟩

/-! ### A failed read, the play, and J (R5, R7, R10 to R13) -/

theorem inRange_eq_false_int32 (x : Int) : (!inRange int32Min int32Max x) = true ↔ x < -2147483648 ∨ 2147483647 < x := by
  rw [Bool.not_eq_true', inRange_eq_false_iff]
  rfl

/-- Settles O22. -/
theorem failedReadPlayAndJoint : Obligations.FailedReadPlayAndJoint := by
  refine ⟨fun u => ⟨?_, ?_, ?_, fun _ => rfl, fun _ => rfl⟩, ?_, ?_⟩
  · intro he
    simp [countFailed, he]
  · intro he hf
    have hs : satSucc 255 u.failedRun = u.failedRun + 1 := if_pos (by omega)
    simp only [countFailed, he, Bool.not_true, Bool.false_eq_true, if_false, hs, extrapolatedCount]
    rw [if_pos (by omega), clampInt_eq (by decide)]
    rfl
  · intro he hf
    have hs : satSucc 255 u.failedRun = min 255 (u.failedRun + 1) := satSucc_eq_min _ _
    simp only [countFailed, he, Bool.not_true, Bool.false_eq_true, if_false, hs]
    exact ⟨if_neg (by omega), trivial⟩
  · intro h d u hh a
    refine ⟨fun hk => ?_, fun hk ha => ?_, fun hk ha => ?_⟩
    · simp only [playUpdate, hk, if_true]
      rw [clampInt_eq (by omega)]
    · simp only [playUpdate, hk, Bool.false_eq_true, if_false]
      exact (if_neg (not_le.2 ha)).trans (by rw [hk])
    · simp only [playUpdate, hk, Bool.false_eq_true, if_false]
      exact if_pos ha
  · intro cal coupled count k ratio exact_ x
    refine ⟨fun hv hr => ?_, fun hv => ?_, fun _ => rfl⟩
    · have e : jointExact cal.data (count - k) = exact_ := by simp only [jointExact, ratioInUse, hr, Option.getD_some, exact_]
      have ex : x = ⟨clampInt int32Min int32Max exact_, !inRange int32Min int32Max exact_, some (count - k), k⟩ := by
        simp only [x, formJoint, hv, if_true, e]
      rw [ex]
      exact ⟨clampInt_eq (by decide) _, rfl, rfl, inRange_eq_false_int32 _⟩
    · have ex : x = ⟨0, false, if coupled then none else some count, 0⟩ := by
        simp [x, formJoint, hv]
      rw [ex]
      exact ⟨rfl, rfl, rfl, fun hc => if_pos hc⟩

/-! ### The restore decisions (R65, R68, R73) -/

theorem quadrant_sub_two (q r : Quadrant) : q - r = 2#2 ↔ (q.toNat + 4 - r.toNat) % 4 = 2 := by
  revert q r
  decide

/-- Settles O23. -/
theorem restoreTables : Obligations.RestoreTables := by
  refine ⟨fun r q => ⟨fun c hv => ?_, fun hv => ?_, fun hv h2 => ?_, fun hv h2 => ?_⟩, ⟨fun v alone other t => ?_,
    fun v alone why => ?_, fun v t => ?_⟩⟩
  · exact if_pos hv
  · simp [retainedOutcome, hv]
  · simp [retainedOutcome, hv, (quadrant_sub_two _ _).2 h2]
  · intro t
    have hq : ¬(q - r.qRet = 2#2) := mt (quadrant_sub_two _ _).1 h2
    have ht : adjustTurn r.tRet r.qRet q = t := rfl
    have e : retainedOutcome r true q = if inRange turnMin turnMax t then .adjusted t else .unusable .range := by
      simp [retainedOutcome, hv, hq, ht]
    rw [e]
    by_cases hr : t < -32768 ∨ 32767 < t
    · rw [if_pos hr, (inRange_eq_false_iff.2 hr : inRange turnMin turnMax t = false)]
      rfl
    · rw [if_neg hr, if_pos (inRange_iff.2 (by simpa [turnMin, turnMax] using hr))]
  · refine ⟨fun h e => ?_, fun h e => ?_, fun h => ?_, fun h => ?_⟩ <;> simp [initialDecision, *]
  · refine ⟨fun h => ?_, ?_, fun h => ?_⟩ <;> simp [initialDecision, *]
  · refine ⟨fun h e => ?_, fun h e => ?_, fun h => ?_⟩ <;> simp [confirmDecision, *]

end Sys2Proof.Machine
end

section
/-! SUPPORT. What a notice, a condition gone and CLEAR_FAULTS make of the supervisor's record and of the node (O27, O28),
the views of the active set (O24), and the drift monitor, whose third run raises VERNIER_DRIFT (O20). -/

namespace Sys2Proof.Machine

variable {s : State}

/-! ### The supervisor's record after a notice (R176 to R183) -/

theorem noticeWith_retryTimer (k : FaultKind) (why : JumpReason) (s : State) :
    (noticeWith k why s).faults.retryTimer =
      if k = .motorEncoder ∧ s.setup.latched.recovery = .retry then .running else s.faults.retryTimer := by
  cases h : s.active k
  · rw [noticeWith_entry k why s h]
  · rw [noticeWith_repeat k why s h]

theorem noticeWith_haltCount (k : FaultKind) (why : JumpReason) (s : State) :
    (noticeWith k why s).faults.haltCount = s.faults.haltCount := by
  cases h : s.active k
  · rw [noticeWith_entry k why s h]
    rfl
  · rw [noticeWith_repeat k why s h]

theorem noticeWith_present (k : FaultKind) (why : JumpReason) (s : State) :
    (noticeWith k why s).faults.present = notedPresent s.faults.present k := by
  cases h : s.active k
  · rw [noticeWith_entry k why s h]
    rfl
  · rw [noticeWith_repeat k why s h]

/-- A notice leaves every other kind as it was. -/
theorem noticeWith_other {k j : FaultKind} (why : JumpReason) (s : State) (h : j ≠ k) :
    kindHas (noticeWith k why s).faults.active j = s.active j ∧
    kindHas (noticeWith k why s).faults.present j = kindHas s.faults.present j ∧
    kindHas (noticeWith k why s).faults.latchedSet j = kindHas s.faults.latchedSet j := by
  rw [noticeWith_present, notedPresent_other _ h]
  cases ha : s.active k
  · rw [noticeWith_entry k why s ha]
    simp [enterKind, State.active, h.symm]
  · rw [noticeWith_repeat k why s ha]
    exact ⟨rfl, rfl, rfl⟩

/-! ### The loss of the absolute count (R74, R95, R177) -/

theorem moveNode_node (n : NodeRecord) (s : State) : (moveNode n s).node = n := by simp

theorem demote_node (s : State) :
    (demote s).node = { s.node with state := .unreferenced, reason := .fault, basis := .none, confirmed := false } :=
  moveNode_node _ s

theorem demoteByState_pos (s : State) : (demoteByState s).pos = s.pos := by
  unfold demoteByState
  split <;> simp

theorem reasonByState_pos (entry : Bool) (s : State) : (reasonByState entry s).pos = s.pos := by
  unfold reasonByState
  split
  · split <;> simp
  all_goals simp

/-- Before the INITIAL decision only the continuity is lost (log 54). -/
theorem removeAbsolute_beforeDecision (entry : Bool) (h : s.beforeDecision = true) :
    removeAbsolute entry s = (s.setPos (if s.pos.abs then { s.pos with abs := false, driftRun := 0 } else s.pos)).setNode
      { s.node with continuity := s.node.continuity && !s.pos.established } := by
  unfold removeAbsolute clearAbsolute
  simp only
  rw [if_pos h]
  cases s.pos.abs <;> rfl

theorem removeAbsolute_of_abs (entry : Bool) (hb : s.beforeDecision = false) (ha : s.pos.abs = true) :
    removeAbsolute entry s = demoteByState (s.setPos { s.pos with abs := false, driftRun := 0 }) := by
  simp [removeAbsolute, clearAbsolute, hb, ha]

theorem removeAbsolute_of_relative (entry : Bool) (hb : s.beforeDecision = false) (ha : s.pos.abs = false) :
    removeAbsolute entry s = reasonByState entry s := by
  simp [removeAbsolute, hb, ha]

theorem removeAbsolute_pos (entry : Bool) (s : State) :
    (removeAbsolute entry s).pos = if s.pos.abs then { s.pos with abs := false, driftRun := 0 } else s.pos := by
  cases hb : s.beforeDecision
  · cases ha : s.pos.abs
    · rw [removeAbsolute_of_relative entry hb ha, reasonByState_pos]
      rfl
    · rw [removeAbsolute_of_abs entry hb ha, demoteByState_pos]
      rfl
  · rw [removeAbsolute_beforeDecision entry hb]
    rfl

theorem inHoming_iff (s : State) : s.inHoming = true ↔ ∃ sub, s.node.state = .homing sub := by
  unfold State.inHoming
  split <;> simp_all

/-- What a notice of a removing kind makes of the node, its homing and its sweep, case by case (R74, R95, R177). -/
theorem removing_notice {k : FaultKind} (why : JumpReason) (s : State) (hk : removingKind k = true) :
    ∃ s', s'.node = s.node ∧ s'.pos = s.pos ∧ s'.homing = s.homing ∧ s'.sweep = s.sweep ∧
      noticeWith k why s = removeAbsolute (!s.active k) s' := by
  obtain ⟨f, g, e⟩ := noticeWith_removing k why s hk
  exact ⟨(s.setFaults f).setGate g, rfl, rfl, rfl, rfl, e⟩

section Removal

variable {k : FaultKind} {why : JumpReason} (hk : removingKind k = true)
include hk

theorem noticeWith_pos_removing :
    (noticeWith k why s).pos = if s.pos.abs then { s.pos with abs := false, driftRun := 0 } else s.pos := by
  obtain ⟨s', -, hp, -, -, e⟩ := removing_notice why s hk
  rw [e, removeAbsolute_pos, hp]

theorem noticeWith_node_beforeDecision (h : s.beforeDecision = true) :
    (noticeWith k why s).node = { s.node with continuity := s.node.continuity && !s.pos.established } := by
  obtain ⟨s', hn, hp, -, -, e⟩ := removing_notice why s hk
  have hb : s'.beforeDecision = true := by rwa [State.beforeDecision, hn]
  rw [e, removeAbsolute_beforeDecision _ hb, ← hn, ← hp]
  rfl

variable (hb : s.beforeDecision = false)
include hb

theorem noticeWith_of_abs (ha : s.pos.abs = true) :
    ∃ s', s'.node = s.node ∧ s'.homing = s.homing ∧ s'.sweep = s.sweep ∧ noticeWith k why s = demoteByState s' := by
  obtain ⟨s', hn, hp, hh, hw, e⟩ := removing_notice why s hk
  have hb' : s'.beforeDecision = false := by rwa [State.beforeDecision, hn]
  refine ⟨s'.setPos { s'.pos with abs := false, driftRun := 0 }, hn, hh, hw, ?_⟩
  exact e.trans (removeAbsolute_of_abs _ hb' (hp ▸ ha))

theorem noticeWith_of_relative (ha : s.pos.abs = false) :
    ∃ s', s'.node = s.node ∧ s'.homing = s.homing ∧ noticeWith k why s = reasonByState (!s.active k) s' := by
  obtain ⟨s', hn, hp, hh, -, e⟩ := removing_notice why s hk
  have hb' : s'.beforeDecision = false := by rwa [State.beforeDecision, hn]
  exact ⟨s', hn, hh, e.trans (removeAbsolute_of_relative _ hb' (hp ▸ ha))⟩

end Removal

theorem beforeDecision_of_later {s : State} (h : ∀ sub, s.node.state ≠ .restoring sub) (hs : s.node.state ≠ .startup) :
    s.beforeDecision = false := by
  unfold State.beforeDecision
  split <;> simp_all

theorem beforeDecision_of_confirmation {s : State} (h : s.node.phase = .confirmation) (hs : s.node.state ≠ .startup) :
    s.beforeDecision = false := by
  unfold State.beforeDecision
  split <;> simp_all

/-- The node record of a demotion (R74). -/
def NodeRecord.demoted (n : NodeRecord) : NodeRecord :=
  { n with state := .unreferenced, reason := .fault, basis := .none, confirmed := false }

/-- A HOMING that a removing notice ends, at its entry or with the count absolute, ends in UNREFERENCED. -/
theorem demote_closeHoming {s t : State} (hn : t.node = s.node) (hh : t.homing = s.homing) :
    (demote (closeHoming .failed .fault t)).node = s.node.demoted ∧
    (demote (closeHoming .failed .fault t)).homing = { s.homing with outcome := .failed, reason := .fault } := by
  rw [demote_node, ← hn, ← hh]
  exact ⟨rfl, by simp [closeHoming]⟩

/-- Settles O27: the supervisor's record by entry and repeat, the node by the removal's cases. -/
theorem noticesOfFaults : Obligations.NoticesOfFaults := by
  refine ⟨fun k why s => ?_, fun k why s => ?_⟩
  · intro t gone rec0
    refine ⟨noticeWith_active k why s, ?_, fun j hj => noticeWith_other why s hj, fun h => ?_, fun h => ?_,
      noticeWith_retryTimer k why s, noticeWith_haltCount k why s⟩
    · have hg : gone ↔ eventKind k = true := (eventKind_iff k).symm
      rw [noticeWith_present, notedPresent_self, hg]
      simp
    · have e := noticeWith_entry k why s h
      refine ⟨by simp [t, e, enterKind], by simp [t, e, enterKind, rec0, State.recordOf], ?_⟩
      cases hf : s.faults.first <;> simp [t, e, enterKind, rec0, State.recordOf, hf]
    · have e := noticeWith_repeat k why s h
      simp only [t, e]
      trivial
  · intro t demoted removes
    have hr : removes ↔ removingKind k = true := (removingKind_iff k).symm
    have settled (h : s.node.state = .referenced ∨ s.inHoming = true ∨ s.node.state = .calibrating ∨
        s.node.state = .unreferenced) : s.beforeDecision = false := by
      rw [inHoming_iff] at h
      unfold State.beforeDecision
      rcases h with h | ⟨sub, h⟩ | h | h <;> rw [h]
    refine ⟨fun h => noticeWith_pos_removing (hr.1 h), fun h ha hs => ?referenced, fun h ha hs => ?homing,
      fun h ha hs => ?calibrating, fun h ha hp hs => ?confirmation, fun h ha hs => ?unreferenced,
      fun h ha hs => ?reason, fun h hs => ?before, fun h ha hs hn => ?homingEntry, fun h ha hs hn => ?homingRepeat,
      fun h => ?abs, fun h hc hact hn hs => ?ended, fun h hs => ?untouched⟩
    case referenced =>
      obtain ⟨s', hn, -, -, e⟩ := noticeWith_of_abs (why := why) (hr.1 h) (settled (.inl hs)) ha
      simp only [t, e, demoteByState, hn, hs]
      rw [demote_node, hn]
    case homing =>
      obtain ⟨s', hn, hh, -, e⟩ := noticeWith_of_abs (why := why) (hr.1 h) (settled (.inr (.inl hs))) ha
      obtain ⟨sub, hs⟩ := (inHoming_iff s).1 hs
      simp only [t, e, demoteByState, hn, hs]
      exact demote_closeHoming hn hh
    case calibrating =>
      obtain ⟨s', hn, -, -, e⟩ := noticeWith_of_abs (why := why) (hr.1 h) (settled (.inr (.inr (.inl hs)))) ha
      simp only [t, e, demoteByState, hn, hs]
      rw [demote_node]
      simp [dropSweep, hn, demoted]
    case confirmation =>
      have hb : s.beforeDecision = false :=
        beforeDecision_of_confirmation hp fun e => by rcases hs with hs | hs <;> rw [hs] at e <;> cases e
      obtain ⟨s', hn, -, -, e⟩ := noticeWith_of_abs (why := why) (hr.1 h) hb ha
      rcases hs with hs | hs <;>
      · simp only [t, e, demoteByState, hn, hs]
        rw [demote_node, hn]
    case unreferenced =>
      obtain ⟨s', hn, -, -, e⟩ := noticeWith_of_abs (why := why) (hr.1 h) (settled (.inr (.inr (.inr hs)))) ha
      simp only [t, e, demoteByState, hn, hs]
      rfl
    case reason =>
      obtain ⟨s', hn, -, e⟩ := noticeWith_of_relative (why := why) (hr.1 h) (settled (.inr (.inr (.inr hs)))) ha
      simp only [t, e, reasonByState, hn, hs]
      simp [reasonFault, hn, hs]
    case before =>
      refine noticeWith_node_beforeDecision (hr.1 h) ?_
      unfold State.beforeDecision
      rcases hs with hs | ⟨hp, hs | hs⟩ <;> rw [hs]
      all_goals simp [hp]
    case homingEntry =>
      obtain ⟨s', hn', hh, e⟩ := noticeWith_of_relative (why := why) (hr.1 h) (settled (.inr (.inl hs))) ha
      obtain ⟨sub, hs⟩ := (inHoming_iff s).1 hs
      simp only [t, e, reasonByState, hn', hs, hn, Bool.not_false, if_true]
      exact demote_closeHoming hn' hh
    case homingRepeat =>
      obtain ⟨s', hn', hh, e⟩ := noticeWith_of_relative (why := why) (hr.1 h) (settled (.inr (.inl hs))) ha
      obtain ⟨sub, hs⟩ := (inHoming_iff s).1 hs
      simp only [t, e, reasonByState, hn', hs, hn]
      simp [reasonFault, hn', hh, hs]
    all_goals
      have hk : removingKind k = false := by rw [← Bool.not_eq_true, ← hr]; exact h
      obtain ⟨f, g, e⟩ := noticeWith_keeping k why s hk
    case abs =>
      simp only [t, e]
      split
      · rfl
      · unfold endHomingByFault
        split <;> simp
    case ended =>
      have hend : t = endHoming .failed .fault ((s.setFaults f).setGate g) := by
        have ha : ((s.setFaults f).setGate g).actionOf k ≠ .report := hact
        simp only [t, e, hn]
        simp [endHomingByFault, ha, hk, hc]
      exact ending_of_eq_endHoming (s := (s.setFaults f).setGate g) hs hend
    case untouched =>
      have hs' : ((s.setFaults f).setGate g).inHoming = false := hs
      simp only [t, e]
      split
      · rfl
      · unfold endHomingByFault endHoming
        simp [hs']

/-! ### A condition gone (R179, R180) -/

theorem depart_eq (k : FaultKind) (s : State) :
    depart k s = { s with
      faults := departKind k s.faults, gate := gateAfter s { s with faults := departKind k s.faults } } := by
  unfold depart moveFaults
  rw [judgeGate_eq]
  rfl

/-- The kinds that leave with their condition leave at once. -/
theorem conditionGone_departs {k : FaultKind} (ha : s.active k = true) (h1 : k ≠ .motorEncoder) (h2 : k ≠ .addressClash)
    (he : eventKind k = false) : conditionGone k s = depart k s := by
  cases k <;> simp_all [conditionGone, eventKind]

theorem departKind_of_ne {k : FaultKind} (h : k ≠ .motorEncoder) (f : FaultSupervisor) :
    departKind k f = { f with active := kindRemove f.active k, present := kindRemove f.present k } := by
  simp [departKind, h]

theorem conditionGone_addressClash (ha : s.active .addressClash = true) :
    conditionGone .addressClash s = conditionCleared .addressClash s := if_pos ha

theorem conditionGone_motorEncoder (ha : s.active .motorEncoder = true) :
    conditionGone .motorEncoder s = retryTest (conditionCleared .motorEncoder s) := if_pos ha

theorem conditionGone_eventKind {k : FaultKind} (s : State) (h : eventKind k = true) : conditionGone k s = s := by
  cases k <;> simp [conditionGone] <;> cases h

theorem retryTest_latched (h : s.setup.latched.recovery = .latched) : retryTest s = s := by
  simp [retryTest, h]

theorem retryTest_departs (hr : s.setup.latched.recovery = .retry) (ha : s.active .motorEncoder = true)
    (ht : s.faults.retryTimer = .expired) (hg : 8 ≤ s.enc.motor.goodRun) : retryTest s = depart .motorEncoder s :=
  if_pos ⟨hr, ha, ht, hg⟩

theorem retryTest_other {j : FaultKind} (s : State) (h : j ≠ .motorEncoder) :
    kindHas (retryTest s).faults.active j = s.active j := by
  unfold retryTest
  split
  · simp [depart_eq, departKind, State.active, h.symm]
  · rfl

theorem conditionGone_other {k j : FaultKind} (s : State) (h : j ≠ k) :
    kindHas (conditionGone k s).faults.active j = s.active j := by
  unfold conditionGone
  split
  · split
    · exact retryTest_other _ h
    all_goals first
      | rfl
      | simp [depart_eq, departKind, State.active, h.symm]
  · rfl

/-! ### CLEAR_FAULTS (R181) -/

theorem departKind_fields (k : FaultKind) (f : FaultSupervisor) :
    (departKind k f).first = f.first ∧ (departKind k f).last = f.last ∧ (departKind k f).haltCount = f.haltCount :=
  ⟨rfl, rfl, rfl⟩

theorem clearKind_fields (f : FaultSupervisor) (k : FaultKind) :
    (clearKind f k).first = f.first ∧ (clearKind f k).last = f.last ∧ (clearKind f k).haltCount = f.haltCount := by
  unfold clearKind
  split <;> exact ⟨rfl, rfl, rfl⟩

/-- One kind's turn leaves every other kind, in the active set and in its condition. -/
theorem clearKind_other (f : FaultSupervisor) {k j : FaultKind} (h : j ≠ k) :
    kindHas (clearKind f k).active j = kindHas f.active j ∧ kindHas (clearKind f k).present j = kindHas f.present j := by
  unfold clearKind
  split
  · simp [departKind, h.symm]
  · exact ⟨rfl, rfl⟩

theorem clearKind_self (f : FaultSupervisor) (k : FaultKind) :
    kindHas (clearKind f k).active k = (kindHas f.active k && !clearable f k) ∧
    (kindHas (clearKind f k).active k = true → kindHas (clearKind f k).present k = kindHas f.present k) := by
  unfold clearKind
  cases ha : kindHas f.active k <;> cases hc : clearable f k <;> simp [ha, departKind]

/-- Whether a kind may be cleared is a matter of the kind and its condition. -/
theorem clearable_congr {f g : FaultSupervisor} {k : FaultKind} (h : kindHas g.present k = kindHas f.present k) :
    clearable g k = clearable f k := by
  cases k <;> simp [clearable] <;> exact h

/-- The removals over a list of kinds, each once. -/
theorem foldl_clearKind (l : List FaultKind) (hl : l.Nodup) (f : FaultSupervisor) (k : FaultKind) :
    kindHas (l.foldl clearKind f).active k = (kindHas f.active k && !(decide (k ∈ l) && clearable f k)) ∧
    (kindHas (l.foldl clearKind f).active k = true → kindHas (l.foldl clearKind f).present k = kindHas f.present k) := by
  induction l generalizing f with
  | nil => simp
  | cons j l ih =>
    obtain ⟨hj, hl⟩ := List.nodup_cons.1 hl
    obtain ⟨active, present⟩ := ih hl (clearKind f j)
    rw [List.foldl_cons]
    by_cases e : k = j
    · subst e
      obtain ⟨a, p⟩ := clearKind_self f k
      rw [active, a]
      simp only [hj, decide_false, Bool.false_and, Bool.not_false, Bool.and_true] at active ⊢
      exact ⟨by simp, fun h => (present (active.trans (a.trans h))).trans (p (a.trans h))⟩
    · obtain ⟨a, p⟩ := clearKind_other f e
      rw [active, a, clearable_congr p]
      refine ⟨by simp [e], fun h => (present ?_).trans p⟩
      rw [active, a, clearable_congr p]
      exact h

theorem foldl_clearKind_fields (l : List FaultKind) (f : FaultSupervisor) :
    (l.foldl clearKind f).first = f.first ∧ (l.foldl clearKind f).last = f.last ∧
    (l.foldl clearKind f).haltCount = f.haltCount := by
  induction l generalizing f with
  | nil => exact ⟨rfl, rfl, rfl⟩
  | cons k l ih =>
    obtain ⟨a, b, c⟩ := ih (clearKind f k)
    obtain ⟨a', b', c'⟩ := clearKind_fields f k
    exact ⟨a.trans a', b.trans b', c.trans c'⟩

theorem mem_allKinds (k : FaultKind) : k ∈ allKinds := by
  cases k <;> decide

/-- The kinds that CLEAR_FAULTS may clear. -/
theorem clearable_iff (f : FaultSupervisor) (k : FaultKind) : clearable f k = true ↔
    k = .trackJump ∨ k = .vernierDrift ∨ k = .travelLimit ∨ k = .storeFailed ∨
      ((k = .motorEncoder ∨ k = .addressClash) ∧ kindHas f.present k = false) := by
  cases k <;> simp [clearable]

/-- Settles O28: a condition gone by its kind, CLEAR_FAULTS by the fold over the kinds. -/
theorem conditionGoneAndClearFaults : Obligations.ConditionGoneAndClearFaults := by
  refine ⟨fun k s => ?_, fun f => ?_⟩
  · intro t gone left
    refine ⟨conditionGone_inactive, fun ha h1 h2 he => ?_, fun ha hk => ?_, fun ha hk hr ht hg => ?_, fun hk => ?_,
      fun j hj => conditionGone_other s hj⟩
    · have e := conditionGone_departs ha h1 h2 he
      rw [depart_eq, departKind_of_ne h1] at e
      exact e
    · rcases hk with rfl | ⟨rfl, hr⟩
      · exact conditionGone_addressClash ha
      · exact (conditionGone_motorEncoder ha).trans (retryTest_latched hr)
    · subst hk
      have e : t = depart .motorEncoder (conditionCleared .motorEncoder s) :=
        (conditionGone_motorEncoder ha).trans (retryTest_departs hr ha ht hg)
      rw [e, depart_eq]
      simp [departKind]
    · exact conditionGone_eventKind s ((eventKind_iff k).2 hk)
  · intro t
    have fold (k : FaultKind) := foldl_clearKind allKinds (by decide) f k
    obtain ⟨hfirst, hlast, hhalt⟩ := foldl_clearKind_fields allKinds f
    refine ⟨fun k => ?_, rfl, fun h0 => ⟨if_pos h0, if_pos h0⟩, fun h0 => ⟨(if_neg h0).trans hfirst, (if_neg h0).trans hlast⟩,
      fun k => (fold k).2, hhalt⟩
    have e : kindHas t.active k = (kindHas f.active k && !clearable f k) := by
      have active := (fold k).1
      simp only [mem_allKinds, decide_true, Bool.true_and] at active
      exact active
    rw [e, ← clearable_iff]
    simp

/-! ### The permission, the fault class and RDY (R166, R170, R171, R178, R184) -/

theorem faultHolds_eq_false_iff (s : State) : s.faultHolds = false ↔
    ∀ k : FaultKind, s.active k = true → s.actionOf k ≠ .report → k = .restoreConflict ∧ s.conflictExcused = true := by
  rw [← Bool.not_eq_true, State.faultHolds, any_kinds]
  simp [and_assoc]

theorem conflictExcused_iff (s : State) : s.conflictExcused = true ↔
    s.homing.mode = .home ∧ (s.node.state = .homing .armed ∨ s.node.state = .homing .capture) := by
  simp [State.conflictExcused]

theorem statePermits_iff (s : State) : s.statePermits = true ↔
    s.node.state = .referenced ∨ s.node.state = .calibrating ∨ s.node.state = .homing .armed ∨
      s.node.state = .homing .capture ∨ (s.node.state = .unreferenced ∧ s.gate.jog = true) := by
  unfold State.statePermits
  split <;> simp_all

theorem permission_iff (s : State) : s.permission = true ↔
    s.gate.grant = true ∧ s.gate.rdyLevel = .high ∧ s.faultHolds = false ∧ s.statePermits = true := by
  simp [State.permission, and_assoc]

theorem anyActive_iff (s : State) (a : Action) : s.anyActive a = true ↔ ∃ k, s.active k = true ∧ s.actionOf k = a := by
  rw [State.anyActive, any_kinds]
  simp

theorem anyActive_eq_false_iff (s : State) (a : Action) :
    s.anyActive a = false ↔ ∀ k, s.active k = true → s.actionOf k ≠ a := by
  rw [← Bool.not_eq_true, anyActive_iff]
  simp

/-- Every active kind has one of the three actions. -/
theorem active_iff_anyActive (s : State) : (∃ k, s.active k = true) ↔
    s.anyActive .halt = true ∨ s.anyActive .hold = true ∨ s.anyActive .report = true := by
  simp only [anyActive_iff]
  constructor
  · rintro ⟨k, h⟩
    cases ha : s.actionOf k
    · exact .inr (.inr ⟨k, h, ha⟩)
    · exact .inr (.inl ⟨k, h, ha⟩)
    · exact .inl ⟨k, h, ha⟩
  · rintro (⟨k, h, -⟩ | ⟨k, h, -⟩ | ⟨k, h, -⟩) <;> exact ⟨k, h⟩

/-- No other action than REPORT stands where neither HALT nor HOLD does. -/
theorem report_only_iff (s : State) : (∀ k, s.active k = true → s.actionOf k = .report) ↔
    s.anyActive .halt = false ∧ s.anyActive .hold = false := by
  rw [anyActive_eq_false_iff, anyActive_eq_false_iff]
  constructor
  · intro h
    constructor <;>
    · intro k hk e
      rw [h k hk] at e
      cases e
  · rintro ⟨h1, h2⟩ k hk
    cases ha : s.actionOf k
    · rfl
    · exact absurd ha (h2 k hk)
    · exact absurd ha (h1 k hk)

/-- Settles O24. -/
theorem permissionFaultClassAndRdy : Obligations.PermissionFaultClassAndRdy := by
  refine ⟨⟨fun s => ?_, fun s => ⟨by simp [State.brk], by simp [State.den]⟩, fun s h => ?_, fun g => ?_⟩, fun s => ?_⟩
  · rw [permission_iff, faultHolds_eq_false_iff, statePermits_iff]
    simp only [conflictExcused_iff]
  · simp only [State.brk, State.den, beq_iff_eq] at h ⊢
    rw [h]
    rfl
  · refine ⟨?_, ?_, ?_, ?_⟩ <;> intro h <;> simp [gateOn, h]
  · have none : (∀ k, s.active k = false) ↔ ¬∃ k, s.active k = true := by simp
    rw [none, active_iff_anyActive, report_only_iff, ← anyActive_iff, ← anyActive_iff, ← anyActive_eq_false_iff]
    have classes : (s.faultClass = 3 ↔ s.anyActive .halt = true) ∧
        (s.faultClass = 2 ↔ s.anyActive .halt = false ∧ s.anyActive .hold = true) ∧
        (s.faultClass = 1 ↔ (s.anyActive .halt = true ∨ s.anyActive .hold = true ∨ s.anyActive .report = true) ∧
          s.anyActive .halt = false ∧ s.anyActive .hold = false) ∧
        (s.faultClass = 0 ↔ ¬(s.anyActive .halt = true ∨ s.anyActive .hold = true ∨ s.anyActive .report = true)) := by
      unfold State.faultClass
      cases s.anyActive .halt <;> cases s.anyActive .hold <;> cases s.anyActive .report <;> decide
    obtain ⟨halt, hold, report, no⟩ := classes
    refine ⟨halt, hold, report, no, ?_⟩
    unfold State.rdyHeld
    split <;> simp_all

/-! ### The drift monitor (R20, R21) -/

theorem driftRuns_iff (s : State) (usable : Bool) : s.driftRuns usable = true ↔
    usable = true ∧ (∀ px, s.work.motor ≠ .extrapolated px) ∧
      (s.node.state = .referenced ∨ (s.inHoming = true ∧ s.pos.abs = true)) := by
  have hm : (match s.work.motor with
      | .extrapolated _ => false
      | _ => true) = true ↔ ∀ px, s.work.motor ≠ .extrapolated px := by
    cases s.work.motor <;> simp
  have hn : (match s.node.state with
      | .referenced => true
      | .homing _ => s.pos.abs
      | _ => false) = true ↔ s.node.state = .referenced ∨ (s.inHoming = true ∧ s.pos.abs = true) := by
    rw [inHoming_iff]
    cases s.node.state <;> simp
  unfold State.driftRuns
  rw [Bool.and_eq_true, Bool.and_eq_true, and_assoc]
  exact and_congr_right fun _ => and_congr hm hn

/-- VERNIER_DRIFT raised takes the absolute count, and a REFERENCED node to UNREFERENCED. -/
theorem driftRaised_spec (s : State) :
    kindHas (driftRaised s).faults.active .vernierDrift = true ∧
    (driftRaised s).pos = { s.pos with abs := false, driftRun := 0 } ∧
    (s.node.state = .referenced → s.pos.abs = true → (driftRaised s).node = s.node.demoted) := by
  have hk : removingKind .vernierDrift = true := rfl
  refine ⟨noticeWith_active _ _ _, ?_, fun hs ha => ?_⟩
  · refine (noticeWith_pos_removing hk).trans ?_
    cases ha : s.pos.abs <;> simp [ha]
  · have hb : (s.setPos { s.pos with driftRun := 0 }).beforeDecision = false := by simp [State.beforeDecision, hs]
    obtain ⟨s', hn, -, -, e⟩ := noticeWith_of_abs (why := .none) hk hb ha
    have hn : s'.node = s.node := hn
    rw [driftRaised, notice, e]
    simp only [demoteByState, hn, hs]
    rw [demote_node, hn]
    rfl

theorem driftOf_bounds (j base : Int) :
    -524288 < driftOf j base ∧ driftOf j base ≤ 524288 ∧ (j - driftOf j base - base) % 1048576 = 0 := by
  have near := kNearest_near base j
  unfold driftOf revolution
  omega

/-- Settles O20. -/
theorem driftMonitorRule : Obligations.DriftMonitorRule := by
  refine ⟨driftOf_bounds, fun joint base usable s => ?_⟩
  intro drift t runs
  have hr : s.driftRuns usable = true ↔ runs := driftRuns_iff s usable
  have ht (h : runs) : t = driftCount drift s := if_pos (hr.2 h)
  refine ⟨fun h => if_neg (mt hr.1 h), fun h hd => ?_, fun h hd hn => ?_, fun h hd hn => ?_⟩
  · exact (ht h).trans (if_neg (not_lt.2 hd))
  · refine (ht h).trans ((if_pos hd).trans (if_neg ?_))
    simp only [State.setPos_pos]
    omega
  · have e : t = driftRaised (s.setPos { s.pos with driftRun := s.pos.driftRun + 1 }) := by
      refine (ht h).trans ((if_pos hd).trans (if_pos ?_))
      simp only [State.setPos_pos]
      omega
    rw [e]
    exact driftRaised_spec (s.setPos { s.pos with driftRun := s.pos.driftRun + 1 })

end Sys2Proof.Machine
end

section
/-! SUPPORT. A frame's bits on the line: the inserted bits and their removal, the bytes read back from their bits, the
run limit and the CRC (O4, O5). -/

namespace Sys2Proof.Machine

/-! ### Inserted bits (R142) -/

/-- The last bit sent and the length of its run, once some bits are sent with their inserted ones. -/
def sentState (prev : Bool) (run : Nat) : List Bool → Bool × Nat
  | [] => (prev, run)
  | b :: bs =>
    let run' := if b = prev then run + 1 else 1
    if run' = 7 then sentState (!b) 1 bs else sentState b run' bs

theorem insertBits_append (prev : Bool) (run : Nat) (xs ys : List Bool) :
    insertBits prev run (xs ++ ys) =
      insertBits prev run xs ++ insertBits (sentState prev run xs).1 (sentState prev run xs).2 ys := by
  induction xs generalizing prev run with
  | nil => rfl
  | cons b xs ih =>
    simp only [List.cons_append, insertBits, sentState]
    by_cases h : (if b = prev then run + 1 else 1) = 7
    · simp only [h, if_true, ih, List.cons_append]
    · simp only [h, if_false, ih, List.cons_append]

/-- The receiver's removal takes the inserted bits out again. -/
theorem removeBits_insertBits (prev : Bool) (run : Nat) (xs rest : List Bool) :
    removeBits xs.length prev run (insertBits prev run xs ++ rest) =
      .bits xs (sentState prev run xs).1 (sentState prev run xs).2 rest := by
  induction xs generalizing prev run with
  | nil => rfl
  | cons b xs ih =>
    simp only [List.length_cons, insertBits, sentState]
    by_cases h : (if b = prev then run + 1 else 1) = 7
    · simp only [h, if_true, List.cons_append, removeBits, ih]
      exact if_neg (Bool.not_ne_self b)
    · simp only [h, if_false, List.cons_append, removeBits, ih]
      rfl

/-! ### Bytes and their bits (R141) -/

theorem bitsByte_byteBits (b : Byte) : bitsByte (byteBits b) = b := by
  revert b
  decide

theorem byteBits_length (b : Byte) : (byteBits b).length = 8 := rfl

theorem bytesBits_cons (b : Byte) (bs : List Byte) : bytesBits (b :: bs) = byteBits b ++ bytesBits bs := rfl

theorem bytesBits_append (bs cs : List Byte) : bytesBits (bs ++ cs) = bytesBits bs ++ bytesBits cs :=
  List.flatMap_append

theorem bytesBits_length (bs : List Byte) : (bytesBits bs).length = 8 * bs.length := by
  induction bs with
  | nil => rfl
  | cons b bs ih => rw [bytesBits_cons, List.length_append, ih, byteBits_length, List.length_cons]; omega

theorem takeBytes_bytesBits (bs : List Byte) (rest : List Bool) :
    takeBytes bs.length (bytesBits bs ++ rest) = bs := by
  induction bs with
  | nil => rfl
  | cons b bs ih =>
    simp only [List.length_cons, takeBytes, bytesBits_cons, List.append_assoc]
    rw [List.take_left' (byteBits_length b), List.drop_left' (byteBits_length b), bitsByte_byteBits, ih]

theorem nibbles (hi lo : BitVec 4) : (hi ++ lo).extractLsb' 4 4 = hi ∧ (hi ++ lo).extractLsb' 0 4 = lo := by
  revert hi lo
  decide

theorem control_length (f : Frame) (h : f.payload.length ≤ 14) : (f.control.extractLsb' 0 4).toNat = f.payload.length := by
  unfold Frame.control
  rw [(nibbles _ _).2, BitVec.toNat_ofNat, Nat.mod_eq_of_lt (by omega)]

/-! ### The receiver's judgement of a transmitter's bits (R148) -/

/-- The bits of a frame with some byte in the place of its CRC. -/
def Frame.sentWith (f : Frame) (crc : Byte) : List Bool :=
  insertBits true 0 (false :: bytesBits (f.bytes ++ [crc])) ++ endField

/-- The 17 bits of start bit, header and control. -/
def Frame.head (f : Frame) : List Bool := false :: (byteBits f.header ++ byteBits f.control)

/-- The bits after them, up to the CRC. -/
def Frame.tail (f : Frame) (crc : Byte) : List Bool := bytesBits f.payload ++ byteBits crc

theorem sentWith_eq (f : Frame) (crc : Byte) :
    f.sentWith crc = insertBits true 0 f.head ++
      (insertBits (sentState true 0 f.head).1 (sentState true 0 f.head).2 (f.tail crc) ++ endField) := by
  have e : false :: bytesBits (f.bytes ++ [crc]) = f.head ++ f.tail crc := by
    simp [Frame.bytes, Frame.head, Frame.tail, bytesBits]
  rw [Frame.sentWith, e, insertBits_append, List.append_assoc]

theorem judgeEnd_endField (f : Frame) : judgeEnd f endField = if f.lengthOk then .intact f else .discard .length := rfl

theorem receive_of_head {bs head rest : List Bool} {prev : Bool} {run : Nat}
    (h : removeBits 17 true 0 (false :: bs) = .bits head prev run rest) :
    receive (false :: bs) = receiveTail (bitsByte ((head.drop 1).take 8)) (bitsByte (head.drop 9)) prev run rest := by
  simp only [receive, h]

theorem receiveTail_of_bits {header control : Byte} {prev : Bool} {run : Nat} {rest tail fin : List Bool} {p : Bool} {r n : Nat}
    (hn : (control.extractLsb' 0 4).toNat = n) (h15 : n ≠ 15)
    (h : removeBits (8 * n + 8) prev run rest = .bits tail p r fin) :
    receiveTail header control prev run rest =
      if bitsByte (tail.drop (8 * n)) ≠ crc8 (header :: control :: takeBytes n tail) then .discard .crc
      else judgeEnd ⟨header.extractLsb' 4 4, header.extractLsb' 0 4, control.extractLsb' 4 4, takeBytes n tail⟩ fin := by
  simp only [receiveTail, hn, h15, if_false, h]

/-- Of a transmitter's bits the receiver judges the CRC and the length. -/
theorem receive_sentWith (f : Frame) (crc : Byte) (h : f.payload.length ≤ 14) :
    receive (f.sentWith crc) =
      if crc ≠ crc8 f.bytes then .discard .crc else if f.lengthOk then .intact f else .discard .length := by
  have head := removeBits_insertBits true 0 f.head
    (insertBits (sentState true 0 f.head).1 (sentState true 0 f.head).2 (f.tail crc) ++ endField)
  have tail := removeBits_insertBits (sentState true 0 f.head).1 (sentState true 0 f.head).2 (f.tail crc) endField
  have len : (f.tail crc).length = 8 * f.payload.length + 8 := by
    rw [Frame.tail, List.length_append, bytesBits_length, byteBits_length]
  rw [len] at tail
  have hd : bitsByte ((f.head.drop 1).take 8) = f.header := bitsByte_byteBits f.header
  have ct : bitsByte (f.head.drop 9) = f.control := bitsByte_byteBits f.control
  have pay : takeBytes f.payload.length (f.tail crc) = f.payload := takeBytes_bytesBits f.payload _
  have cr : bitsByte ((f.tail crc).drop (8 * f.payload.length)) = crc := by
    rw [Frame.tail, List.drop_left' (bytesBits_length _), bitsByte_byteBits]
  rw [sentWith_eq]
  refine (receive_of_head head).trans ?_
  rw [hd, ct, receiveTail_of_bits (control_length f h) (by omega) tail, pay, cr, judgeEnd_endField]
  unfold Frame.header Frame.control
  rw [(nibbles _ _).1, (nibbles _ _).2, (nibbles _ _).1]
  rfl

/-- Settles O4. -/
theorem receiveReadsWhatAFrameSends : Obligations.ReceiveReadsWhatAFrameSends := by
  intro f h ok
  refine (receive_sentWith f (crc8 f.bytes) h).trans ?_
  rw [if_neg (not_not.2 rfl), if_pos ok]

/-! ### The run limit (R142) -/

/-- A string of bits with 8 equal ones in a row. -/
def HasRun8 (l : List Bool) : Prop := ∃ (pre post : List Bool) (b : Bool), l = pre ++ List.replicate 8 b ++ post

theorem not_hasRun8_of_length {l : List Bool} (h : l.length < 8) : ¬HasRun8 l := by
  rintro ⟨pre, post, b, rfl⟩
  simp at h
  omega

/-- A run of at most 7 bits that ends adds no run of 8 to what follows it. -/
theorem not_hasRun8_of_break {m : Nat} {p : Bool} {rest : List Bool} (hm : m ≤ 7) (h : ¬HasRun8 ((!p) :: rest)) :
    ¬HasRun8 (List.replicate m p ++ (!p) :: rest) := by
  rintro ⟨pre, post, b, e⟩
  by_cases hp : m ≤ pre.length
  · refine h ⟨pre.drop m, post, b, ?_⟩
    have d := congrArg (List.drop m) e
    rw [List.drop_left' (List.length_replicate ..), List.append_assoc, List.drop_append_of_le_length hp,
      ← List.append_assoc] at d
    exact d
  · have at_ (i : Nat) (hi : pre.length ≤ i) (hi' : i < pre.length + 8) :
        (List.replicate m p ++ (!p) :: rest)[i]? = some b := by
      rw [e, List.append_assoc, List.getElem?_append_right hi, List.getElem?_append_left (by simp; omega),
        List.getElem?_replicate, if_pos (by omega)]
    have h1 := at_ pre.length (Nat.le_refl _) (by omega)
    have h2 := at_ m (by omega) (by omega)
    rw [List.getElem?_append_left (by simpa using hp), List.getElem?_replicate, if_pos (by omega)] at h1
    rw [List.getElem?_append_right (by simp), List.length_replicate, Nat.sub_self, List.getElem?_cons_zero] at h2
    rw [← h1, Option.some.injEq] at h2
    exact Bool.not_ne_self p h2

/-- A run of at most 6 bits followed by bits with their inserted ones holds no run of 8. -/
theorem not_hasRun8_insertBits {run : Nat} (hr : run ≤ 6) (prev : Bool) (xs : List Bool) :
    ¬HasRun8 (List.replicate run prev ++ insertBits prev run xs) := by
  induction xs generalizing run prev with
  | nil => exact not_hasRun8_of_length (by simp [insertBits]; omega)
  | cons b xs ih =>
    by_cases hb : b = prev
    · subst hb
      by_cases h7 : run + 1 = 7
      · have e : List.replicate run b ++ insertBits b run (b :: xs) =
            List.replicate 7 b ++ (!b) :: insertBits (!b) 1 xs := by
          simp only [insertBits, if_true, h7]
          rw [← h7, List.replicate_succ', List.append_assoc]
          rfl
        rw [e]
        exact not_hasRun8_of_break (Nat.le_refl 7) (ih (run := 1) (by decide) (!b))
      · have e : List.replicate run b ++ insertBits b run (b :: xs) =
            List.replicate (run + 1) b ++ insertBits b (run + 1) xs := by
          simp only [insertBits, if_true, h7, if_false]
          rw [List.replicate_succ', List.append_assoc]
          rfl
        rw [e]
        exact ih (by omega) b
    · have hb' : b = !prev := by
        cases b <;> cases prev <;> simp_all
      subst hb'
      have e : insertBits prev run ((!prev) :: xs) = (!prev) :: insertBits (!prev) 1 xs := by
        simp [insertBits]
      rw [e]
      exact not_hasRun8_of_break (by omega) (ih (run := 1) (by decide) (!prev))

/-! ### The CRC (R143) -/

theorem crc8_append (bs : List Byte) (b : Byte) : crc8 (bs ++ [b]) = (byteBits b).foldl crc8Bit (crc8 bs) := by
  rw [crc8, bytesBits_append, List.foldl_append]
  rfl

theorem crc8Bit_eq (c : BitVec 8) (b : Bool) :
    crc8Bit c b = (c <<< 1) ^^^ (if c.getLsbD 7 = b then 0x00#8 else 0x07#8) := by
  unfold crc8Bit
  cases b <;> cases c.getLsbD 7 <;> simp

/-- Settles O5: the run limit by the insertion, the CRC of a received frame by its judgement. -/
theorem stuffingAndCrcOfFrames : Obligations.StuffingAndCrcOfFrames := by
  refine ⟨fun f => ⟨insertBits true 0 f.body, rfl, fun pre post b e => ?_⟩,
    ⟨crc8_append, rfl, crc8Bit_eq, fun f h wrong hw => ?_⟩⟩
  · exact not_hasRun8_insertBits (run := 0) (by decide) true f.body ⟨pre, post, b, e⟩
  · exact (receive_sentWith f wrong h).trans (if_pos hw)

end Sys2Proof.Machine
end

section
/-! SUPPORT. Numbers from their bytes and the fields of a packed byte; the payloads of POSITION and STATUS read back
(O6). -/

namespace Sys2Proof.Machine

/-! ### Numbers of several bytes (R158) -/

@[simp] theorem length_bytesOf (n : Nat) (x : Int) : (bytesOf n x).length = n := by
  induction n with
  | zero => rfl
  | succ n ih => simp [bytesOf, ih]

theorem toNat_ofInt_byte (y : Int) : ((BitVec.ofInt 8 y).toNat : Int) = y % 256 := by
  rw [BitVec.toNat_ofInt]
  omega

theorem emod_split (x : Int) (m : Int) (hm : 0 < m) : x % (m * 256) = m * (x / m % 256) + x % m := by
  rw [Int.emod_def x (m * 256), ← Int.ediv_ediv_of_nonneg hm.le, Int.emod_def (x / m), Int.emod_def x m]
  ring

/-- The bytes taken in one by one: the number so far moves up and the number's own digits follow. -/
theorem foldl_bytesOf (n : Nat) (x : Int) (a : Nat) :
    (((bytesOf n x).foldl (fun (a : Nat) (b : Byte) => 256 * a + b.toNat) a : Nat) : Int) = a * 256 ^ n + x % 256 ^ n := by
  induction n generalizing a with
  | zero => simp [bytesOf]
  | succ n ih =>
    have hpow : ((2 ^ (8 * n) : Nat) : Int) = 256 ^ n := by
      rw [pow_mul]
      norm_num
    rw [bytesOf, List.foldl_cons, ih, hpow, pow_succ, emod_split x (256 ^ n) (by positivity), Nat.cast_add, toNat_ofInt_byte]
    push_cast
    ring

theorem natOfBytes_bytesOf (n : Nat) (x : Int) : (natOfBytes (bytesOf n x) : Int) = x % 256 ^ n := by
  simpa [natOfBytes] using foldl_bytesOf n x 0

theorem natOfBytes_bytesOf_of_lt (n : Nat) {x : Nat} (h : x < 256 ^ n) : natOfBytes (bytesOf n x) = x := by
  have hx := natOfBytes_bytesOf n x
  rw [Int.emod_eq_of_lt (by omega) (by exact_mod_cast h)] at hx
  exact_mod_cast hx

/-- A signed number of n bytes: the number's residue about 0. -/
theorem intOfBytes_bytesOf (n : Nat) (x : Int) : intOfBytes (bytesOf n x) = x.bmod (256 ^ n) := by
  have hpow : 2 ^ (8 * n) = 256 ^ n := by
    rw [pow_mul]
    norm_num
  rw [intOfBytes, length_bytesOf, BitVec.toInt_ofNat', natOfBytes_bytesOf, hpow]
  exact_mod_cast Int.emod_bmod x (256 ^ n)

theorem intOfBytes_bytesOf_two {x : Int} (hlo : -32768 ≤ x) (hhi : x ≤ 32767) : intOfBytes (bytesOf 2 x) = x := by
  rw [intOfBytes_bytesOf]
  exact Int.bmod_eq_of_le (by norm_num; omega) (by norm_num; omega)

theorem intOfBytes_bytesOf_four {x : Int} (hlo : -2147483648 ≤ x) (hhi : x ≤ 2147483647) :
    intOfBytes (bytesOf 4 x) = x := by
  rw [intOfBytes_bytesOf]
  exact Int.bmod_eq_of_le (by norm_num; omega) (by norm_num; omega)

/-! ### The fields of a packed byte (R158) -/

/-- How many bits some fields take. -/
def fieldsWidth (fields : List (Nat × Nat)) : Nat := (fields.map Prod.fst).sum

/-- Some fields taken in after others: the number so far moves up by their bits. -/
theorem foldl_packFields (fields : List (Nat × Nat)) (a : Nat × Nat) :
    ∃ code < 2 ^ fieldsWidth fields,
      fields.foldl (fun a f => (a.1 * 2 ^ f.1 + f.2 % 2 ^ f.1, a.2 + f.1)) a =
        (a.1 * 2 ^ fieldsWidth fields + code, a.2 + fieldsWidth fields) := by
  induction fields generalizing a with
  | nil => exact ⟨0, by simp [fieldsWidth], by simp [fieldsWidth]⟩
  | cons f fs ih =>
    obtain ⟨code, hlt, heq⟩ := ih (a.1 * 2 ^ f.1 + f.2 % 2 ^ f.1, a.2 + f.1)
    have hw : fieldsWidth (f :: fs) = f.1 + fieldsWidth fs := rfl
    have hf : f.2 % 2 ^ f.1 + 1 ≤ 2 ^ f.1 := Nat.mod_lt _ (by positivity)
    refine ⟨f.2 % 2 ^ f.1 * 2 ^ fieldsWidth fs + code, ?_, ?_⟩
    · rw [hw, pow_add]
      nlinarith [Nat.mul_le_mul_right (2 ^ fieldsWidth fs) hf]
    · rw [List.foldl_cons, heq, hw, pow_add]
      simp only [Prod.mk.injEq]
      exact ⟨by ring, by omega⟩

/-- A field of a packed byte reads back as its code, at the place its predecessors leave it. -/
theorem packed_field {fields : List (Nat × Nat)} (pre post : List (Nat × Nat)) {w c low : Nat}
    (hf : fields = pre ++ (w, c) :: post) (hlow : low + fieldsWidth pre + w = 8) (hpost : (fieldsWidth post).ble low = true) :
    (packed fields).extractLsb' low w = BitVec.ofNat w c := by
  obtain ⟨a, ha, hpre⟩ := foldl_packFields pre (0, 0)
  obtain ⟨b, hb, hall⟩ := foldl_packFields post ((0 + a) * 2 ^ w + c % 2 ^ w, fieldsWidth pre + w)
  have hpack : packFields fields = ((a * 2 ^ w + c % 2 ^ w) * 2 ^ fieldsWidth post + b, fieldsWidth pre + w + fieldsWidth post) := by
    rw [packFields, hf, List.foldl_append, List.foldl_cons, hpre]
    simpa using hall
  obtain ⟨left, rfl⟩ : ∃ left, low = fieldsWidth post + left := ⟨low - fieldsWidth post, by have := Nat.le_of_ble_eq_true hpost; omega⟩
  have hleft : 8 - (fieldsWidth pre + w + fieldsWidth post) = left := by omega
  apply BitVec.eq_of_toNat_eq
  rw [BitVec.extractLsb'_toNat, packed, hpack, hleft, BitVec.toNat_ofNat, BitVec.toNat_ofNat, Nat.shiftRight_eq_div_pow]
  have hc : c % 2 ^ w + 1 ≤ 2 ^ w := Nat.mod_lt _ (by positivity)
  have hmid : (a * 2 ^ w + c % 2 ^ w) + 1 ≤ 2 ^ (fieldsWidth pre + w) := by
    rw [pow_add]
    nlinarith [Nat.mul_le_mul_right (2 ^ w) (show a + 1 ≤ 2 ^ fieldsWidth pre by simpa using ha)]
  have hsum : (a * 2 ^ w + c % 2 ^ w) * 2 ^ fieldsWidth post + b + 1 ≤ 2 ^ (fieldsWidth pre + w + fieldsWidth post) := by
    rw [pow_add]
    nlinarith [Nat.mul_le_mul_right (2 ^ fieldsWidth post) hmid]
  have hlt : ((a * 2 ^ w + c % 2 ^ w) * 2 ^ fieldsWidth post + b) * 2 ^ left < 2 ^ 8 := by
    have h8 : 2 ^ 8 = 2 ^ (fieldsWidth pre + w + fieldsWidth post) * 2 ^ left := by
      rw [← pow_add]
      congr 1
      omega
    rw [h8]
    exact Nat.mul_lt_mul_of_pos_right (by omega) (by positivity)
  rw [Nat.mod_eq_of_lt hlt, pow_add, Nat.mul_comm (2 ^ fieldsWidth post), ← Nat.div_div_eq_div_mul,
    Nat.mul_div_cancel _ (by positivity), Nat.mul_comm (a * 2 ^ w + c % 2 ^ w), Nat.mul_add_div (by positivity),
    Nat.div_eq_of_lt hb, Nat.add_zero, Nat.mul_comm a, Nat.mul_add_mod, Nat.mod_mod]

/-- A yes/no field of a packed byte is one bit. -/
theorem packed_bit {fields : List (Nat × Nat)} (pre post : List (Nat × Nat)) {b : Bool} {low : Nat}
    (hf : fields = pre ++ (1, flag b) :: post) (hlow : low + fieldsWidth pre + 1 = 8) (hpost : (fieldsWidth post).ble low = true) :
    (packed fields).getLsbD low = b := by
  have h := congrArg (fun v : BitVec 1 => v.getLsbD 0) (packed_field pre post hf hlow hpost)
  have hflag : (BitVec.ofNat 1 (flag b)).getLsbD 0 = b := by cases b <;> rfl
  simpa only [hflag, BitVec.getLsbD_extractLsb', Nat.zero_lt_one, decide_true, Bool.true_and, Nat.add_zero] using h

/-- The bits of a packed byte below its fields are 0. -/
theorem packed_rest {fields : List (Nat × Nat)} {left : Nat} (h : fieldsWidth fields + left = 8) :
    (packed fields).extractLsb' 0 left = 0#left := by
  obtain ⟨a, -, ha⟩ := foldl_packFields fields (0, 0)
  have hpack : packFields fields = (a, fieldsWidth fields) := by simpa [packFields] using ha
  apply BitVec.eq_of_toNat_eq
  rw [BitVec.extractLsb'_toNat, packed, hpack, show 8 - fieldsWidth fields = left by omega, BitVec.toNat_ofNat,
    Nat.shiftRight_zero, Nat.mod_mod_of_dvd _ (pow_dvd_pow 2 (by omega)), Nat.mul_mod_left]
  rfl

theorem packed_yes {fields : List (Nat × Nat)} (pre post : List (Nat × Nat)) {b : Bool} {low : Nat} {p : Prop}
    (hf : fields = pre ++ (1, flag b) :: post) (hlow : low + fieldsWidth pre + 1 = 8) (hpost : (fieldsWidth post).ble low = true)
    (hp : b = true ↔ p) : (packed fields).getLsbD low = true ↔ p := by
  rw [packed_bit pre post hf hlow hpost]
  exact hp

/-! ### The bytes of the two payloads (R159, R160) -/

theorem stateByte_nodeState (n : NodeRecord) : (stateByte n).extractLsb' 5 3 = BitVec.ofNat 3 (nodeStateCode n.state) :=
  packed_field [] [_, _] rfl rfl rfl

theorem stateByte_substate (n : NodeRecord) : (stateByte n).extractLsb' 3 2 = BitVec.ofNat 2 (substateCode n.state) :=
  packed_field [_] [_] rfl rfl rfl

theorem stateByte_basis (n : NodeRecord) : (stateByte n).extractLsb' 0 3 = BitVec.ofNat 3 (basisCode n.basis) :=
  packed_field [_, _] [] rfl rfl rfl

theorem readPosition_positionPayload (s : State) (joint : Joint) (trusted : Bool)
    (hlo : -2147483648 ≤ (epochCount s.pos s.work.motor).1) (hhi : (epochCount s.pos s.work.motor).1 ≤ 2147483647)
    (hjlo : -2147483648 ≤ joint.j) (hjhi : joint.j ≤ 2147483647) :
    readPosition (s.positionPayload joint trusted) =
      { tag := s.epoch.count, synced := s.epoch.epochSynced, trusted := trusted, absolute := s.pos.abs
        extrapolated := (epochCount s.pos s.work.motor).2.2
        nodeState := BitVec.ofNat 3 (nodeStateCode s.node.state), basis := BitVec.ofNat 3 (basisCode s.node.basis)
        p := (epochCount s.pos s.work.motor).1, j := joint.j } := by
  have hp : intOfBytes (((s.positionPayload joint trusted).drop 3).take 4) = (epochCount s.pos s.work.motor).1 :=
    intOfBytes_bytesOf_four hlo hhi
  have hj : intOfBytes (((s.positionPayload joint trusted).drop 7).take 4) = joint.j :=
    intOfBytes_bytesOf_four hjlo hjhi
  have hsynced : (byteAt (s.positionPayload joint trusted) 1).getLsbD 7 = s.epoch.epochSynced :=
    packed_bit [] [_, _, _, _, _] rfl rfl rfl
  have htrusted : (byteAt (s.positionPayload joint trusted) 1).getLsbD 6 = trusted :=
    packed_bit [_] [_, _, _, _] rfl rfl rfl
  have habs : (byteAt (s.positionPayload joint trusted) 1).getLsbD 5 = s.pos.abs :=
    packed_bit [_, _] [_, _, _] rfl rfl rfl
  have hextra : (byteAt (s.positionPayload joint trusted) 1).getLsbD 4 = (epochCount s.pos s.work.motor).2.2 :=
    packed_bit [_, _, _] [_, _] rfl rfl rfl
  have hstate : byteAt (s.positionPayload joint trusted) 2 = stateByte s.node := rfl
  have htag : byteAt (s.positionPayload joint trusted) 0 = s.epoch.count := rfl
  simp only [readPosition, hp, hj, hsynced, htrusted, habs, hextra, hstate, htag, stateByte_nodeState, stateByte_basis]

theorem readStatusFields_statusPayload (s : State) :
    readStatusFields s.statusPayload =
      { nodeState := BitVec.ofNat 3 (nodeStateCode s.node.state), basis := BitVec.ofNat 3 (basisCode s.node.basis)
        axis := s.straps.axis, faultClass := BitVec.ofNat 2 s.faultClass } := by
  have hstate : byteAt s.statusPayload 0 = stateByte s.node := rfl
  have haxis : (byteAt s.statusPayload 7).extractLsb' 5 3 = BitVec.ofNat 3 s.straps.axis.toNat :=
    packed_field [] [_] rfl rfl rfl
  have hclass : (byteAt s.statusPayload 2).extractLsb' 0 2 = BitVec.ofNat 2 s.faultClass :=
    packed_field [_, _, _, _] [] rfl rfl rfl
  simp only [readStatusFields, hstate, haxis, hclass, stateByte_nodeState, stateByte_basis, BitVec.ofNat_toNat,
    BitVec.setWidth_eq]

/-- Settles O6: the readers undo the packing, and every field stands at its own place. -/
theorem payloadsReadBack : Obligations.PayloadsReadBack := by
  unfold Obligations.PayloadsReadBack
  refine ⟨fun x hlo hhi => intOfBytes_bytesOf_four hlo hhi, fun x hlo hhi => intOfBytes_bytesOf_two hlo hhi,
    fun x hx => natOfBytes_bytesOf_of_lt 2 hx, ?_, ?_⟩
  · intro s joint trusted c bs hc hjlo hjhi
    exact ⟨readPosition_positionPayload s joint trusted hc.1 hc.2 hjlo hjhi, rfl,
      packed_bit [_, _, _, _] [_] rfl rfl rfl, packed_bit [_, _, _, _, _] [] rfl rfl rfl,
      packed_rest rfl, stateByte_substate s.node, fun hlo hhi => intOfBytes_bytesOf_two hlo hhi⟩
  · intro s bs at_ code
    have hfaults : natOfBytes (bytesOf 2 s.faults.active.toNat) = s.faults.active.toNat :=
      natOfBytes_bytesOf_of_lt 2 s.faults.active.isLt
    exact ⟨readStatusFields_statusPayload s, rfl, stateByte_substate s.node,
      packed_field [] [_, _] rfl rfl rfl, packed_field [_] [_] rfl rfl rfl,
      packed_bit [_, _] [] rfl rfl rfl,
      packed_field [] [_, _, _, _] rfl rfl rfl, packed_bit [_] [_, _, _] rfl rfl rfl,
      packed_bit [_, _] [_, _] rfl rfl rfl, packed_field [_, _, _] [_] rfl rfl rfl,
      hfaults,
      packed_field [] [_, _, _, _, _] rfl rfl rfl, packed_yes [_] [_, _, _, _] rfl rfl rfl (by simp),
      packed_yes [_, _] [_, _, _] rfl rfl rfl (by simp), packed_bit [_, _, _] [_, _] rfl rfl rfl,
      packed_bit [_, _, _, _] [_] rfl rfl rfl, packed_bit [_, _, _, _, _] [] rfl rfl rfl,
      packed_yes [] [_, _, _] rfl rfl rfl (by simp [Option.isSome_iff_ne_none]),
      packed_yes [_] [_, _] rfl rfl rfl (by simp),
      packed_field [_, _] [_] rfl rfl rfl, packed_field [_, _, _] [] rfl rfl rfl,
      packed_yes (b := s.node.phase == .confirmation) [_] [] (by cases h : s.node.phase <;> rfl) rfl rfl (by simp),
      rfl, rfl, rfl⟩

end Sys2Proof.Machine
end

section
/-! SUPPORT. The layouts of the replies' data: a byte that fields share is the sum of their codes at their places
(O7). -/

namespace Sys2Proof.Machine

/-! ### The codes fit their fields (R161) -/

theorem flag_lt (b : Bool) : flag b < 2 := by cases b <;> decide
theorem nodeStateCode_lt (n : NodeState) : nodeStateCode n < 8 := by cases n <;> simp [nodeStateCode]
theorem readCauseCode_lt (c : ReadCause) : readCauseCode c < 8 := by cases c <;> decide
theorem tagClassCode_lt (c : TagClass) : tagClassCode c < 4 := by cases c <;> decide
theorem retainedCauseCode_lt (c : RetainedCause) : retainedCauseCode c < 4 := by cases c <;> decide
theorem startKindCode_lt (k : StartKind) : startKindCode k < 4 := by cases k <;> decide
theorem restorePhaseCode_lt (p : RestorePhase) : restorePhaseCode p < 2 := by cases p <;> decide
theorem retainedReasonCode_lt (r : RetainedReason) : retainedReasonCode r < 8 := by cases r <;> decide
theorem directionCode_lt (d : Direction) : directionCode d < 4 := by cases d <;> decide
theorem vernierStatusCode_lt (v : VernierStatus) : vernierStatusCode v < 8 := by cases v <;> decide
theorem homingModeCode_lt (m : HomingMode) : homingModeCode m < 2 := by cases m <;> decide
theorem homingOutcomeCode_lt (o : HomingOutcome) : homingOutcomeCode o < 8 := by cases o <;> decide
theorem approachCode_lt (a : Approach) : approachCode a < 2 := by cases a <;> decide
theorem jumpReasonCode_lt (r : JumpReason) : jumpReasonCode r < 4 := by cases r <;> decide
theorem recordCheckCode_lt (c : RecordCheck) : recordCheckCode c < 4 := by cases c <;> decide
theorem copyCheckCode_lt (c : CopyCheck) : copyCheckCode c < 4 := by cases c <;> decide
theorem portPresenceCode_lt (p : PortPresence) : portPresenceCode p < 4 := by cases p <;> decide

theorem validityCode_lt (live : Bool) (v : Validity) : validityCode live v < 8 := by
  cases live <;> cases v <;> decide

/-- A live confirmation shows code 4 in place of the record's validity (R73). -/
theorem validityCode_eq (live : Bool) (v : Validity) : validityCode live v = if live then 4 else validityCode false v := by
  cases live <;> cases v <;> rfl

theorem stateBeforeCode_lt : ∀ b : Option StateBefore, stateBeforeCode b < 8
  | none => by decide
  | some .unreferenced => by decide
  | some .referenced => by decide

theorem lastAbsoluteCode_lt : ∀ a : Option Bool, lastAbsoluteCode a < 4
  | none => by decide
  | some false => by decide
  | some true => by decide

/-! ### Bytes that fields share (R158) -/

theorem packed_eq {fields : List (Nat × Nat)} {n : Nat} (h : (packFields fields).1 * 2 ^ (8 - (packFields fields).2) = n) :
    packed fields = BitVec.ofNat 8 n := by rw [packed, h]

theorem bytesOf_one (n : Nat) : bytesOf 1 (n : Int) = [BitVec.ofNat 8 n] := by
  simp [bytesOf]

theorem packed_2_1_3 {a b c : Nat} (ha : a < 4) (hb : b < 2) (hc : c < 8) :
    packed [(2, a), (1, b), (3, c)] = BitVec.ofNat 8 (64 * a + 32 * b + 4 * c) :=
  packed_eq (by norm_num [packFields]; omega)

theorem packed_2_2_2_2 {a b c d : Nat} (ha : a < 4) (hb : b < 4) (hc : c < 4) (hd : d < 4) :
    packed [(2, a), (2, b), (2, c), (2, d)] = BitVec.ofNat 8 (64 * a + 16 * b + 4 * c + d) :=
  packed_eq (by norm_num [packFields]; omega)

theorem packed_2_2 {a b : Nat} (ha : a < 4) (hb : b < 4) : packed [(2, a), (2, b)] = BitVec.ofNat 8 (64 * a + 16 * b) :=
  packed_eq (by norm_num [packFields]; omega)

theorem packed_3_3 {a b : Nat} (ha : a < 8) (hb : b < 8) : packed [(3, a), (3, b)] = BitVec.ofNat 8 (32 * a + 4 * b) :=
  packed_eq (by norm_num [packFields]; omega)

theorem packed_3_2 {a b : Nat} (ha : a < 8) (hb : b < 4) : packed [(3, a), (2, b)] = BitVec.ofNat 8 (32 * a + 8 * b) :=
  packed_eq (by norm_num [packFields]; omega)

theorem packed_3_1 {a b : Nat} (ha : a < 8) (hb : b < 2) : packed [(3, a), (1, b)] = BitVec.ofNat 8 (32 * a + 16 * b) :=
  packed_eq (by norm_num [packFields]; omega)

theorem packed_1_1 {a b : Nat} (ha : a < 2) (hb : b < 2) : packed [(1, a), (1, b)] = BitVec.ofNat 8 (128 * a + 64 * b) :=
  packed_eq (by norm_num [packFields]; omega)

theorem packed_1_3 {a b : Nat} (ha : a < 2) (hb : b < 8) : packed [(1, a), (3, b)] = BitVec.ofNat 8 (128 * a + 16 * b) :=
  packed_eq (by norm_num [packFields]; omega)

theorem packed_2_1_2 {a b c : Nat} (ha : a < 4) (hb : b < 2) (hc : c < 4) :
    packed [(2, a), (1, b), (2, c)] = BitVec.ofNat 8 (64 * a + 32 * b + 8 * c) :=
  packed_eq (by norm_num [packFields]; omega)

theorem packed_3_1_1 {a b c : Nat} (ha : a < 8) (hb : b < 2) (hc : c < 2) :
    packed [(3, a), (1, b), (1, c)] = BitVec.ofNat 8 (32 * a + 16 * b + 8 * c) :=
  packed_eq (by norm_num [packFields]; omega)

theorem packed_1_2_1 {a b c : Nat} (ha : a < 2) (hb : b < 4) (hc : c < 2) :
    packed [(1, a), (2, b), (1, c)] = BitVec.ofNat 8 (128 * a + 32 * b + 16 * c) :=
  packed_eq (by norm_num [packFields]; omega)

theorem packed_bits_six (a b c d e f : Bool) :
    packed [(1, flag a), (1, flag b), (1, flag c), (1, flag d), (1, flag e), (1, flag f)] =
      BitVec.ofNat 8 (128 * flag a + 64 * flag b + 32 * flag c + 16 * flag d + 8 * flag e + 4 * flag f) := by
  have ha := flag_lt a
  have hb := flag_lt b
  have hc := flag_lt c
  have hd := flag_lt d
  have he := flag_lt e
  have hf := flag_lt f
  exact packed_eq (by norm_num [packFields]; omega)

/-! ### The blocks of the replies (R162, R192 to R194) -/

theorem selfCheckBytes_eq (c : SelfCheck) : selfCheckBytes c =
    [BitVec.ofNat 8 (64 * recordCheckCode c.setupRecord + 16 * recordCheckCode c.calRecord + 4 * copyCheckCode c.setupCopy +
        copyCheckCode c.calCopy),
     BitVec.ofNat 8 (64 * portPresenceCode c.motorPort + 16 * portPresenceCode c.coarsePort)] := by
  rw [selfCheckBytes, packed_2_2_2_2 (recordCheckCode_lt _) (recordCheckCode_lt _) (copyCheckCode_lt _) (copyCheckCode_lt _),
    packed_2_2 (portPresenceCode_lt _) (portPresenceCode_lt _)]

theorem statusCounters_eq (s : State) : statusCounters s =
    [BitVec.ofNat 8 s.link.health, BitVec.ofNat 8 s.link.publishOverrun, BitVec.ofNat 8 s.link.stuckCount,
      BitVec.ofNat 8 s.epoch.realignCount,
      BitVec.ofNat 8 (32 * readCauseCode s.enc.motor.lastCause + 4 * readCauseCode s.enc.coarse.lastCause), s.epoch.count] ++
      selfCheckBytes s.selfCheck := by
  rw [statusCounters, packed_3_3 (readCauseCode_lt _) (readCauseCode_lt _)]
  rfl

theorem faultRecordBytes_some (f : FaultRecord) : faultRecordBytes (some f) =
    [BitVec.ofNat 8 (kindIndex f.kind).val, f.tag, BitVec.ofNat 8 (32 * nodeStateCode f.state + 8 * jumpReasonCode f.reason)] := by
  rw [faultRecordBytes, packed_3_2 (nodeStateCode_lt _) (jumpReasonCode_lt _)]
  rfl

theorem retainedBytes_eq (r : RetainedRecord) : retainedBytes r =
    [BitVec.ofNat 8 (64 * retainedCauseCode r.cause + 32 * flag r.anchored + 4 * validityCode false r.validity),
     BitVec.ofNat 8 (retainedReasonCode r.reason)] ++ bytesOf 2 r.tRet ++
    [BitVec.ofNat 8 (64 * r.qRet.toNat + 32 * flag r.playKnown + 8 * directionCode r.lastDir)] ++ bytesOf 2 r.s ++
    bytesOf 3 r.netTurns ++ [BitVec.ofNat 8 r.reentries] := by
  rw [retainedBytes, packed_2_1_3 (retainedCauseCode_lt _) (flag_lt _) (validityCode_lt _ _),
    packed_2_1_2 r.qRet.isLt (flag_lt _) (directionCode_lt _), bytesOf_one]
  rfl

theorem decisionBytes_eq (r : RestoreReport) : decisionBytes r =
    [BitVec.ofNat 8 (64 * startKindCode r.kind + 32 * restorePhaseCode r.phase + 8 * retainedCauseCode r.cause),
     BitVec.ofNat 8 (32 * (if r.live then 4 else validityCode false r.validity) + 4 * retainedReasonCode r.reason)] ++
    bytesOf 2 r.tRet ++
    [BitVec.ofNat 8 (64 * r.qRet.toNat + 16 * (r.qNow.getD 0#2).toNat), BitVec.ofNat 8 (outcomeCode r.outcome)] ++
    bytesOf 2 (outcomeTurn r.outcome) ++
    [BitVec.ofNat 8 (decisionCode r.decision), BitVec.ofNat 8 (basisCode r.basis), r.decideTag.getD 0#8] := by
  rw [decisionBytes, packed_2_1_2 (startKindCode_lt _) (restorePhaseCode_lt _) (retainedCauseCode_lt _),
    packed_3_3 (validityCode_lt _ _) (retainedReasonCode_lt _), packed_2_2 r.qRet.isLt (BitVec.isLt _), validityCode_eq]
  rfl

theorem vernierBytes_none {r : RestoreReport} (hv : r.vernier = none) (hg : r.guided = false) :
    vernierBytes r = List.replicate 10 0x00#8 := by
  rw [vernierBytes, hv, hg]
  decide

theorem vernierBytes_some {r : RestoreReport} {v : VernierResult} (hv : r.vernier = some v) : vernierBytes r =
    [BitVec.ofNat 8 (32 * vernierStatusCode v.status + 16 * flag r.guided), BitVec.ofNat 8 v.candidates] ++
      bytesOf 4 v.tv ++ bytesOf 2 v.r ++ bytesOf 2 v.margin := by
  rw [vernierBytes, hv]
  simp only [vernierOr0, Option.getD_some, packed_3_1 (vernierStatusCode_lt _) (flag_lt _), codeByte]

theorem conflictBytes_some (c : ConflictRecord) : conflictBytes (some c) =
    [BitVec.ofNat 8 (128 + 64 * restorePhaseCode c.kind)] ++ bytesOf 2 c.retainedSide ++ bytesOf 2 c.vernierSide ++
      bytesOf 2 c.decideTurn ++ bytesOf 2 c.r ++ bytesOf 2 c.margin ++ [c.tag] := by
  rw [conflictBytes, packed_1_1 one_lt_two (restorePhaseCode_lt _), Nat.mul_one]

/-- A request's first argument from its two bytes. -/
theorem arg_of_payload {r : Request} {code part : Byte} (h : r.payload = [code, part]) : r.arg 0 = part.toNat := by
  simp [Request.arg, Request.args, byteAt, h]

/-- Part 0 of READ_HOMING. -/
theorem homingData_zero {r : Request} (h : r.payload = [0x05#8, 0#8]) (s : State) : homingData r s =
    [BitVec.ofNat 8 (128 * homingModeCode s.homing.mode + 16 * homingOutcomeCode s.homing.outcome),
     BitVec.ofNat 8 (homingReasonCode s.homing.reason),
     BitVec.ofNat 8 (32 * stateBeforeCode s.homing.before + 16 * approachCode s.homing.approachOf +
      8 * flag s.homing.coarseChecked)] ++
    bytesOf 2 ((s.homing.latch.map HomingLatch.thetaH).getD 0).toNat ++
    bytesOf 2 ((s.homing.latch.map HomingLatch.guardMin).getD 0 : Nat) ++
    [s.homing.edgeTag.getD 0, s.homing.captureTag.getD 0] := by
  rw [homingData, arg_of_payload h]
  simp only [packed_1_3 (homingModeCode_lt _) (homingOutcomeCode_lt _),
    packed_3_1_1 (stateBeforeCode_lt _) (approachCode_lt _) (flag_lt _), codeByte]
  rfl

/-- Part 2 of READ_HOMING, with a captured effective count that fits its home. -/
theorem homingData_two {r : Request} (h : r.payload = [0x05#8, 2#8]) {s : State}
    (hlo : -2147483648 ≤ s.homing.eCap.getD 0) (hhi : s.homing.eCap.getD 0 ≤ 2147483647) :
    homingData r s = bytesOf 4 (s.homing.eCap.getD 0) ++ bytesOf 4 (s.homing.tShift.getD 0) := by
  have hfit : inRange int32Min int32Max (s.homing.eCap.getD 0) = true := by
    simp [inRange, int32Min, int32Max, hlo, hhi]
  have hdata : homingData r s = bytesOf 4 (home32 (s.homing.eCap.getD 0)) ++ bytesOf 4 (s.homing.tShift.getD 0) := by
    rw [homingData, arg_of_payload h]
    rfl
  rw [hdata, home32, if_pos hfit]

/-- Parts 2 to 5 of READ_SWEEP: eight of the 32 counts. -/
theorem sweepData_counts {r : Request} {part : Byte} (h : r.payload = [0x06#8, part]) (hlo : 2 ≤ part.toNat)
    (hhi : part.toNat ≤ 5) (s : State) : sweepData r s =
      (List.range 8).map fun i => BitVec.ofNat 8 (s.sweep.counts.toList.getD (8 * (part.toNat - 2) + i) 0) := by
  have hdata : sweepData r s = ((s.sweep.counts.toList.drop (8 * (part.toNat - 2))).take 8).map codeByte := by
    rw [sweepData, arg_of_payload h]
    obtain ⟨n, hn⟩ : ∃ n, part.toNat = n + 2 := ⟨part.toNat - 2, by omega⟩
    rw [hn]
    rfl
  have hlen : s.sweep.counts.toList.length = 32 := Vector.length_toList
  rw [hdata]
  refine List.ext_getElem (by simp; omega) fun i hi _ => ?_
  have hi8 : i < 8 := by
    simp only [List.length_map, List.length_take, List.length_drop] at hi
    omega
  have hbin : 8 * (part.toNat - 2) + i < s.sweep.counts.toList.length := by omega
  simp only [List.getElem_map, List.getElem_take, List.getElem_drop, List.getElem_range, codeByte,
    List.getD_eq_getElem _ _ hbin]

theorem sweepData_zero {r : Request} (h : r.payload = [0x06#8, 0#8]) (s : State) :
    sweepData r s = [BitVec.ofNat 8 (sweepOutcomeCode s.sweep.outcome)] ++ bytesOf 2 s.sweep.skipped ++
      bytesOf 2 s.sweep.overflow ++ bytesOf 4 s.cal.data.coverage.toNat := by
  rw [sweepData, arg_of_payload h]
  rfl

theorem sweepData_one {r : Request} (h : r.payload = [0x06#8, 1#8]) (s : State) :
    sweepData r s = bytesOf 4 s.sweep.updated.toNat ++ bytesOf 4 s.sweep.clamped.toNat := by
  rw [sweepData, arg_of_payload h]
  rfl

/-- Part 0 of READ_PEER. -/
theorem peerBytes_eq (isSource : Bool) (c : CouplingRecord) (e : PeerEntry) : peerBytes isSource c e =
    [BitVec.ofNat 8 e.address.toNat,
     BitVec.ofNat 8 (128 * flag e.heard + 64 * flag e.absent + 32 * flag e.synced + 16 * flag e.extrapolated +
       8 * flag e.trusted + 4 * flag e.absolute),
     BitVec.ofNat 8 (e.axis.getD 0).toNat,
     BitVec.ofNat 8 (32 * (e.nodeState.getD 0#3).toNat + 4 * (e.basis.getD 0#3).toNat), e.tag.getD 0#8,
     BitVec.ofNat 8 (64 * (e.tagClass.map tagClassCode).getD 0 + 16 * (e.faultClass.getD 0#2).toNat),
     BitVec.ofNat 8 e.age] ++
    (if isSource then [BitVec.ofNat 8 (128 + 32 * lastAbsoluteCode c.lastAbsolute + 16 * flag c.prevMissed),
      BitVec.ofNat 8 c.missCount] else [0x00#8, 0x00#8]) := by
  have hclass : (e.tagClass.map tagClassCode).getD 0 < 4 := by
    cases e.tagClass with
    | none => decide
    | some x => exact tagClassCode_lt x
  rw [peerBytes, packed_bits_six, packed_3_3 (BitVec.isLt _) (BitVec.isLt _), packed_2_2 hclass (BitVec.isLt _),
    packed_1_2_1 one_lt_two (lastAbsoluteCode_lt _) (flag_lt _)]
  rfl

/-! ### The fields of the calibration and of the setup (R162) -/

theorem ratioBytes_some (r : Ratio) : ratioBytes (some r) = bytesOf 2 r.num ++ [BitVec.ofNat 8 r.den] := by
  rw [ratioBytes, bytesOf_one]

theorem calFieldBytes_bin (c : CalRecord) (i : Nat) :
    calFieldBytes c 0x05 i = if i < 32 then some (bytesOf 2 (c.corr.toList.getD i 0)) else none := by
  have hlen : c.corr.toList.length = 32 := Vector.length_toList
  rw [calFieldBytes]
  split
  · next h => rw [List.getElem?_eq_getElem (by omega), List.getD_eq_getElem _ _ (by omega), Option.map_some]
  · next h => rw [List.getElem?_eq_none (by omega), Option.map_none]

theorem calFieldBytes_unknown (c : CalRecord) {id : Nat} (i : Nat) (h : id = 0 ∨ 0x12 < id) :
    calFieldBytes c id i = none := by
  unfold calFieldBytes
  split
  case h_19 => rfl
  all_goals omega

theorem kindOfCode_kindIndex (k : FaultKind) : kindOfCode (kindIndex k).val = some k := by cases k <;> rfl

theorem kindOfCode_eq_none {n : Nat} (h : 15 ≤ n) : kindOfCode n = none := List.getElem?_eq_none h

theorem setupFieldBytes_action (x : Setup) (k : FaultKind) :
    setupFieldBytes x 0x09 (kindIndex k).val = some [BitVec.ofNat 8 (actionCode x.actions[kindIndex k])] := by
  rw [setupFieldBytes, kindOfCode_kindIndex]
  rfl

theorem setupFieldBytes_unknown (x : Setup) {id : Nat} (kind : Nat) (h : id = 0 ∨ 0x12 < id) :
    setupFieldBytes x id kind = none := by
  unfold setupFieldBytes
  split
  case h_19 => rfl
  all_goals omega

/-- Settles O7, block by block. -/
theorem replyLayouts : Obligations.ReplyLayouts := by
  unfold Obligations.ReplyLayouts
  intro yes byte
  refine ⟨selfCheckBytes_eq, statusCounters_eq, rfl, faultRecordBytes_some, retainedBytes_eq, ?_, ?_, rfl,
    conflictBytes_some, ?_, ?_, ?_, ?_, ?_⟩
  case refine_1 =>
    intro r
    refine (decisionBytes_eq r).trans ?_
    rcases hr : r.outcome with _ | o
    · rfl
    · cases o <;> rfl
  case refine_2 => exact fun r => ⟨vernierBytes_none, fun v => vernierBytes_some⟩
  case refine_3 =>
    intro s r h approach
    refine ⟨fun hr => (homingData_zero hr s).trans ?_, fun hr => ?_, fun hr hlo hhi => homingData_two hr hlo hhi⟩
    · simp only [approach, h, HomingRecord.approachOf]
      cases s.homing.latch <;> rfl
    · rw [homingData, arg_of_payload hr]
      rfl
  case refine_4 =>
    exact fun s r => ⟨fun h => sweepData_zero h s, fun h => sweepData_one h s,
      fun part hlo hhi h => sweepData_counts h hlo hhi s⟩
  case refine_5 =>
    intro e c isSource
    refine ⟨(peerBytes_eq isSource c e).trans ?_, rfl⟩
    cases e.tagClass <;> rfl
  case refine_6 =>
    intro c i
    refine ⟨?_, rfl, rfl, rfl, calFieldBytes_bin c i, rfl, ?_, rfl, rfl, rfl, rfl, rfl, rfl, rfl, rfl, rfl, rfl, rfl,
      fun id => calFieldBytes_unknown c i⟩
    · rw [calFieldBytes]
      cases c.ratio with
      | none => rfl
      | some r => rw [ratioBytes_some]
    · rw [calFieldBytes]
      cases c.window <;> rfl
  case refine_7 =>
    intro x kind addresses
    refine ⟨rfl, ?_, rfl, rfl, ?_, ?_, ?_, rfl, setupFieldBytes_action x, ?_, rfl, rfl, rfl, rfl, rfl, rfl, ?_, rfl, rfl,
      fun id => setupFieldBytes_unknown x kind⟩
    · rw [setupFieldBytes]
      cases x.source <;> rfl
    · exact congrArg some (bytesOf_one x.hold)
    · exact congrArg some (bytesOf_one x.peerTimeout)
    · exact congrArg some (bytesOf_one x.missLimit)
    · intro hk
      rw [setupFieldBytes, kindOfCode_eq_none hk, Option.map_none]
    · exact congrArg some (bytesOf_one x.sweepMin)

end Sys2Proof.Machine
end

section
/-! SUPPORT. What the write of one field makes of the calibration or of the setup image (O8), and a calibration written
back as it reads (O9). -/

namespace Sys2Proof.Machine

/-! ### The three kinds of rule: clamped, checked, a row of the table -/

theorem writeClamped_below {α : Type} {lo hi x : Nat} (put : Nat → α) (h : x < lo) :
    writeClamped lo hi x put = .stored (put lo) true := by
  have hx : lo ≠ x := by omega
  simp [writeClamped, clampNat, h, hx]

theorem writeClamped_within {α : Type} {lo hi x : Nat} (put : Nat → α) (hlo : lo ≤ x) (hhi : x ≤ hi) :
    writeClamped lo hi x put = .stored (put x) false := by
  simp [writeClamped, clampNat, hlo.not_gt, hhi.not_gt]

theorem writeClamped_above {α : Type} {lo hi x : Nat} (put : Nat → α) (hlh : lo ≤ hi) (h : hi < x) :
    writeClamped lo hi x put = .stored (put hi) true := by
  have hlo : ¬x < lo := by omega
  have hx : hi ≠ x := by omega
  simp [writeClamped, clampNat, h, hlo, hx]

/-- A row of a clamped field. -/
theorem clampedWrite_row {α : Type} {w : FieldWrite α} {lo hi x : Nat} {put : Nat → α} (hw : w = writeClamped lo hi x put)
    (hlh : lo.ble hi = true) :
    (x < lo → w = .stored (put lo) true) ∧ (lo ≤ x → x ≤ hi → w = .stored (put x) false) ∧
    (hi < x → w = .stored (put hi) true) := by
  rw [hw]
  exact ⟨writeClamped_below put, writeClamped_within put, writeClamped_above put (Nat.le_of_ble_eq_true hlh)⟩

theorem writeChecked_of {α : Type} {ok : Bool} {record : α} (h : ok = true) : writeChecked ok record = .stored record false := by
  rw [h]
  rfl

theorem writeChecked_refused {α : Type} {ok : Bool} {record : α} (h : ¬ok = true) : writeChecked ok record = .refused := by
  rw [Bool.not_eq_true] at h
  rw [h]
  rfl

@[simp] theorem natOfBytes_singleton (b : Byte) : natOfBytes [b] = b.toNat := by simp [natOfBytes]

@[simp] theorem natOfBytes_pair (a b : Byte) : natOfBytes [a, b] = 256 * a.toNat + b.toNat := by simp [natOfBytes]

/-! ### The calibration's fields (R100) -/

theorem calFieldWrite_ratio (c : CalRecord) (i : Nat) (a b d : Byte) :
    calFieldWrite c 0x01 i [a, b, d] =
      writeChecked (ratioOk ⟨256 * a.toNat + b.toNat, d.toNat⟩) { c with ratio := some ⟨256 * a.toNat + b.toNat, d.toNat⟩ } := by
  rw [← natOfBytes_pair, ← natOfBytes_singleton]
  rfl

theorem ratioOk_iff (r : Ratio) :
    ratioOk r = true ↔ 16 ≤ r.num ∧ r.num ≤ 8000 ∧ 1 ≤ r.den ∧ r.den ≤ 16 ∧ 4 * r.den ≤ r.num := by
  simp only [ratioOk, Bool.and_eq_true, decide_eq_true_eq, and_assoc]

theorem calFieldWrite_home (c : CalRecord) (i : Nat) (a b d : Byte) :
    calFieldWrite c 0x0B i [a, b, d] =
      writeChecked (decide (256 * a.toNat + b.toNat ≤ 16383) && decide (d.toNat ≤ 1))
        { c with thetaH := BitVec.ofNat 14 (256 * a.toNat + b.toNat), approach := if d.toNat = 0 then .pos else .neg } := by
  rw [← natOfBytes_pair, ← natOfBytes_singleton]
  rfl

theorem getLsbD_binUnmark (m : BinMask) (i : Nat) {b : Nat} (hb : b < 32) :
    (binUnmark m i).getLsbD b = (m.getLsbD b && b != i) := by
  by_cases h : b < i
  · have hne : b ≠ i := by omega
    simp [binUnmark, hb, h, hne]
  · by_cases he : b = i
    · simp [binUnmark, he]
    · have hsub : b - i ≠ 0 := by omega
      simp [binUnmark, hb, he, hsub]

theorem getD_setIfInBounds {α : Type} {n : Nat} (v : Vector α n) (i : Nat) (x d : α) {b : Nat} (hb : b < n) :
    (v.setIfInBounds i x).toList.getD b d = if b = i then x else v.toList.getD b d := by
  rw [List.getD_eq_getElem _ _ (by simpa using hb), List.getD_eq_getElem _ _ (by simpa using hb)]
  simp only [Vector.getElem_toList, Vector.getElem_setIfInBounds, eq_comm]

theorem clampInt_eq_max_min (x : Int) : clampInt (-2048) 2047 x = max (-2048) (min 2047 x) := by
  unfold clampInt
  split
  · omega
  · split <;> omega

/-- A written correction: clamped, and its bin's coverage flag cleared (R102). -/
theorem calFieldWrite_correction (c : CalRecord) (i : Nat) (v : List Byte) :
    calFieldWrite c 0x05 i v =
      .stored { c with corr := c.corr.setIfInBounds i (max (-2048) (min 2047 (intOfBytes v)))
                       coverage := binUnmark c.coverage i }
        (decide (intOfBytes v < -2048 ∨ 2047 < intOfBytes v)) := by
  have hclamped : (clampInt (-2048) 2047 (intOfBytes v) != intOfBytes v) =
      decide (intOfBytes v < -2048 ∨ 2047 < intOfBytes v) := by
    rw [clampInt_eq_max_min, Bool.eq_iff_iff, bne_iff_ne, decide_eq_true_eq]
    omega
  rw [← hclamped, ← clampInt_eq_max_min]
  rfl

theorem windowOk_iff_of_fits {lo hi : Int} (hlo : -2147483648 ≤ lo) (hlo' : lo ≤ 2147483647) (hhi : -2147483648 ≤ hi)
    (hhi' : hi ≤ 2147483647) : windowOk ⟨lo, hi⟩ = true ↔ lo < hi ∧ hi - lo ≤ 2097152 := by
  simp [windowOk, inRange, int32Min, int32Max, hlo, hlo', hhi, hhi']

theorem calFieldWrite_window (c : CalRecord) (i : Nat) {lo hi : Int} (hlo : -2147483648 ≤ lo) (hlo' : lo ≤ 2147483647)
    (hhi : -2147483648 ≤ hi) (hhi' : hi ≤ 2147483647) :
    calFieldWrite c 0x07 i (bytesOf 4 lo ++ bytesOf 4 hi) =
      writeChecked (windowOk ⟨lo, hi⟩) { c with window := some ⟨lo, hi⟩ } := by
  have hl : intOfBytes ((bytesOf 4 lo ++ bytesOf 4 hi).take 4) = lo := intOfBytes_bytesOf_four hlo hlo'
  have hr : intOfBytes ((bytesOf 4 lo ++ bytesOf 4 hi).drop 4) = hi := intOfBytes_bytesOf_four hhi hhi'
  simp only [calFieldWrite, hl, hr]

theorem calFieldWrite_offset_stored (c : CalRecord) (i : Nat) {v : List Byte} (h : -8192 ≤ intOfBytes v ∧ intOfBytes v ≤ 8191) :
    calFieldWrite c 0x04 i v = .stored { c with c := intOfBytes v } false :=
  writeChecked_of (inRange_iff.mpr h)

theorem calFieldWrite_offset_refused (c : CalRecord) (i : Nat) {v : List Byte} (h : intOfBytes v < -8192 ∨ 8191 < intOfBytes v) :
    calFieldWrite c 0x04 i v = .refused :=
  writeChecked_refused (by rw [inRange_iff]; omega)

theorem calValueSize_unknown {id : Nat} (h : 0x12 < id) : calValueSize id = none := by
  unfold calValueSize
  split
  case h_17 => rfl
  all_goals omega

/-! ### The setup's fields (R105, R106) -/

theorem setupSizeOk_iff {id size : Nat} (hlo : 1 ≤ id) (hhi : id ≤ 0x12) : setupSizeOk id size = true ↔
    if id = 1 ∨ id = 3 then size ≤ 8
    else if id = 4 ∨ id = 8 ∨ id = 0x0B ∨ id = 0x0E ∨ id = 0x0F ∨ id = 0x11 ∨ id = 0x12 then size = 2 else size = 1 := by
  interval_cases id <;> simp [setupSizeOk]

theorem roundPeriod_nearest (n : Nat) : roundPeriod n % 50 = 0 ∧ (n ≤ 250 → roundPeriod n = 250) ∧
    (4000 ≤ n → roundPeriod n = 4000) ∧ (250 ≤ n → n ≤ 4000 → roundPeriod n ≤ n + 25 ∧ n < roundPeriod n + 25) := by
  unfold roundPeriod clampNat
  split
  · omega
  · split <;> omega

theorem actionOfCode_actionCode (a : Action) : actionOfCode (actionCode a) = some a := by cases a <;> rfl

theorem actionOfCode_eq_none {n : Nat} (h : n = 0 ∨ 3 < n) : actionOfCode n = none := by
  unfold actionOfCode
  split
  case h_4 => rfl
  all_goals omega

theorem setupFieldWrite_action (own : Address) (s : Setup) (k : FaultKind) {b : Byte} {a : Action}
    (hb : b.toNat = actionCode a) : setupFieldWrite own s 0x09 (kindIndex k).val [b] =
      writeChecked (actionAllowed k a) { s with actions := s.actions.set (kindIndex k) a } := by
  rw [setupFieldWrite, natOfBytes_singleton, hb, kindOfCode_kindIndex, actionOfCode_actionCode]

theorem setupFieldWrite_noAction (own : Address) (s : Setup) (k : FaultKind) {b : Byte} (hb : b = 0#8 ∨ 3 < b.toNat) :
    setupFieldWrite own s 0x09 (kindIndex k).val [b] = .refused := by
  have hcode : b.toNat = 0 ∨ 3 < b.toNat := hb.imp_left (congrArg BitVec.toNat)
  rw [setupFieldWrite, natOfBytes_singleton, kindOfCode_kindIndex, actionOfCode_eq_none hcode]

theorem setupFieldWrite_recovery (own : Address) (s : Setup) (kind : Nat) (v : List Byte) :
    setupFieldWrite own s 0x0A kind v = writeChecked (decide (natOfBytes v ≤ 1))
      { s with recovery := if natOfBytes v = 0 then .latched else .retry } := rfl

/-! ### The lists of addresses (R105, R106) -/

theorem toNat_addressOfByte {b : Byte} (h : b.toNat < 15) : (addressOfByte b).toNat = b.toNat := by
  rw [addressOfByte, if_pos (by omega), BitVec.toNat_ofNat]
  omega

theorem addressOfByte_eq_iff {b : Byte} {a : Address} (ha : a ≠ 15#4) : addressOfByte b = a ↔ b.toNat = a.toNat := by
  by_cases h : b.toNat < 15
  · rw [← BitVec.toNat_inj, toNat_addressOfByte h]
  · have hb : addressOfByte b = 15#4 := by
      unfold addressOfByte
      split
      · rw [show b.toNat = 15 by omega]
      · rfl
    have hlt := a.isLt
    have hne : a.toNat ≠ 15 := fun e => ha (BitVec.eq_of_toNat_eq e)
    rw [hb]
    exact ⟨fun e => (ha e.symm).elim, fun e => by omega⟩

theorem addressOfByte_addressByte (a : Address) : addressOfByte (BitVec.ofNat 8 a.toNat) = a := by
  have hlt := a.isLt
  have hn : (BitVec.ofNat 8 a.toNat).toNat = a.toNat := by
    rw [BitVec.toNat_ofNat]
    omega
  rw [addressOfByte, hn, if_pos hlt, BitVec.ofNat_toNat, BitVec.setWidth_eq]

/-- A byte is a station address, and not the node's own, as its address is. -/
theorem addressOfByte_allowed_iff (own : Address) (b : Byte) :
    (addressOfByte b ≠ 15#4 ∧ addressOfByte b ≠ own) ↔ b.toNat < 15 ∧ b.toNat ≠ own.toNat := by
  by_cases h : b.toNat < 15
  · have hne : addressOfByte b ≠ 15#4 := by
      intro e
      have := congrArg BitVec.toNat e
      rw [toNat_addressOfByte h] at this
      simp at this
      omega
    simp [h, hne, ← BitVec.toNat_inj (x := addressOfByte b) (y := own), toNat_addressOfByte h]
  · have hb : addressOfByte b = 15#4 := by
      unfold addressOfByte
      split
      · rw [show b.toNat = 15 by omega]
      · rfl
    simp [h, hb]

@[simp] theorem mem_sortAddresses (l : List Address) (a : Address) : a ∈ sortAddresses l ↔ a ∈ l := by
  have hall : ∀ a : Address, a ∈ (List.range 16).map (BitVec.ofNat 4) := by decide
  simp [sortAddresses, hall a]

theorem sortAddresses_pairwise (l : List Address) : (sortAddresses l).Pairwise fun a b => a.toNat < b.toNat :=
  List.Pairwise.filter _ (by decide)

theorem sortAddresses_nodup (l : List Address) : (sortAddresses l).Nodup :=
  (sortAddresses_pairwise l).imp fun h e => absurd (congrArg BitVec.toNat e) h.ne

theorem ascending_of_pairwise : ∀ {l : List Address}, l.Pairwise (fun a b => a.toNat < b.toNat) → ascending l = true
  | [], _ => rfl
  | [_], _ => rfl
  | a :: b :: rest, h => by
    obtain ⟨ha, hrest⟩ := List.pairwise_cons.mp h
    simp [ascending, ha b (by simp), ascending_of_pairwise hrest]

/-- Sorting keeps the length exactly of a list without repeats. -/
theorem length_sortAddresses_eq_iff (l : List Address) : (sortAddresses l).length = l.length ↔ l.Nodup := by
  have hsame : (sortAddresses l).toFinset = l.toFinset := by
    ext a
    simp
  have hcard : (sortAddresses l).length = l.toFinset.card := by
    rw [← hsame, List.toFinset_card_of_nodup (sortAddresses_nodup l)]
  rw [hcard]
  exact Multiset.toFinset_card_eq_card_iff_nodup (m := (l : Multiset Address))

theorem membersOk_sortAddresses_iff (own : Address) (l : List Address) :
    membersOk own (sortAddresses l) = true ↔ (sortAddresses l).length ≤ 8 ∧ ∀ a ∈ l, a ≠ 15#4 ∧ a ≠ own := by
  simp [membersOk, ascending_of_pairwise (sortAddresses_pairwise l)]

/-- What a list of bytes must be to become the members (R105). -/
def MembersListOk (own : Address) (s : Setup) (v : List Byte) : Prop :=
  v.length ≤ 8 ∧ (∀ b ∈ v, b.toNat < 15 ∧ b.toNat ≠ own.toNat) ∧ v.Nodup ∧
    (∀ a, s.source = some a → ∃ b ∈ v, b.toNat = a.toNat) ∧ ∀ a ∈ s.waitSet, ∃ b ∈ v, b.toNat = a.toNat

theorem mem_map_addressOfByte {v : List Byte} (hv : ∀ b ∈ v, b.toNat < 15) (a : Address) :
    a ∈ v.map addressOfByte ↔ ∃ b ∈ v, b.toNat = a.toNat := by
  simp only [List.mem_map]
  refine exists_congr fun b => and_congr_right fun hb => ?_
  rw [← BitVec.toNat_inj, toNat_addressOfByte (hv b hb)]

theorem nodup_map_addressOfByte_iff {v : List Byte} (hv : ∀ b ∈ v, b.toNat < 15) :
    (v.map addressOfByte).Nodup ↔ v.Nodup := by
  refine ⟨List.Nodup.of_map _, fun h => h.map_on fun x hx y hy e => BitVec.eq_of_toNat_eq ?_⟩
  rw [← toNat_addressOfByte (hv x hx), ← toNat_addressOfByte (hv y hy), e]

/-- The rules of the lists, tested on the sorted addresses, are the rules of the bytes (R105, R106). -/
theorem membersGuard_iff (own : Address) {s : Setup} (hwait : s.waitSet.length ≤ 8) (v : List Byte) :
    ((sortAddresses (v.map addressOfByte)).length == (v.map addressOfByte).length &&
      membersOk own (sortAddresses (v.map addressOfByte)) &&
      sourceOk { s with members := sortAddresses (v.map addressOfByte) } &&
      waitOk { s with members := sortAddresses (v.map addressOfByte) }) = true ↔ MembersListOk own s v := by
  have hallowed : (∀ a ∈ v.map addressOfByte, a ≠ 15#4 ∧ a ≠ own) ↔ ∀ b ∈ v, b.toNat < 15 ∧ b.toNat ≠ own.toNat := by
    simp only [List.forall_mem_map, addressOfByte_allowed_iff]
  have hsource : sourceOk { s with members := sortAddresses (v.map addressOfByte) } = true ↔
      ∀ a, s.source = some a → a ∈ v.map addressOfByte := by
    cases s.source <;> simp [sourceOk]
  have hwaits : waitOk { s with members := sortAddresses (v.map addressOfByte) } = true ↔
      ∀ a ∈ s.waitSet, a ∈ v.map addressOfByte := by
    simp [waitOk, hwait]
  rw [Bool.and_eq_true, Bool.and_eq_true, Bool.and_eq_true, beq_iff_eq, length_sortAddresses_eq_iff,
    membersOk_sortAddresses_iff, hallowed, hsource, hwaits]
  by_cases hbytes : ∀ b ∈ v, b.toNat < 15 ∧ b.toNat ≠ own.toNat
  · have hv : ∀ b ∈ v, b.toNat < 15 := fun b hb => (hbytes b hb).1
    have hlen : (v.map addressOfByte).Nodup → ((sortAddresses (v.map addressOfByte)).length ≤ 8 ↔ v.length ≤ 8) := by
      intro h
      rw [(length_sortAddresses_eq_iff _).mpr h, List.length_map]
    simp only [MembersListOk, mem_map_addressOfByte hv] at hlen ⊢
    rw [nodup_map_addressOfByte_iff hv] at hlen ⊢
    tauto
  · exact iff_of_false (fun h => hbytes h.1.1.2.2) (fun h => hbytes h.2.1)

/-- The rules a valid setup image keeps about its lists (R105). -/
theorem setupRecordOk_lists {own : Address} {s : Setup} (h : setupRecordOk own s = true) :
    (∀ a ∈ s.members, a ≠ 15#4) ∧ s.waitSet.length ≤ 8 := by
  simp only [setupRecordOk, membersOk, waitOk, Bool.and_eq_true, List.all_eq_true, decide_eq_true_eq, bne_iff_ne] at h
  obtain ⟨⟨⟨⟨⟨-, hm⟩, -⟩, hw, -⟩, -⟩, -⟩ := h
  exact ⟨fun a ha => (hm a ha).1, hw⟩

theorem setupFieldWrite_members_stored (own : Address) {s : Setup} (kind : Nat) {v : List Byte} (hwait : s.waitSet.length ≤ 8)
    (hok : MembersListOk own s v) :
    setupFieldWrite own s 0x01 kind v = .stored { s with members := sortAddresses (v.map addressOfByte) } false :=
  writeChecked_of ((membersGuard_iff own hwait v).mpr hok)

theorem setupFieldWrite_members_refused (own : Address) {s : Setup} (kind : Nat) {v : List Byte} (hwait : s.waitSet.length ≤ 8)
    (hok : ¬MembersListOk own s v) : setupFieldWrite own s 0x01 kind v = .refused :=
  writeChecked_refused (mt (membersGuard_iff own hwait v).mp hok)

/-- The source written as a byte other than 0Fh (R105). -/
theorem setupFieldWrite_source (own : Address) (s : Setup) (kind : Nat) {b : Byte} (hb : b ≠ 0x0F#8) :
    setupFieldWrite own s 0x02 kind [b] =
      writeChecked (s.members.contains (addressOfByte b)) { s with source := some (addressOfByte b) } := by
  have hn : ¬natOfBytes [b] = 15 := by
    rw [natOfBytes_singleton]
    exact fun e => hb (BitVec.eq_of_toNat_eq e)
  simp only [setupFieldWrite, if_neg hn]
  rfl

theorem setupFieldWrite_source_member (own : Address) {s : Setup} (kind : Nat) (hm : ∀ a ∈ s.members, a ≠ 15#4) {a : Address}
    (ha : a ∈ s.members) : setupFieldWrite own s 0x02 kind [BitVec.ofNat 8 a.toNat] = .stored { s with source := some a } false := by
  have hne : BitVec.ofNat 8 a.toNat ≠ 0x0F#8 := by
    intro e
    have h15 := addressOfByte_addressByte a
    rw [e] at h15
    exact hm a ha h15.symm
  rw [setupFieldWrite_source own s kind hne, addressOfByte_addressByte]
  exact writeChecked_of (by simpa using ha)

theorem setupFieldWrite_source_refused (own : Address) {s : Setup} (kind : Nat) (hm : ∀ a ∈ s.members, a ≠ 15#4) {b : Byte}
    (hb : b ≠ 0x0F#8) (hout : ∀ a ∈ s.members, a.toNat ≠ b.toNat) : setupFieldWrite own s 0x02 kind [b] = .refused := by
  rw [setupFieldWrite_source own s kind hb]
  refine writeChecked_refused fun h => ?_
  have hmem : addressOfByte b ∈ s.members := by simpa using h
  exact hout _ hmem ((addressOfByte_eq_iff (hm _ hmem)).mp rfl).symm

theorem setupFieldWrite_wait_stored (own : Address) {s : Setup} (kind : Nat) {l : List Address} (hl : ∀ a ∈ l, a ∈ s.members) :
    setupFieldWrite own s 0x03 kind (l.map fun a => BitVec.ofNat 8 a.toNat) = .stored { s with waitSet := l } false := by
  have hmap : (l.map fun a => (BitVec.ofNat 8 a.toNat : Byte)).map addressOfByte = l := by
    rw [List.map_map]
    exact List.map_id'' addressOfByte_addressByte l
  simp only [setupFieldWrite, hmap]
  exact writeChecked_of (by simpa using hl)

theorem setupFieldWrite_wait_refused (own : Address) {s : Setup} (kind : Nat) (hm : ∀ a ∈ s.members, a ≠ 15#4) {v : List Byte}
    (hv : ∃ b ∈ v, ∀ a ∈ s.members, a.toNat ≠ b.toNat) : setupFieldWrite own s 0x03 kind v = .refused := by
  obtain ⟨b, hb, hout⟩ := hv
  refine writeChecked_refused fun h => ?_
  have hmem : addressOfByte b ∈ s.members := by
    simp only [List.all_map, List.all_eq_true, Function.comp_apply, List.contains_iff_mem] at h
    exact h b hb
  exact hout _ hmem ((addressOfByte_eq_iff (hm _ hmem)).mp rfl).symm

/-! ### The tables -/

/-- What an action must be to be taken for a kind (R175). -/
theorem actionAllowed_iff (k : FaultKind) (a : Action) : actionAllowed k a = true ↔
    match k with
    | .motorEncoder | .trackJump | .vernierDrift | .restoreConflict | .couplingLost => a ≠ .report
    | .coarseEncoder | .travelLimit => True
    | .sampleStuck | .memberAbsent => a ≠ .hold
    | .linkDetached | .addressClash => a = .halt
    | .calInvalid => a = .hold
    | .setupInvalid | .storeFailed => a = .report
    | .backupLow => a ≠ .halt := by
  cases k <;> simp [actionAllowed]

/-- Settles O8, row by row. -/
theorem fieldWriteTables : Obligations.FieldWriteTables := by
  unfold Obligations.FieldWriteTables
  refine ⟨?_, ?_, ?_, rfl, fun id => calValueSize_unknown, fun id size => setupSizeOk_iff, ?_, ?_, ?_⟩
  case refine_1 =>
    intro c i v n x clamped
    exact ⟨rfl, rfl, calFieldWrite_offset_stored c i, calFieldWrite_offset_refused c i,
      ⟨_, calFieldWrite_correction c i v, rfl, fun b hb => ⟨getD_setIfInBounds _ _ _ _ hb, getLsbD_binUnmark _ _ hb⟩⟩,
      clampedWrite_row (put := fun k => { c with lm := k }) (by rw [calFieldWrite]) rfl,
      clampedWrite_row (put := fun k => { c with m := k }) (by rw [calFieldWrite]) rfl,
      clampedWrite_row (put := fun k => { c with v := k }) (by rw [calFieldWrite]) rfl,
      clampedWrite_row (put := fun k => { c with driftLimit := k }) (by rw [calFieldWrite]) rfl, rfl, rfl,
      clampedWrite_row (put := fun k => { c with homeCoarseTol := k }) (by rw [calFieldWrite]) rfl,
      clampedWrite_row (put := fun k => { c with guardMin := k }) (by rw [calFieldWrite]) rfl,
      clampedWrite_row (put := fun k => { c with homeResidualTol := k }) (by rw [calFieldWrite]) rfl⟩
  case refine_2 =>
    intro c i a b d n ratio
    refine ⟨fun h => ?_, fun h => ?_, fun hn hd => ?_, fun hn hd => ?_, fun h => ?_⟩
    · rw [calFieldWrite_ratio]
      exact writeChecked_of ((ratioOk_iff _).mpr h)
    · rw [calFieldWrite_ratio]
      exact writeChecked_refused (mt (ratioOk_iff _).mp h)
    · rw [calFieldWrite_home, hd]
      exact writeChecked_of (by simpa using hn)
    · rw [calFieldWrite_home, hd]
      exact writeChecked_of (by simpa using hn)
    · rw [calFieldWrite_home]
      refine writeChecked_refused ?_
      simp only [Bool.and_eq_true, decide_eq_true_eq, not_and]
      rcases h with h | ⟨h0, h1⟩
      · exact fun hn => absurd hn h.not_ge
      · have h0' : d.toNat ≠ 0 := fun e => h0 (BitVec.eq_of_toNat_eq e)
        have h1' : d.toNat ≠ 1 := fun e => h1 (BitVec.eq_of_toNat_eq e)
        omega
  case refine_3 =>
    intro c i lo hi hlo hlo' hhi hhi'
    rw [calFieldWrite_window c i hlo hlo' hhi hhi', ← windowOk_iff_of_fits hlo hlo' hhi hhi']
    exact ⟨writeChecked_of, writeChecked_refused⟩
  case refine_4 =>
    intro own s kind v n clamped
    obtain ⟨hmul, hlow, hhigh, hmid⟩ := roundPeriod_nearest n
    refine ⟨clampedWrite_row (put := fun k => { s with hold := k }) (by rw [setupFieldWrite]) rfl,
      clampedWrite_row (put := fun k => { s with peerTimeout := k }) (by rw [setupFieldWrite]) rfl,
      clampedWrite_row (put := fun k => { s with missLimit := k }) (by rw [setupFieldWrite]) rfl,
      clampedWrite_row (put := fun k => { s with beacon := k }) (by rw [setupFieldWrite]) rfl,
      clampedWrite_row (put := fun k => { s with retryDelay := k }) (by rw [setupFieldWrite]) rfl,
      clampedWrite_row (put := fun k => { s with settle := k }) (by rw [setupFieldWrite]) rfl,
      clampedWrite_row (put := fun k => { s with bite := k }) (by rw [setupFieldWrite]) rfl,
      clampedWrite_row (put := fun k => { s with sweepMin := k }) (by rw [setupFieldWrite]) rfl,
      clampedWrite_row (put := fun k => { s with sweepSpeed := k }) (by rw [setupFieldWrite]) rfl,
      clampedWrite_row (put := fun k => { s with jumpLimit := k }) (by rw [setupFieldWrite]) rfl,
      ⟨_, rfl, hmul, hlow, hhigh, hmid⟩, fun h => ?_, fun h => ?_, fun h => ?_, rfl, rfl⟩
    · rw [setupFieldWrite_recovery, show natOfBytes v = 0 from h]
      rfl
    · rw [setupFieldWrite_recovery, show natOfBytes v = 1 from h]
      rfl
    · rw [setupFieldWrite_recovery]
      exact writeChecked_refused (by simpa using h)
  case refine_5 =>
    intro own s k b allowed
    refine ⟨fun a hb ha => ?_, fun a hb ha => ?_, setupFieldWrite_noAction own s k, rfl, rfl, rfl⟩
    · rw [setupFieldWrite_action own s k hb]
      exact writeChecked_of ((actionAllowed_iff k a).mpr (by revert ha; cases k <;> exact id))
    · rw [setupFieldWrite_action own s k hb]
      exact writeChecked_refused (mt (actionAllowed_iff k a).mp (by revert ha; cases k <;> exact id))
  case refine_6 =>
    intro own s kind v hs names listOk
    obtain ⟨hm, hwait⟩ := setupRecordOk_lists hs
    refine ⟨fun h => ⟨_, setupFieldWrite_members_stored own kind hwait h, sortAddresses_pairwise _, fun a => ?_⟩,
      setupFieldWrite_members_refused own kind hwait, rfl, fun a => setupFieldWrite_source_member own kind hm,
      fun b => setupFieldWrite_source_refused own kind hm, fun l hv hl => ?_, setupFieldWrite_wait_refused own kind hm⟩
    · rw [mem_sortAddresses]
      exact mem_map_addressOfByte (fun b hb => (h.2.1 b hb).1) a
    · rw [hv]
      exact setupFieldWrite_wait_stored own kind hl

/-! ### Written back as it reads -/

theorem writeClamped_back {α : Type} {lo hi x : Nat} (put : Nat → α) (hlo : lo ≤ x) (hhi : x ≤ hi) (hfit : hi < 65536) :
    writeClamped lo hi (natOfBytes (bytesOf 2 x)) put = .stored (put x) false := by
  rw [natOfBytes_bytesOf_of_lt 2 (by omega)]
  exact writeClamped_within put hlo hhi

theorem ofNat_natOfBytes_bytesOf (n : Nat) (x : BitVec n) (hn : n ≤ 16) :
    BitVec.ofNat n (natOfBytes (bytesOf 2 x.toNat)) = x := by
  have hlt : x.toNat < 256 ^ 2 := x.isLt.trans_le (by
    rw [show (256 : Nat) ^ 2 = 2 ^ 16 by norm_num]
    exact Nat.pow_le_pow_right two_pos hn)
  rw [natOfBytes_bytesOf_of_lt 2 hlt, BitVec.ofNat_toNat, BitVec.setWidth_eq]

theorem fits32_of_inRange {x : Int} (h : inRange int32Min int32Max x = true) : intOfBytes (bytesOf 4 x) = x :=
  intOfBytes_bytesOf_four (inRange_iff.mp h).1 (inRange_iff.mp h).2

/-- A field that may be written stands in 01h to 10h. -/
theorem le_of_calValueSize {id : Nat} (h : (calValueSize id).isSome = true) : 1 ≤ id ∧ id ≤ 16 := by
  unfold calValueSize at h
  split at h <;> simp_all

/-- The writable fields' rules of a record in range, one by one (R100, R108). -/
structure CalRules (r : CalRecord) : Prop where
  ratio : ∃ x, r.ratio = some x ∧ ratioOk x = true
  window : ∃ w, r.window = some w ∧ windowOk w = true
  z : inRange int32Min int32Max r.z = true
  c : inRange (-8192) 8191 r.c = true
  corr : ∀ x ∈ r.corr.toList, inRange (-2048) 2047 x = true
  lm : r.lm ≤ 4095
  m : r.m ≤ 65535
  v : 256 ≤ r.v ∧ r.v ≤ 8191
  driftLimit : 256 ≤ r.driftLimit ∧ r.driftLimit ≤ 65535
  h : inRange int32Min int32Max r.h = true
  homeCoarseTol : 16 ≤ r.homeCoarseTol ∧ r.homeCoarseTol ≤ 4096
  guardMin : 256 ≤ r.guardMin ∧ r.guardMin ≤ 8191
  homeResidualTol : 64 ≤ r.homeResidualTol ∧ r.homeResidualTol ≤ 4096

theorem calRules_of_ok {c : CalRecord} (h : calRecordOk c = true) : CalRules c := by
  simp only [calRecordOk, Bool.and_eq_true, decide_eq_true_eq, and_assoc, Option.any_eq_true, List.all_eq_true] at h
  obtain ⟨hr, hw, hz, hc, hcorr, hlm, hm, hv, hv', hd, hd', hh, ht, ht', hg, hg', hres, hres'⟩ := h
  exact ⟨hr, hw, hz, hc, hcorr, hlm, hm, ⟨hv, hv'⟩, ⟨hd, hd'⟩, hh, ⟨ht, ht'⟩, ⟨hg, hg'⟩, ⟨hres, hres'⟩⟩

/-- A field's bytes have its size, and written back they change no field, except that the write of a bin clears its
coverage flag. -/
def WritesBack (c : CalRecord) (id idx : Nat) (v : List Byte) : Prop :=
  calValueSize id = some v.length ∧
    calFieldWrite c id idx v = .stored (if id = 5 then { c with coverage := binUnmark c.coverage idx } else c) false

theorem ratio_writesBack {c : CalRecord} (idx : Nat) {r : Ratio} (hr : c.ratio = some r) (hok : ratioOk r = true) :
    WritesBack c 0x01 idx (ratioBytes c.ratio) := by
  obtain ⟨-, hnum, -, hden, -⟩ := (ratioOk_iff r).mp hok
  have htake : natOfBytes ((ratioBytes (some r)).take 2) = r.num := natOfBytes_bytesOf_of_lt 2 (by omega)
  have hdrop : natOfBytes ((ratioBytes (some r)).drop 2) = r.den := natOfBytes_bytesOf_of_lt 1 (by omega)
  rw [hr]
  refine ⟨rfl, ?_⟩
  simp only [calFieldWrite, htake, hdrop, writeChecked_of hok]
  rw [← hr]
  rfl

theorem window_writesBack {c : CalRecord} (idx : Nat) {w : Window} (hw : c.window = some w) (hok : windowOk w = true) :
    WritesBack c 0x07 idx (windowBytes c.window) := by
  have hfit := hok
  simp only [windowOk, Bool.and_eq_true] at hfit
  obtain ⟨⟨⟨hlo, hhi⟩, -⟩, -⟩ := hfit
  rw [hw]
  refine ⟨rfl, ?_⟩
  rw [windowBytes, calFieldWrite_window c idx (inRange_iff.mp hlo).1 (inRange_iff.mp hlo).2 (inRange_iff.mp hhi).1
    (inRange_iff.mp hhi).2, writeChecked_of hok, ← hw]
  rfl

theorem correction_writesBack {c : CalRecord} (hr : CalRules c) {idx : Nat} {x : Int} (hx : c.corr.toList[idx]? = some x) :
    WritesBack c 0x05 idx (bytesOf 2 x) := by
  obtain ⟨hlo, hhi⟩ := inRange_iff.mp (hr.corr x (List.mem_of_getElem? hx))
  have hback : intOfBytes (bytesOf 2 x) = x := intOfBytes_bytesOf_two (by omega) (by omega)
  have hsame : c.corr.setIfInBounds idx x = c.corr := by
    refine Vector.ext fun i hi => ?_
    rw [Vector.getElem_setIfInBounds]
    split
    · next e =>
      subst e
      rw [List.getElem?_eq_getElem (by simpa using hi), Vector.getElem_toList] at hx
      exact (Option.some.inj hx).symm
    · rfl
  refine ⟨rfl, ?_⟩
  rw [calFieldWrite_correction, hback, show max (-2048) (min 2047 x) = x by omega, hsame, if_pos rfl,
    decide_eq_false (by omega)]

theorem home_writesBack (c : CalRecord) (idx : Nat) :
    WritesBack c 0x0B idx (bytesOf 2 c.thetaH.toNat ++ [codeByte (approachCode c.approach)]) := by
  have hlt := c.thetaH.isLt
  have htake : natOfBytes ((bytesOf 2 c.thetaH.toNat ++ [codeByte (approachCode c.approach)]).take 2) = c.thetaH.toNat :=
    natOfBytes_bytesOf_of_lt 2 (by omega)
  have hdrop : natOfBytes ((bytesOf 2 c.thetaH.toNat ++ [codeByte (approachCode c.approach)]).drop 2) =
      approachCode c.approach := by
    rw [List.drop_left' (length_bytesOf 2 _), natOfBytes_singleton]
    cases c.approach <;> rfl
  have happroach : (if approachCode c.approach = 0 then Approach.pos else .neg) = c.approach := by
    cases c.approach <;> rfl
  refine ⟨rfl, ?_⟩
  simp only [calFieldWrite, htake, hdrop, happroach, BitVec.ofNat_toNat, BitVec.setWidth_eq]
  exact writeChecked_of (by simpa using ⟨by omega, Nat.le_of_lt_succ (approachCode_lt c.approach)⟩)

/-- The fields that are a number each. -/
theorem number_writesBack {c : CalRecord} (hr : CalRules c) (idx : Nat) :
    WritesBack c 0x02 idx (bytesOf 4 c.z) ∧ WritesBack c 0x03 idx (bytesOf 2 c.zg.toNat) ∧
    WritesBack c 0x04 idx (bytesOf 2 c.c) ∧ WritesBack c 0x06 idx (bytesOf 2 c.lm) ∧
    WritesBack c 0x08 idx (bytesOf 2 c.m) ∧ WritesBack c 0x09 idx (bytesOf 2 c.v) ∧
    WritesBack c 0x0A idx (bytesOf 2 c.driftLimit) ∧ WritesBack c 0x0C idx (bytesOf 4 c.h) ∧
    WritesBack c 0x0D idx (bytesOf 2 c.gh.toNat) ∧ WritesBack c 0x0E idx (bytesOf 2 c.homeCoarseTol) ∧
    WritesBack c 0x0F idx (bytesOf 2 c.guardMin) ∧ WritesBack c 0x10 idx (bytesOf 2 c.homeResidualTol) := by
  obtain ⟨hclo, hchi⟩ := inRange_iff.mp hr.c
  refine ⟨⟨rfl, ?_⟩, ⟨rfl, ?_⟩, ⟨rfl, ?_⟩, ⟨rfl, ?_⟩, ⟨rfl, ?_⟩, ⟨rfl, ?_⟩, ⟨rfl, ?_⟩, ⟨rfl, ?_⟩, ⟨rfl, ?_⟩, ⟨rfl, ?_⟩,
    ⟨rfl, ?_⟩, ⟨rfl, ?_⟩⟩
  · simp only [calFieldWrite, fits32_of_inRange hr.z]
    rfl
  · simp only [calFieldWrite, ofNat_natOfBytes_bytesOf 16 c.zg (by decide)]
    rfl
  · simp only [calFieldWrite, intOfBytes_bytesOf_two (x := c.c) (by omega) (by omega), writeChecked_of hr.c]
    rfl
  · simp only [calFieldWrite, writeClamped_back _ (Nat.zero_le _) hr.lm (by decide)]
    rfl
  · simp only [calFieldWrite, writeClamped_back _ (Nat.zero_le _) hr.m (by decide)]
    rfl
  · simp only [calFieldWrite, writeClamped_back _ hr.v.1 hr.v.2 (by decide)]
    rfl
  · simp only [calFieldWrite, writeClamped_back _ hr.driftLimit.1 hr.driftLimit.2 (by decide)]
    rfl
  · simp only [calFieldWrite, fits32_of_inRange hr.h]
    rfl
  · simp only [calFieldWrite, ofNat_natOfBytes_bytesOf 16 c.gh (by decide)]
    rfl
  · simp only [calFieldWrite, writeClamped_back _ hr.homeCoarseTol.1 hr.homeCoarseTol.2 (by decide)]
    rfl
  · simp only [calFieldWrite, writeClamped_back _ hr.guardMin.1 hr.guardMin.2 (by decide)]
    rfl
  · simp only [calFieldWrite, writeClamped_back _ hr.homeResidualTol.1 hr.homeResidualTol.2 (by decide)]
    rfl

/-- Settles O9, field by field. -/
theorem calFieldsWriteBackAsRead : Obligations.CalFieldsWriteBackAsRead := by
  unfold Obligations.CalFieldsWriteBackAsRead
  intro c id idx v hok hsize hread
  have hr := calRules_of_ok hok
  obtain ⟨h02, h03, h04, h06, h08, h09, h0A, h0C, h0D, h0E, h0F, h10⟩ := number_writesBack hr idx
  obtain ⟨hlo, hhi⟩ := le_of_calValueSize hsize
  change WritesBack c id idx v
  interval_cases id
  all_goals simp only [calFieldBytes, Option.some.injEq, Option.map_eq_some_iff] at hread
  · obtain ⟨r, hratio, hrok⟩ := hr.ratio
    exact hread ▸ ratio_writesBack idx hratio hrok
  · exact hread ▸ h02
  · exact hread ▸ h03
  · exact hread ▸ h04
  · obtain ⟨x, hx, rfl⟩ := hread
    exact correction_writesBack hr hx
  · exact hread ▸ h06
  · obtain ⟨w, hwindow, hwok⟩ := hr.window
    exact hread ▸ window_writesBack idx hwindow hwok
  · exact hread ▸ h08
  · exact hread ▸ h09
  · exact hread ▸ h0A
  · exact hread ▸ home_writesBack c idx
  · exact hread ▸ h0C
  · exact hread ▸ h0D
  · exact hread ▸ h0E
  · exact hread ▸ h0F
  · exact hread ▸ h10

end Sys2Proof.Machine
end

section
/-! SUPPORT. The trusted flag and the travel judgement of a handover (O25). -/

namespace Sys2Proof.Machine

/-! ### A fault that holds the permission -/

/-- An active HOLD or HALT kind that no homing excuses (R82, R166). -/
def Blocked (s : State) : Prop := ∃ k, s.active k = true ∧ s.actionOf k ≠ .report ∧ k ≠ .restoreConflict

theorem Blocked.permission {s : State} (h : Blocked s) : s.permission = false := by
  obtain ⟨k, hactive, haction, hk⟩ := h
  by_contra hp
  obtain ⟨-, -, hholds, -⟩ := (permission_iff s).mp (by simpa using hp)
  exact hk ((faultHolds_eq_false_iff s).mp hholds k hactive haction).1

theorem Blocked.congr {s t : State} (h : Blocked s) (hf : t.faults.active = s.faults.active)
    (hs : t.setup.latched = s.setup.latched) : Blocked t := by
  unfold Blocked State.active State.actionOf at *
  rwa [hf, hs]

/-- A fault that holds the permission leaves a move of the node without effect on the gate. -/
theorem Blocked.moveNode_gate {s : State} (h : Blocked s) (n : NodeRecord) : (moveNode n s).gate = s.gate := by
  rw [moveNode, judgeGate_gate, gateAfter, h.permission, (h.congr (t := s.setNode n) rfl rfl).permission, if_pos rfl]
  rfl

theorem Blocked.endHoming_gate {s : State} (h : Blocked s) (o : HomingOutcome) (r : HomingReason) :
    (endHoming o r s).gate = s.gate := by
  have hclosed : Blocked (closeHoming o r s) := h.congr rfl rfl
  unfold endHoming returnFromHoming
  split
  · split
    · exact hclosed.moveNode_gate _
    · exact hclosed.moveNode_gate _
  · rfl

/-! ### A notice of a kind that keeps the absolute count, and the gate -/

section
variable {k : FaultKind} {s : State} (hkeep : removingKind k = false)
include hkeep

theorem notice_gate_of_active (ha : s.active k = true) : (notice k s).gate = s.gate := by
  simp [notice, noticeWith, ha, repeatNotice, removeByKind, hkeep]

/-- The entry of a REPORT kind leaves the permission and the gate. -/
theorem notice_gate_of_report (hr : s.actionOf k = .report) (ha : s.active k = false) : (notice k s).gate = s.gate := by
  have hholds : (s.setFaults (enterKind k (s.recordOf k .none) s.faults)).permission = s.permission := by
    rw [Bool.eq_iff_iff, permission_iff, permission_iff, faultHolds_eq_false_iff, faultHolds_eq_false_iff]
    have hentered (j : FaultKind) : (s.setFaults (enterKind k (s.recordOf k .none) s.faults)).active j = true ↔
        k = j ∨ s.active j = true := by
      simp [State.active, enterKind]
    have hkinds : (∀ j, (s.setFaults (enterKind k (s.recordOf k .none) s.faults)).active j = true →
          s.actionOf j ≠ .report → j = .restoreConflict ∧ s.conflictExcused = true) ↔
        ∀ j, s.active j = true → s.actionOf j ≠ .report → j = .restoreConflict ∧ s.conflictExcused = true := by
      refine ⟨fun h j hj => h j ((hentered j).mpr (.inr hj)), fun h j hj hn => ?_⟩
      rcases (hentered j).mp hj with rfl | hj
      · exact absurd hr hn
      · exact h j hj hn
    exact and_congr_right fun _ => and_congr_right fun _ => and_congr_left fun _ => hkinds
  have hmove : (moveFaults (enterKind k (s.recordOf k .none) s.faults) s).gate = s.gate := by
    rw [moveFaults, judgeGate_gate, gateAfter, hholds, if_pos rfl]
    rfl
  have haction : (startRetry k (moveFaults (enterKind k (s.recordOf k .none) s.faults) s)).actionOf k = .report := by
    simpa [State.actionOf] using hr
  simp [notice, noticeWith, ha, entryNotice, removeByKind, hkeep, endHomingByFault, haction, hmove]

/-- The entry of a HOLD or HALT kind takes the permission, and the gate answers its loss (R166). -/
theorem notice_gate_of_blocking (hr : s.actionOf k ≠ .report) (ha : s.active k = false) (hc : k ≠ .restoreConflict) :
    (notice k s).permission = false ∧ (notice k s).gate = if s.permission then gateOn false s.gate else s.gate := by
  have hblocked {t : State} (hf : kindHas t.faults.active k = true) (hs : t.setup.latched = s.setup.latched) : Blocked t :=
    ⟨k, hf, by unfold State.actionOf at *; rwa [hs], hc⟩
  have hentered : kindHas (enterKind k (s.recordOf k .none) s.faults).active k = true := by simp [enterKind]
  have hmove : (moveFaults (enterKind k (s.recordOf k .none) s.faults) s).gate =
      if s.permission then gateOn false s.gate else s.gate := by
    have hp : (s.setFaults (enterKind k (s.recordOf k .none) s.faults)).permission = false :=
      (hblocked (t := s.setFaults _) hentered rfl).permission
    rw [moveFaults, judgeGate_gate, gateAfter, hp]
    cases s.permission <;> rfl
  have hretry : Blocked (startRetry k (moveFaults (enterKind k (s.recordOf k .none) s.faults) s)) :=
    hblocked (by simpa [startRetry_faults] using hentered) (by simp)
  refine ⟨(hblocked (noticeWith_active k .none s) (by simp)).permission, ?_⟩
  have hend : (notice k s).gate = (endHomingByFault k (startRetry k (moveFaults (enterKind k (s.recordOf k .none) s.faults) s))).gate := by
    simp [notice, noticeWith, ha, entryNotice, removeByKind, hkeep]
  rw [hend, ← hmove]
  unfold endHomingByFault
  split
  · rw [hretry.endHoming_gate]
    simp
  · simp

end

/-! ### The handover (R14, R71, R172) -/

theorem trustedNow_iff (src : Option SourceFrame) (s : State) : s.trustedNow src = true ↔ s.pos.abs = true ∧
    (s.node.state = .referenced ∨ s.inHoming = true ∨ s.node.state = .calibrating) ∧ s.cal.valid = true ∧
    (s.setup.latched.source = none ∨
      ∃ f, src = some f ∧ f.absolute = true ∧ s.coupling.missCount < s.setup.latched.missLimit) := by
  have hsource : (!s.coupled || (src.any (fun f => f.absolute) && decide (s.coupling.missCount < s.setup.latched.missLimit))) = true ↔
      s.setup.latched.source = none ∨
        ∃ f, src = some f ∧ f.absolute = true ∧ s.coupling.missCount < s.setup.latched.missLimit := by
    cases src <;> simp [State.coupled]
  have hstate : (match s.node.state with
      | .referenced => true
      | .homing _ => true
      | .calibrating => true
      | _ => false) = true ↔ s.node.state = .referenced ∨ s.inHoming = true ∨ s.node.state = .calibrating := by
    unfold State.inHoming
    split <;> simp_all
  rw [State.trustedNow, Bool.and_eq_true, Bool.and_eq_true, Bool.and_eq_true, hsource]
  exact and_assoc.trans (and_assoc.trans (and_congr_right fun _ => and_congr hstate Iff.rfl))

/-- The state in which the travel judgement is made: the flag kept, the frame placed. -/
def handedOver (joint : Joint) (src : Option SourceFrame) (s : State) : State :=
  placePosition (s.positionPayload joint (s.trustedNow src)) (s.setNode { s.node with trusted := s.trustedNow src })

theorem handover_of_aligning (joint : Joint) (src : Option SourceFrame) {s : State} (h : s.epoch.alignment = .aligning) :
    handover joint src s = s := if_neg (by simp [h])

theorem handover_of_aligned (joint : Joint) (src : Option SourceFrame) {s : State} (h : s.epoch.alignment = .aligned) :
    handover joint src s =
      if s.trustedNow src then judgeTravel joint.j (handedOver joint src s) else handedOver joint src s := if_pos h

theorem handedOver_frame (joint : Joint) (src : Option SourceFrame) (s : State) :
    (handedOver joint src s).node = { s.node with trusted := s.trustedNow src } ∧ (handedOver joint src s).pos = s.pos ∧
      (handedOver joint src s).gate = s.gate ∧ (handedOver joint src s).faults = s.faults ∧
      (handedOver joint src s).cal = s.cal ∧ (handedOver joint src s).setup = s.setup ∧
      (handedOver joint src s).homing = s.homing := by
  simp [handedOver]

theorem handedOver_positionSlot (joint : Joint) (src : Option SourceFrame) {s : State} (h : s.link.placing = true) :
    (handedOver joint src s).link.positionSlot =
      some ⟨kindPosition, s.straps.address, 15#4, s.positionPayload joint (s.trustedNow src)⟩ := by
  have hp : (s.setNode { s.node with trusted := s.trustedNow src }).link.placing = true := h
  rw [handedOver, placePosition, if_pos hp]
  rfl

theorem endHoming_trusted (o : HomingOutcome) (r : HomingReason) (s : State) :
    (endHoming o r s).node.trusted = s.node.trusted := by
  by_cases h : s.inHoming = true
  · rw [endHoming_node h]
  · rw [endHoming, if_neg h]

theorem notice_trusted {k : FaultKind} (hkeep : removingKind k = false) (s : State) :
    (notice k s).node.trusted = s.node.trusted := by
  obtain ⟨f, g, h⟩ := noticeWith_keeping k .none s hkeep
  rw [notice, h]
  split
  · rfl
  · unfold endHomingByFault
    split
    · exact endHoming_trusted _ _ _
    · rfl

theorem judgeTravel_trusted (j : Int) (s : State) : (judgeTravel j s).node.trusted = s.node.trusted := by
  unfold judgeTravel
  split
  · rfl
  · split
    · rfl
    · split
      · rfl
      · exact notice_trusted rfl _

theorem judgeTravel_inside {j : Int} {s : State} {w : Window} (hw : s.cal.data.window = some w)
    (h : w.lo - s.cal.data.m ≤ j ∧ j ≤ w.hi + s.cal.data.m) :
    judgeTravel j s = s.setGate { s.gate with travelSide := .inside } := by
  have hin : insideWindow s.cal.data w j = true := inRange_iff.mpr h
  simp only [judgeTravel, hw, hin]
  rfl

theorem judgeTravel_outside {j : Int} {s : State} {w : Window} (hw : s.cal.data.window = some w)
    (h : ¬(w.lo - s.cal.data.m ≤ j ∧ j ≤ w.hi + s.cal.data.m)) :
    judgeTravel j s = if s.gate.travelSide = .outside then s else
      notice .travelLimit (s.setGate { s.gate with travelSide := .outside }) := by
  have hout : ¬insideWindow s.cal.data w j = true := mt inRange_iff.mp h
  simp only [judgeTravel, hw, if_neg hout]
  cases s.gate.travelSide <;> rfl

/-- An outward crossing: TRAVEL_LIMIT is noted, and the gate answers what the notice makes of the permission (R172). -/
theorem judgeTravel_crossing {j : Int} {s : State} {w : Window} (hw : s.cal.data.window = some w)
    (h : ¬(w.lo - s.cal.data.m ≤ j ∧ j ≤ w.hi + s.cal.data.m)) (hside : s.gate.travelSide = .inside) :
    let g := { s.gate with travelSide := .outside }
    kindHas (judgeTravel j s).faults.active .travelLimit = true ∧
      (s.active .travelLimit = true ∨ s.actionOf .travelLimit = .report → (judgeTravel j s).gate = g) ∧
      (s.active .travelLimit = false → s.actionOf .travelLimit ≠ .report → (judgeTravel j s).permission = false ∧
        (judgeTravel j s).gate = if s.permission then gateOn false g else g) := by
  intro g
  have hstep : judgeTravel j s = notice .travelLimit (s.setGate g) := by
    rw [judgeTravel_outside hw h, if_neg (by simp [hside])]
  have hpermission : (s.setGate g).permission = s.permission := rfl
  rw [hstep]
  refine ⟨noticeWith_active _ _ _, fun hcase => ?_, fun ha hr => ?_⟩
  · by_cases ha : s.active .travelLimit = true
    · exact notice_gate_of_active (s := s.setGate g) rfl ha
    · exact notice_gate_of_report (s := s.setGate g) rfl (hcase.resolve_left ha)
        (by rwa [Bool.not_eq_true] at ha)
  · obtain ⟨hp, hg⟩ := notice_gate_of_blocking (s := s.setGate g) rfl hr ha (by decide)
    exact ⟨hp, by rw [hg, hpermission]; rfl⟩

/-- Settles O25. -/
theorem trustedFlagAtHandover : Obligations.TrustedFlagAtHandover := by
  unfold Obligations.TrustedFlagAtHandover
  intro joint src s t
  obtain ⟨hnode, hpos, hgate, hfaults, hcal, hsetup, hhoming⟩ := handedOver_frame joint src s
  have htrusted := judgeTravel_trusted joint.j (handedOver joint src s)
  have hpermission : (handedOver joint src s).permission = s.permission :=
    permission_congr (by rw [hgate]) (by rw [hgate]) (by rw [hgate]) (by rw [hfaults]) (by rw [hsetup]) (by rw [hnode])
      (by simp only [State.conflictExcused, hhoming, hnode])
  refine ⟨trustedNow_iff src s, handover_of_aligning joint src, fun ha => ?_, fun ha hno => ?_, fun w ha hyes hw => ?_⟩
  · have ht : t = _ := handover_of_aligned joint src ha
    rw [ht]
    split
    · exact ⟨by rw [htrusted, hnode], by simp [hpos], fun h => by simpa using handedOver_positionSlot joint src h⟩
    · exact ⟨by rw [hnode], by rw [hpos], fun h => handedOver_positionSlot joint src h⟩
  · have ht : t = handedOver joint src s := by
      rw [show t = _ from handover_of_aligned joint src ha, if_neg (by simp [hno])]
    rw [ht]
    exact ⟨hgate, hfaults⟩
  · have ht : t = judgeTravel joint.j (handedOver joint src s) := by
      rw [show t = _ from handover_of_aligned joint src ha, if_pos hyes]
    have hw' : (handedOver joint src s).cal.data.window = some w := by rw [hcal, hw]
    rw [ht, ← hcal]
    refine ⟨fun hin => ?_, fun hout => ⟨fun hside => ?_, fun hside => ?_⟩⟩
    · rw [judgeTravel_inside hw' hin, ← hgate, ← hfaults]
      exact ⟨rfl, rfl⟩
    · have hcross := judgeTravel_crossing hw' hout (by rw [hgate, hside])
      simp only [State.active, State.actionOf, hgate, hfaults, hsetup, hpermission] at hcross
      exact hcross
    · rw [judgeTravel_outside hw' hout, hgate, if_pos hside]
      exact ⟨by rw [hgate, ← hside], hfaults⟩

end Sys2Proof.Machine
end

section
/-! SUPPORT. The flag edge of a homing and the completion of a capture (O30). -/

namespace Sys2Proof.Machine

/-! ### The flag edge (R83) -/

theorem edgeQualified_iff (a : Approach) (d : Int) : edgeQualified a d = true ↔ if a = .pos then 0 ≤ d else d ≤ 0 := by
  cases a <;> simp [edgeQualified]

/-- A move between two node states that the permission does not tell apart leaves the gate. -/
theorem moveNode_of_permission {n : NodeRecord} {s : State} (h : (s.setNode n).permission = s.permission) :
    moveNode n s = s.setNode n := by
  rw [moveNode, judgeGate, if_pos h.symm]

theorem homingCounted_of_unqualified {d : Int} {l : HomingLatch} {s : State} (hs : s.node.state = .homing .armed)
    (hl : s.homing.latch = some l) (hq : ¬(s.enc.homeEdge = true ∧ if l.approach = .pos then 0 ≤ d else d ≤ 0)) :
    homingCounted d s = s := by
  have happroach : s.homing.approachOf = l.approach := by simp [HomingRecord.approachOf, hl]
  rw [← edgeQualified_iff, ← happroach, ← Bool.and_eq_true] at hq
  simp only [homingCounted, hs, examineEdge, if_neg hq]

theorem homingCounted_of_qualified {d : Int} {l : HomingLatch} {s : State} (hs : s.node.state = .homing .armed)
    (hl : s.homing.latch = some l) (hq : s.enc.homeEdge = true ∧ if l.approach = .pos then 0 ≤ d else d ≤ 0) :
    homingCounted d s = { s with
      node := { s.node with state := .homing .capture }
      homing := { s.homing with edgeTag := some s.epoch.count, pFlag := some s.pos.p }
      homingOp := { s.homingOp with pPrev := s.pos.p, thetaPrev := s.pos.thetaLast } } := by
  have happroach : s.homing.approachOf = l.approach := by simp [HomingRecord.approachOf, hl]
  rw [← edgeQualified_iff, ← happroach, ← Bool.and_eq_true] at hq
  simp only [homingCounted, hs, examineEdge, if_pos hq]
  refine moveNode_of_permission ?_
  simp [State.permission, State.faultHolds, State.active, State.actionOf, State.statePermits, State.conflictExcused, hs]

/-! ### The completion of a capture (R89 to R93) -/

section
variable {k pCap : Int} {usable : Bool} {s : State} {ratio : Ratio} (hcap : s.homing.pCap = some pCap)

/-- The effective count, the turn shift and the residual of a capture, recorded (R90). -/
def captureRecorded (k pCap : Int) (s : State) : State :=
  s.setHoming { s.homing with
    eCap := some (pCap - k)
    tShift := some (turnShift s.cal.data.h (pCap - k)).1
    residual := some (turnShift s.cal.data.h (pCap - k)).2 }

/-- The coarse difference of a capture, by its formula (R91). -/
def captureDifference (pCap : Int) (ratio : Ratio) (s : State) : Int :=
  signed65536 (s.pos.gq.toNat - roundDiv ((s.pos.p - pCap) * 4 * ratio.den) ratio.num - s.cal.data.gh.toNat)

theorem coarseAtCrossing_eq {c : CalRecord} (h : c.ratio = some ratio) (gq : Sixteenths) (motion : Int) :
    coarseAtCrossing c gq motion = BitVec.ofInt 16 (gq.toNat - roundDiv (motion * 4 * ratio.den) ratio.num) := by
  simp [coarseAtCrossing, ratioInUse, h]

theorem coarseDifference_ofInt (c : CalRecord) (x : Int) :
    coarseDifference c (BitVec.ofInt 16 x) = signed65536 (x - c.gh.toNat) := by
  unfold coarseDifference signed65536
  rw [BitVec.toInt_ofInt, BitVec.toInt_ofInt, BitVec.toNat_ofInt]
  norm_num [Int.toNat_of_nonneg (Int.emod_nonneg x (by norm_num : (65536 : Int) ≠ 0))]
  exact Int.emod_sub_bmod x 65536

theorem coarseDifference_eq (hr : s.cal.data.ratio = some ratio) :
    coarseDifference s.cal.data (coarseAtCrossing s.cal.data s.pos.gq (s.pos.p - pCap)) = captureDifference pCap ratio s := by
  rw [coarseAtCrossing_eq hr, coarseDifference_ofInt]
  rfl

include hcap

theorem completeCapture_home (hm : s.homing.mode = .home) (hr : s.cal.data.ratio = some ratio) :
    completeCapture k usable s =
      if (s.cal.data.homeResidualTol : Int) < |(turnShift s.cal.data.h (pCap - k)).2| then
        endHoming .failed .residual (captureRecorded k pCap s)
      else if !inRange countMin countMax (s.pos.p + 16384 * (turnShift s.cal.data.h (pCap - k)).1) then
        endHoming .failed .range (captureRecorded k pCap s)
      else finishHome usable (captureDifference pCap ratio s) (turnShift s.cal.data.h (pCap - k)).1
        (captureRecorded k pCap s) := by
  rw [completeCapture, hcap, hm, Option.getD_some, ← coarseDifference_eq hr]
  rfl

theorem completeCapture_learn (hm : s.homing.mode = .learn) (hr : s.cal.data.ratio = some ratio) :
    completeCapture k usable s =
      finishLearn usable (captureDifference pCap ratio s) (pCap - k)
        (BitVec.ofInt 16 (s.pos.gq.toNat - roundDiv ((s.pos.p - pCap) * 4 * ratio.den) ratio.num)) (captureRecorded k pCap s) := by
  rw [completeCapture, hcap, hm, Option.getD_some, ← coarseDifference_eq hr, ← coarseAtCrossing_eq hr]
  rfl

end

theorem recordCoarse_eq (usable : Bool) (diff : Int) (s : State) :
    recordCoarse usable diff s =
      s.setHoming { s.homing with coarseDiff := if usable then some diff else none, coarseChecked := usable } := by
  cases usable <;> rfl

/-- RESTORE_CONFLICT is not active once its condition is gone (R179). -/
theorem conditionGone_restoreConflict_inactive (s : State) :
    kindHas (conditionGone .restoreConflict s).faults.active .restoreConflict = false := by
  by_cases ha : s.active .restoreConflict = true
  · rw [conditionGone_departs ha (by decide) (by decide) rfl]
    simp [depart, departKind]
  · rw [Bool.not_eq_true] at ha
    rw [conditionGone_inactive ha]
    exact ha

/-- What a success makes of the node (R92). -/
theorem homingSuccess_spec (shift : Int) (s : State) :
    (homingSuccess shift s).homing = { s.homing with outcome := .success, reason := .none } ∧
      (homingSuccess shift s).pos = { s.pos with p := s.pos.p + 16384 * shift, abs := true, driftRun := 0 } ∧
      (homingSuccess shift s).node =
        { s.node with state := .referenced, reason := .none, basis := .homed, confirmed := false, conflict := none } ∧
      (homingSuccess shift s).ret.mirror.held = false ∧
      kindHas (homingSuccess shift s).faults.active .restoreConflict = false := by
  refine ⟨?_, ?_, ?_, ?_, ?_⟩
  · simp [homingSuccess, closeHoming]
  · simp [homingSuccess, enterReferenced, setAbsolute]
  · simp [homingSuccess, enterReferenced, resolveConflict]
  · simp [homingSuccess, setAbsolute]
  · simpa [homingSuccess, resolveConflict] using conditionGone_restoreConflict_inactive _

/-- What a learn makes of the node (R93). -/
theorem homingLearned_spec (eCap : Int) (gqCap : Sixteenths) (s : State) :
    (homingLearned eCap gqCap s).homing = { s.homing with outcome := .learned, reason := .none } ∧
      (homingLearned eCap gqCap s).pos = { s.pos with driftRun := 0 } ∧
      (homingLearned eCap gqCap s).node = { s.node with state := .referenced, reason := .none } ∧
      (homingLearned eCap gqCap s).cal =
        { s.cal with data := { s.cal.data with h := home32 eCap, gh := gqCap, learned := true }, dirty := true } := by
  refine ⟨?_, ?_, ?_, ?_⟩
  · simp [homingLearned, closeHoming]
  · simp [homingLearned, enterReferenced]
  · simp [homingLearned, enterReferenced]
  · have hmark (t : State) : (markCal t).cal = { t.cal with dirty := true } := by
      unfold markCal
      simp only
      split <;> rfl
    simp [homingLearned, hmark]

/-- A capture in mode HOME that ends its homing as failed (R90, R91). -/
theorem failedCapture_spec {s t : State} (hs : s.inHoming = true) {why : HomingReason}
    (ht : t = endHoming .failed why s) :
    t.homing = { s.homing with outcome := .failed, reason := why } ∧ t.pos.p = s.pos.p := by
  subst ht
  exact ⟨endHoming_homing _ _ _ hs, by rw [endHoming_pos hs]⟩

theorem finishHome_of_mismatch {usable : Bool} {diff shift : Int} {s : State} (hu : usable = true)
    (hd : (s.cal.data.homeCoarseTol : Int) < |diff|) :
    finishHome usable diff shift s = endHoming .failed .coarseMismatch
      (s.setHoming { s.homing with coarseDiff := some diff, coarseChecked := true }) := by
  rw [finishHome, if_pos ⟨hu, hd⟩, recordCoarse_eq, hu]
  rfl

theorem finishHome_of_match {usable : Bool} {diff : Int} (shift : Int) {s : State}
    (hd : usable = true → |diff| ≤ (s.cal.data.homeCoarseTol : Int)) :
    finishHome usable diff shift s = homingSuccess shift
      (s.setHoming { s.homing with coarseDiff := if usable then some diff else none, coarseChecked := usable }) := by
  rw [finishHome, if_neg (fun h => absurd (hd h.1) h.2.not_ge), recordCoarse_eq]

/-- The captured state with its coarse result recorded (R91). -/
def captureCompared (k pCap diff : Int) (usable : Bool) (s : State) : State :=
  (captureRecorded k pCap s).setHoming { (captureRecorded k pCap s).homing with
    coarseDiff := if usable then some diff else none, coarseChecked := usable }

section
variable {k pCap : Int} {usable : Bool} {s : State} {ratio : Ratio} (hcap : s.homing.pCap = some pCap)
  (hm : s.homing.mode = .home) (hr : s.cal.data.ratio = some ratio)
include hcap hm hr

theorem completeCapture_residual (h : (s.cal.data.homeResidualTol : Int) < |(turnShift s.cal.data.h (pCap - k)).2|) :
    completeCapture k usable s = endHoming .failed .residual (captureRecorded k pCap s) := by
  rw [completeCapture_home hcap hm hr, if_pos h]

theorem completeCapture_range (h : ¬(s.cal.data.homeResidualTol : Int) < |(turnShift s.cal.data.h (pCap - k)).2|)
    (hp : ¬inRange countMin countMax (s.pos.p + 16384 * (turnShift s.cal.data.h (pCap - k)).1) = true) :
    completeCapture k usable s = endHoming .failed .range (captureRecorded k pCap s) := by
  rw [completeCapture_home hcap hm hr, if_neg h, if_pos (by simpa using hp)]

theorem completeCapture_mismatch (h : ¬(s.cal.data.homeResidualTol : Int) < |(turnShift s.cal.data.h (pCap - k)).2|)
    (hp : inRange countMin countMax (s.pos.p + 16384 * (turnShift s.cal.data.h (pCap - k)).1) = true)
    (hu : usable = true) (hd : (s.cal.data.homeCoarseTol : Int) < |captureDifference pCap ratio s|) :
    completeCapture k usable s =
      endHoming .failed .coarseMismatch (captureCompared k pCap (captureDifference pCap ratio s) usable s) := by
  rw [completeCapture_home hcap hm hr, if_neg h, if_neg (by simpa using hp)]
  subst hu
  exact finishHome_of_mismatch rfl hd

theorem completeCapture_success (h : ¬(s.cal.data.homeResidualTol : Int) < |(turnShift s.cal.data.h (pCap - k)).2|)
    (hp : inRange countMin countMax (s.pos.p + 16384 * (turnShift s.cal.data.h (pCap - k)).1) = true)
    (hd : usable = true → |captureDifference pCap ratio s| ≤ (s.cal.data.homeCoarseTol : Int)) :
    completeCapture k usable s = homingSuccess (turnShift s.cal.data.h (pCap - k)).1
      (captureCompared k pCap (captureDifference pCap ratio s) usable s) := by
  rw [completeCapture_home hcap hm hr, if_neg h, if_neg (by simpa using hp)]
  exact finishHome_of_match _ hd

end

/-- Settles O30: the edge in ARMED, and the completion of a capture in each of the two modes. -/
theorem homeEdgeAndCapture : Obligations.HomeEdgeAndCapture := by
  unfold Obligations.HomeEdgeAndCapture
  refine ⟨fun d l s hs hl => ⟨homingCounted_of_unqualified hs hl, homingCounted_of_qualified hs hl⟩, ?_, ?_⟩
  · intro k pCap usable s ratio hm hcap hs hr t eCap shift residual moved gq diff
    have hin : (captureRecorded k pCap s).inHoming = true := inHoming_of_state hs
    have hrange : inRange countMin countMax moved = true ↔ -536870912 ≤ moved ∧ moved ≤ 536870911 := inRange_iff
    by_cases hres : (s.cal.data.homeResidualTol : Int) < |residual|
    · obtain ⟨hhoming, hp⟩ := failedCapture_spec hin
        (show t = _ from completeCapture_residual (usable := usable) hcap hm hr hres)
      rw [hhoming]
      exact ⟨rfl, rfl, rfl, fun _ => ⟨rfl, rfl, hp⟩, fun h => absurd hres h.not_gt, fun h => absurd hres h.not_gt,
        fun h => absurd hres h.not_gt⟩
    by_cases hmoved : -536870912 ≤ moved ∧ moved ≤ 536870911
    · by_cases hdiff : usable = true ∧ (s.cal.data.homeCoarseTol : Int) < |diff|
      · obtain ⟨hhoming, hp⟩ := failedCapture_spec (s := captureCompared k pCap diff usable s) hin
          (show t = _ from completeCapture_mismatch hcap hm hr hres (hrange.mpr hmoved) hdiff.1 hdiff.2)
        have hused : (captureCompared k pCap diff usable s).homing.coarseDiff = some diff := if_pos hdiff.1
        rw [hhoming]
        exact ⟨rfl, rfl, rfl, fun h => absurd h hres, fun _ h => by omega,
          fun _ _ _ hu _ => ⟨rfl, rfl, hused, hu, hp⟩, fun _ _ _ h => absurd hdiff.2 (h hdiff.1).not_gt⟩
      · have hmatch : usable = true → |diff| ≤ (s.cal.data.homeCoarseTol : Int) :=
          fun hu => not_lt.mp fun h => hdiff ⟨hu, h⟩
        obtain ⟨hhoming, hpos, hnode, hheld, hconflict⟩ :=
          homingSuccess_spec shift (captureCompared k pCap diff usable s)
        have ht : t = homingSuccess shift (captureCompared k pCap diff usable s) :=
          completeCapture_success hcap hm hr hres (hrange.mpr hmoved) hmatch
        rw [ht, hhoming]
        exact ⟨rfl, rfl, rfl, fun h => absurd h hres, fun _ h => by omega,
          fun _ _ _ hu h => absurd (hmatch hu) h.not_ge,
          fun _ _ _ _ => ⟨rfl, rfl, rfl, hpos, hnode, hheld, hconflict⟩⟩
    · obtain ⟨hhoming, hp⟩ := failedCapture_spec hin
        (show t = _ from completeCapture_range (usable := usable) hcap hm hr hres (mt hrange.mp hmoved))
      rw [hhoming]
      exact ⟨rfl, rfl, rfl, fun h => absurd h hres, fun _ _ => ⟨rfl, rfl, hp⟩,
        fun _ h1 h2 => absurd ⟨h1, h2⟩ hmoved, fun _ h1 h2 => absurd ⟨h1, h2⟩ hmoved⟩
  · intro k pCap usable s ratio hm hcap hs hr t gq
    have ht : t = _ := completeCapture_learn (k := k) (usable := usable) hcap hm hr
    have hin : (captureRecorded k pCap s).inHoming = true := inHoming_of_state hs
    by_cases hu : usable = true
    · rw [finishLearn, if_pos hu, recordCoarse_eq] at ht
      obtain ⟨hhoming, hpos, hnode, hcal⟩ := homingLearned_spec (pCap - k) (BitVec.ofInt 16 gq)
        ((captureRecorded k pCap s).setHoming { (captureRecorded k pCap s).homing with
          coarseDiff := if usable then some (captureDifference pCap ratio s) else none, coarseChecked := usable })
      rw [ht, hhoming, hpos, hnode, hcal]
      refine ⟨rfl, rfl, rfl, rfl, fun h => absurd hu (by simp [h]), fun _ => ⟨rfl, rfl, rfl, rfl, rfl, fun hlo hhi => ?_, rfl⟩⟩
      exact if_pos (inRange_iff.mpr ⟨hlo, hhi⟩)
    · rw [finishLearn, if_neg hu] at ht
      have hpos := endHoming_pos hin .failed .noCoarse
      have hnode := endHoming_node hin .failed .noCoarse
      rw [ht, hpos, hnode, endHoming_homing _ _ _ hin]
      exact ⟨rfl, rfl, rfl, rfl, fun _ => ⟨rfl, rfl, by simp [captureRecorded]⟩, fun h => absurd h hu⟩

end Sys2Proof.Machine
end

section
/-! SUPPORT. The sample of an epoch that the sweep considers (O31). -/

namespace Sys2Proof.Machine

theorem sampleTaken_iff (speed : Nat) (h : Int) (usable : Bool) (m : EpochMotor) (u : PositionUnit) (joint : Joint) :
    sampleTaken speed h usable m u joint = true ↔
      usable = true ∧ (∃ d, m = .counted d ∧ |d| ≤ speed) ∧ u.playKnown = true ∧ |u.s| = h ∧ joint.saturated = false := by
  cases m <;> simp [sampleTaken, and_assoc]

/-- The sample by its formula (R119). -/
theorem sweepSample_eq (c : CalRecord) (j sj : Int) (g : CoarseAngle) : sweepSample c j sj g =
    ⟨g.toNat / 128, signed65536 ((c.zg.toNat + roundDiv (j - sj) 16) % 65536 - 16 * g.toNat)⟩ := by
  have hexpected : ((BitVec.ofInt 16 (c.zg.toNat + roundDiv (j - sj) 16)).toNat : Int) =
      (c.zg.toNat + roundDiv (j - sj) 16) % 65536 := by
    rw [BitVec.toNat_ofInt]
    omega
  rw [sweepSample, hexpected]

/-- Settles O31: an epoch that fails a condition is skipped, a sample goes into its bin, a full bin counts it over. -/
theorem sweepSampleRule : Obligations.SweepSampleRule := by
  unfold Obligations.SweepSampleRule
  intro joint sj usable g s hg t bin expected e taken
  have hiff := sampleTaken_iff s.setup.latched.sweepSpeed s.cal.h usable s.work.motor s.pos joint
  have ht : t = if sampleTaken s.setup.latched.sweepSpeed s.cal.h usable s.work.motor s.pos joint then
      s.setSweep (addSample ⟨bin, e⟩ s.sweep) else s.setSweep (skipSample s.sweep) := by
    simp only [t, judgeSample, hg, sweepSample_eq]
    rfl
  refine ⟨fun h => ?_, fun h hroom => ?_, fun h hfull => ?_⟩
  · rw [ht, if_neg (mt hiff.mp h), skipSample, satSucc_eq_min]
    rfl
  · rw [ht, if_pos (hiff.mpr h), addSample, if_pos hroom]
    rfl
  · rw [ht, if_pos (hiff.mpr h), addSample, if_neg (not_lt.mpr hfull), satSucc_eq_min]
    rfl

end Sys2Proof.Machine
end

section
/-! SUPPORT. The edges and timers of SMP that mark no sample instant, the counts at their marks, and the realignment run
(O32). -/

namespace Sys2Proof.Machine

variable {s : State}

/-! ### The line and its timers (R24, R25, R30) -/

theorem answers_iff (u : EpochUnit) : u.answers = true ↔ u.sync = .synced ∨ u.rejoinArmed = true := by
  simp [EpochUnit.answers]

theorem answers_eq_false_iff (u : EpochUnit) : u.answers = false ↔ u.sync = .free ∧ u.rejoinArmed = false := by
  cases h : u.sync <;> simp [EpochUnit.answers, h]

/-- An event that changes pins and Epoch Unit, and of the Epoch Unit neither synchronisation nor alignment, settles at
once. -/
theorem next_line {t : State} (p : Pins) (u : EpochUnit) (ht : t = { s with pins := p, epoch := u })
    (hs : u.sync = s.epoch.sync) (ha : u.alignment = s.epoch.alignment) :
    Host.Outcome.next (conclude s t) = (.next { s with pins := p, epoch := u } : Host.Outcome State Fault Refusal) := by
  subst ht
  refine next_quiet (.inl ⟨rfl, rfl⟩) rfl ?_
  simp only [State.statusTriggers, hs, ha]
  rfl

theorem exec_smpFallingEdge (hr : s.epoch.running = true) :
    exec .smpFallingEdge s = .next { s with pins := { s.pins with smpHigh := false }, epoch := fallingEdge s.epoch } := by
  have hu : (fallingEdge s.epoch).sync = s.epoch.sync ∧ (fallingEdge s.epoch).alignment = s.epoch.alignment := by
    unfold fallingEdge
    simp only
    split <;> exact ⟨rfl, rfl⟩
  exact next_line _ _ (if_pos hr) hu.1 hu.2

theorem fallingEdge_of_answers {u : EpochUnit} (h : u.answers = true) :
    fallingEdge u = { u with highWatch := false, lowWatch := true, driveLow := true, holding := true } := if_pos h

theorem fallingEdge_of_silent {u : EpochUnit} (h : u.answers = false) :
    fallingEdge u = { u with highWatch := false, lowWatch := true } := if_neg (by rw [← Bool.not_eq_true] at h; exact h)

theorem exec_smpRisingEdge_of_silent (hr : s.epoch.running = true) (h : s.epoch.answers = false) (i : SampleInputs) :
    exec (.smpRisingEdge i) s = .next { s with
      pins := { s.pins with smpHigh := true }, epoch := { s.epoch with highWatch := true, lowWatch := false } } := by
  obtain ⟨hfree, harm⟩ := (answers_eq_false_iff _).mp h
  refine next_line _ _ ?_ rfl rfl
  have hedge : risingEdge i (s.setPins { s.pins with smpHigh := true }) =
      { s with pins := { s.pins with smpHigh := true }, epoch := { s.epoch with highWatch := true, lowWatch := false } } := by
    have h1 : ¬(s.setPins { s.pins with smpHigh := true }).epoch.sync = .synced := by simp [hfree]
    have h2 : ¬(s.setPins { s.pins with smpHigh := true }).epoch.rejoinArmed = true := by simp [harm]
    rw [risingEdge, if_neg h1, if_neg h2]
    rfl
  rw [if_pos hr, hedge]

theorem exec_periodTimerExpiry (hr : s.epoch.running = true) (h : s.epoch.answers = true) (ht : s.epoch.timer = .running) :
    exec .periodTimerExpiry s = .next { s with
      epoch := { s.epoch with timer := .expired, driveLow := s.epoch.driveLow || s.pins.smpHigh } } :=
  next_line s.pins _ (if_pos (by simp [hr, h, ht])) rfl rfl

theorem exec_holdExpiry (hr : s.epoch.running = true) (h : s.epoch.holding = true) :
    exec .holdExpiry s = .next { s with epoch := { s.epoch with holding := false, driveLow := false } } :=
  next_line s.pins _ (if_pos (by simp [hr, h])) rfl rfl

theorem exec_rejoinArmed (hr : s.epoch.running = true) (h : s.epoch.answers = false) (hw : s.epoch.highWatch = true) :
    exec .rejoinArmed s = .next { s with epoch := { s.epoch with rejoinArmed := true } } :=
  next_line s.pins _ (if_pos (by simp [hr, h, hw])) rfl rfl

/-! ### The counts at their marks -/

/-- A kind that leaves the active set with its condition: the event settles on the record without it (R179). -/
theorem settles_depart {k : FaultKind} (h : k ≠ .motorEncoder) :
    Settles s { s with faults := { s.faults with
      active := kindRemove s.faults.active k, present := kindRemove s.faults.present k } } (conclude s (depart k s)) := by
  rw [depart, departKind_of_ne h]
  exact settles_judged s _

theorem exec_syncedRun16 (hrun : s.epoch.syncedRun = 16) (ha : s.active .sampleStuck = true) :
    exec .syncedRun16 s = .next (conclude s (depart .sampleStuck s)) := by
  have h : syncedRun16 s = depart .sampleStuck s := by
    rw [syncedRun16, if_pos hrun, conditionGone_departs ha (by decide) (by decide) rfl]
  exact congrArg (fun t => Host.Outcome.next (conclude s t)) h

theorem openCoupling_of_aligned (ha : s.epoch.alignment = .aligned) :
    openCoupling s = { s with coupling := { s.coupling with
      opened := s.coupling.opened || (s.setup.latched.source.isSome && s.pos.established) } } := by
  unfold openCoupling
  split
  · next h =>
    simp only [State.coupled, Bool.and_eq_true] at h
    rw [h.1.1, h.2, Bool.and_true, Bool.or_true]
    rfl
  · next h =>
    have hno : (s.setup.latched.source.isSome && s.pos.established) = false := by
      simpa [State.coupled, ha] using h
    rw [hno, Bool.or_false]

theorem alignmentTimeout_eq (ha : s.epoch.alignment = .aligning) (he : s.epoch.alignEdges = 64) :
    alignmentTimeout s = { s with
      epoch := { s.epoch with alignment := .aligned }
      coupling := { s.coupling with
        opened := s.coupling.opened || (s.setup.latched.source.isSome && s.pos.established) } } := by
  rw [alignmentTimeout, if_pos ⟨ha, he⟩, becomeAligned, openCoupling_of_aligned rfl]
  rfl

theorem exec_realignment (h : s.epoch.realignRun = 8) :
    exec .realignment s = .next { s with epoch := { s.epoch with
      count := s.epoch.count + s.epoch.realignOffset, realignRun := 0
      realignCount := if s.epoch.realignCount < 255 then s.epoch.realignCount + 1 else 255 } } :=
  next_line s.pins _ (by rw [realignNow, if_pos h]; rfl) rfl rfl

theorem exec_beacon (hb : s.setup.latched.beacon ≤ s.link.beaconCount) (hp : s.link.placing = true) :
    exec .beacon s = .next { s with link := { s.link with
      statusSlot := some ⟨kindStatus, s.straps.address, 15#4, s.statusPayload⟩, beaconCount := 0 } } := by
  have h : beaconDue s = { s with link := { s.link with
      statusSlot := some ⟨kindStatus, s.straps.address, 15#4, s.statusPayload⟩, beaconCount := 0 } } := by
    rw [beaconDue, if_pos hb, placeStatus, if_pos hp]
    rfl
  calc exec .beacon s = .next (conclude s (beaconDue s)) := rfl
    _ = _ := by rw [h]; exact next_quiet (.inl ⟨rfl, rfl⟩) rfl rfl

/-! ### The realignment run (R34) -/

theorem realignStep_of_aligned {u : EpochUnit} (h : u.alignment = .aligned) : realignStep true u = judgeRealign u := if_pos h

theorem judgeRealign_of_misaligned {u : EpochUnit} {tag : Tag} (h : u.frames = .misaligned tag) :
    judgeRealign u = if u.realignRun ≠ 0 ∧ tag - u.count = u.realignOffset then { u with realignRun := u.realignRun + 1 }
      else { u with realignRun := 1, realignOffset := tag - u.count } := by
  rw [judgeRealign, h]

/-- Settles O32. -/
theorem sampleLineAndEpochMarks : Obligations.SampleLineAndEpochMarks := by
  unfold Obligations.SampleLineAndEpochMarks
  refine ⟨fun s hr => ⟨fun h => ?_, fun hf ha => ?_, fun hf ha i => ?_, fun h ht => ?_, exec_holdExpiry hr, fun hf ha => ?_⟩,
    fun s => ⟨fun hrun ha => ?_, fun ha he => ?_, exec_realignment, exec_beacon⟩,
    fun u => ⟨fun ha hf => ?_, fun ha hf => ?_, fun tag ha hf hn ho => ?_, fun tag ha hf hn => ?_, fun ha => ?_, rfl, ?_, ?_⟩⟩
  · rw [exec_smpFallingEdge hr, fallingEdge_of_answers ((answers_iff _).mpr h)]
  · rw [exec_smpFallingEdge hr, fallingEdge_of_silent ((answers_eq_false_iff _).mpr ⟨hf, ha⟩)]
  · exact exec_smpRisingEdge_of_silent hr ((answers_eq_false_iff _).mpr ⟨hf, ha⟩) i
  · exact exec_periodTimerExpiry hr ((answers_iff _).mpr h) ht
  · exact exec_rejoinArmed hr ((answers_eq_false_iff _).mpr ⟨hf, ha⟩)
  · exact ⟨_, exec_syncedRun16 hrun ha, settles_depart (by decide)⟩
  · exact ⟨_, rfl, by rw [alignmentTimeout_eq ha he]; exact conclude_settles _ _⟩
  · rw [realignStep_of_aligned ha, judgeRealign, hf]
  · rw [realignStep_of_aligned ha, judgeRealign, hf]
  · rw [realignStep_of_aligned ha, judgeRealign_of_misaligned hf, if_pos ⟨hn, ho⟩]
  · rw [realignStep_of_aligned ha, judgeRealign_of_misaligned hf, if_neg (by tauto)]
  · simp [realignStep, ha]
  · intro cls tag hcls f
    cases cls with
    | current => rfl
    | late => rfl
    | misaligned => exact absurd rfl hcls
  · exact fun tag tag' => ⟨rfl, rfl⟩

end Sys2Proof.Machine
end

section
/-! SUPPORT. What the ends of reads, the match and the restore carry of the link and of the active set: no STATUS frame is
placed within an event, a node that places no frame keeps its link as it was, and no kind departs but COUPLING_LOST and
RESTORE_CONFLICT. -/

namespace Sys2Proof.Machine

/-! ### The kinds kept -/

/-- From one record of the supervisor to another no kind departs but COUPLING_LOST and RESTORE_CONFLICT, and the condition
of SAMPLE_STUCK stays. -/
structure KindsKept (f g : FaultSupervisor) : Prop where
  active : ∀ k, k ≠ .couplingLost → k ≠ .restoreConflict → kindHas f.active k = true → kindHas g.active k = true
  stuck : kindHas f.present .sampleStuck = true → kindHas g.present .sampleStuck = true

namespace KindsKept

variable {s : State} {f g h : FaultSupervisor}

theorem refl (f : FaultSupervisor) : KindsKept f f := ⟨fun _ _ _ => id, id⟩

theorem of_eq (e : g = f) : KindsKept f g := e ▸ refl f

theorem trans (a : KindsKept f g) (b : KindsKept g h) : KindsKept f h :=
  ⟨fun k h1 h2 => b.active k h1 h2 ∘ a.active k h1 h2, b.stuck ∘ a.stuck⟩

theorem noticeWith (k : FaultKind) (why : JumpReason) : KindsKept s.faults (noticeWith k why s).faults := by
  refine ⟨fun j _ _ hj => noticeWith_keeps why hj, fun hs => ?_⟩
  by_cases hk : FaultKind.sampleStuck = k
  · rw [noticeWith_present, ← hk]
    simp [notedPresent, eventKind]
  · rw [(noticeWith_other why s hk).2.1, hs]

theorem notice (k : FaultKind) : KindsKept s.faults (Machine.notice k s).faults := noticeWith k .none

/-- A condition gone that makes one of the two kinds depart. -/
theorem conditionGone {k : FaultKind} (hk : k = .couplingLost ∨ k = .restoreConflict) :
    KindsKept s.faults (Machine.conditionGone k s).faults := by
  refine ⟨fun j h1 h2 hj => ?_, fun hs => ?_⟩
  · rw [conditionGone_other s (by rintro rfl; exact hk.elim h1 h2)]
    exact hj
  · by_cases ha : s.active k = true
    · rcases hk with rfl | rfl
      · rw [conditionGone_departs ha (by decide) (by decide) rfl]
        simpa [depart, departKind] using hs
      · rw [conditionGone_departs ha (by decide) (by decide) rfl]
        simpa [depart, departKind] using hs
    · rw [Bool.not_eq_true] at ha
      rw [conditionGone_inactive ha]
      exact hs

end KindsKept

/-! ### What an operation carries -/

/-- What the ends of reads and the match leave as it was: the STATUS slot and the beacon count, the whole link of a node
that places no frame, the kinds of `KindsKept`. -/
structure Carries (s t : State) : Prop where
  slot : t.link.statusSlot = s.link.statusSlot
  beacon : t.link.beaconCount = s.link.beaconCount
  silent : s.link.placing = false → t.link = s.link
  kinds : KindsKept s.faults t.faults

namespace Carries

variable {s t u : State}

theorem of_link (hl : t.link = s.link) (hk : KindsKept s.faults t.faults) : Carries s t :=
  ⟨hl ▸ rfl, hl ▸ rfl, fun _ => hl, hk⟩

theorem of_eq (hl : t.link = s.link) (hf : t.faults = s.faults) : Carries s t := of_link hl (.of_eq hf)

theorem refl (s : State) : Carries s s := of_eq rfl rfl

theorem trans (a : Carries s t) (b : Carries t u) : Carries s u :=
  ⟨b.slot.trans a.slot, b.beacon.trans a.beacon,
    fun h => (b.silent (by rw [a.silent h, h])).trans (a.silent h), a.kinds.trans b.kinds⟩

/-- The last of two steps named first: the state between them follows from it. -/
theorem after (b : Carries t u) (a : Carries s t) : Carries s u := a.trans b

theorem ite {c : Prop} [Decidable c] {a b : State} (ha : c → Carries s a) (hb : ¬c → Carries s b) :
    Carries s (if c then a else b) := by
  split
  · next h => exact ha h
  · next h => exact hb h

theorem orSelf {c : Prop} [Decidable c] {a : State} (ha : c → Carries s a) : Carries s (if c then a else s) :=
  ite ha fun _ => refl s

theorem noticeWith (k : FaultKind) (why : JumpReason) (s : State) : Carries s (noticeWith k why s) :=
  of_link (by simp) (.noticeWith k why)

theorem notice (k : FaultKind) (s : State) : Carries s (notice k s) := noticeWith k .none s

theorem couplingGone (s : State) : Carries s (conditionGone .couplingLost s) :=
  of_link (by simp) (.conditionGone (.inl rfl))

theorem conflictGone (s : State) : Carries s (conditionGone .restoreConflict s) :=
  of_link (by simp) (.conditionGone (.inr rfl))

theorem enterReferenced (s : State) : Carries s (enterReferenced s) := of_eq (by simp) (by simp)

theorem placePosition (p : List Byte) (s : State) : Carries s (placePosition p s) := by
  unfold Machine.placePosition
  split
  · next h => exact ⟨rfl, rfl, fun hn => absurd h (by simp [hn]), KindsKept.refl _⟩
  · exact refl s

theorem judgeTravel (j : Int) (s : State) : Carries s (judgeTravel j s) := by
  unfold Machine.judgeTravel
  split
  · exact refl s
  · split
    · exact of_eq rfl rfl
    · split
      · exact refl s
      · exact (notice _ _).after (of_eq rfl rfl)

theorem handover (joint : Joint) (src : Option SourceFrame) (s : State) : Carries s (handover joint src s) := by
  unfold Machine.handover
  refine orSelf fun _ => ?_
  have hplaced : Carries s (handedOver joint src s) := (placePosition _ _).after (of_eq rfl rfl)
  exact ite (fun _ => (judgeTravel _ _).after hplaced) fun _ => hplaced

theorem computeJoint (k : Int) (src : Option SourceFrame) (s : State) : Carries s (computeJoint k src s) :=
  (handover _ _ _).after (of_eq rfl rfl)

theorem raiseConflict (d : RestoreDecision) (s : State) : Carries s (raiseConflict d s) := orSelf fun _ => notice _ s

theorem moveNode (n : NodeRecord) (s : State) : Carries s (moveNode n s) := of_eq (by simp) (by simp)

theorem restoreDecide (joint : Joint) (base : Int) (usable : Bool) (s : State) :
    Carries s (restoreDecide joint base usable s) := by
  unfold Machine.restoreDecide
  split
  · exact (moveNode _ _).after ((raiseConflict _ _).after (of_eq rfl rfl))
  · exact (moveNode _ _).after ((raiseConflict _ _).after (of_eq rfl rfl))

theorem endHoming (o : HomingOutcome) (r : HomingReason) (s : State) : Carries s (endHoming o r s) :=
  of_eq (by simp) (by simp)

theorem homingSuccess (shift : Int) (s : State) : Carries s (homingSuccess shift s) := by
  refine of_link (by simp) ?_
  simp only [Machine.homingSuccess, resolveConflict, enterReferenced_frame, closeHoming_frame, State.setNode_faults]
  refine .trans (.of_eq ?_) (.conditionGone (.inr rfl))
  rfl

theorem homingLearned (e : Int) (g : Sixteenths) (s : State) : Carries s (homingLearned e g s) :=
  of_eq (by simp) (by simp [Machine.homingLearned])

theorem completeCapture (k : Int) (usable : Bool) (s : State) : Carries s (completeCapture k usable s) := by
  unfold Machine.completeCapture
  simp only
  split
  · unfold finishLearn
    refine ite (fun _ => ?_) fun _ => (endHoming _ _ _).after (of_eq rfl rfl)
    rw [recordCoarse_eq]
    exact (homingLearned _ _ _).after (of_eq rfl rfl)
  · refine ite (fun _ => (endHoming _ _ _).after (of_eq rfl rfl)) fun _ => ?_
    refine ite (fun _ => (endHoming _ _ _).after (of_eq rfl rfl)) fun _ => ?_
    unfold finishHome
    rw [recordCoarse_eq]
    exact ite (fun _ => (endHoming _ _ _).after (of_eq rfl rfl)) fun _ => (homingSuccess _ _).after (of_eq rfl rfl)

theorem driftMonitor (joint : Joint) (base : Int) (usable : Bool) (s : State) :
    Carries s (driftMonitor joint base usable s) := by
  refine orSelf fun _ => ?_
  unfold driftCount
  refine ite (fun _ => ?_) fun _ => of_eq rfl rfl
  have hrun (v : State) : Carries v (driftRun3 v) := orSelf fun _ => (notice _ _).after (of_eq rfl rfl)
  exact (hrun _).after (of_eq rfl rfl)

theorem evaluationCarries (joint : Joint) (base sj : Int) (usable : Bool) (s : State) :
    Carries s (evaluationCarries joint base sj usable s) := by
  unfold Machine.evaluationCarries
  split
  · exact restoreDecide _ _ _ _
  · exact orSelf fun _ => completeCapture _ _ _
  · exact orSelf fun _ => of_eq (by simp) (by simp)
  · exact refl s

theorem evaluate (joint : Joint) (e : Int) (s : State) : Carries s (evaluate joint e s) := by
  have hplay : Carries s (setRestorePlay s) := of_eq (by simp) (by simp)
  exact (evaluationCarries _ _ _ _ _).after ((driftMonitor _ _ _ _).after (hplay.trans (of_eq rfl rfl)))

theorem coarseEvaluate (s : State) : Carries s (coarseEvaluate s) := by
  refine orSelf fun _ => ?_
  split
  · exact refl s
  · unfold evaluateJoint
    split
    · exact evaluate _ _ _
    · exact (evaluate _ _ _).after (of_eq rfl rfl)

theorem trustLoss (s : State) : Carries s (trustLoss s) := of_eq (by simp) (by simp)

theorem referenceOnMatch (a : Bool) (s : State) : Carries s (referenceOnMatch a s) :=
  ite (fun _ => orSelf fun _ => moveNode _ _) fun _ => trustLoss s

theorem setCoupling (c : CouplingRecord) (s : State) : Carries s (s.setCoupling c) := of_eq rfl rfl

theorem makeMatch (f : SourceFrame) (s : State) : Carries s (makeMatch f s) := by
  refine (coarseEvaluate _).after ((referenceOnMatch _ _).after ((couplingGone _).after ?_))
  exact (setCoupling _ _).after ((computeJoint _ _ _).after (setCoupling _ _))

theorem tryMatch (s : State) : Carries s (tryMatch s) := by
  refine orSelf fun _ => ?_
  split
  · exact refl s
  · exact makeMatch _ _

theorem afterCount (s : State) : Carries s (afterCount s) :=
  ite (fun _ => (tryMatch _).after (of_eq rfl rfl)) fun _ => (coarseEvaluate _).after (computeJoint _ _ _)

theorem afterFailed (m : EpochMotor) (s : State) : Carries s (afterFailed m s) := by
  unfold Machine.afterFailed
  split
  · exact (afterCount _).after (of_eq (by simp) (by simp))
  · exact refl s

theorem motorFailed (c : ReadCause) (s : State) : Carries s (motorFailed c s) := by
  have hnoted (v : State) : Carries v (motorFailureNotice v) := orSelf fun _ => notice _ v
  exact (hnoted _).after ((afterFailed _ _).after (of_eq rfl rfl))

theorem setWork (w : EpochWork) (s : State) : Carries s (s.setWork w) := of_eq rfl rfl

theorem coarseFailed (c : ReadCause) (s : State) : Carries s (coarseFailed c s) := by
  have hnoted (v : State) : Carries v (coarseFailureNotice v) := orSelf fun _ => notice _ v
  exact (coarseEvaluate _).after ((setWork _ _).after ((hnoted _).after (of_eq rfl rfl)))

theorem noteResponse (p : Port) (ack : Bool) (s : State) : Carries s (noteResponse p ack s) := of_eq (by simp) (by simp)

theorem failReading (p : Port) (ack : Bool) (c : ReadCause) (s : State) : Carries s (failReading p ack c s) := by
  cases p with
  | motor => exact orSelf fun _ => (motorFailed _ _).after (noteResponse _ _ _)
  | coarse => exact orSelf fun _ => (coarseFailed _ _).after (noteResponse _ _ _)

theorem loseCoupling (s : State) : Carries s (loseCoupling s) := (trustLoss _).after (notice _ s)

theorem closeCoupling (s : State) : Carries s (closeCoupling s) := by
  refine orSelf fun _ => ite (fun _ => of_eq rfl rfl) fun _ => ?_
  have hcapture (v : State) : Carries v (missCapture v) := orSelf fun _ => endHoming _ _ v
  have hcount (v : State) : Carries v (judgeMissCount v) := orSelf fun _ => loseCoupling v
  exact (hcount _).after ((hcapture _).after (of_eq rfl rfl))

theorem closeSweep (s : State) : Carries s (closeSweep s) := of_eq (by simp) (by simp)

theorem closeEpoch (i : SampleInputs) (s : State) : Carries s (closeEpoch i s) :=
  (closeCoupling _).after ((closeSweep _).after ((failReading _ _ _ _).after (failReading _ _ _ s)))

theorem peerNotice (a : Address) (s : State) : Carries s (peerNotice a s) := of_eq (by simp) (by simp)

theorem peerAbsentOp (a : Address) (s : State) : Carries s (peerAbsentOp a s) := by
  refine orSelf fun _ => ite (fun _ => (peerNotice _ _).after (of_eq rfl rfl)) fun _ => ?_
  refine (ite (fun _ => ?_) fun _ => ?_ : Carries _ (absentNotices _ _)).after (of_eq rfl rfl)
  · exact (peerNotice _ _).after ((notice _ _).after (of_eq rfl rfl))
  · exact (notice _ _).after ((peerNotice _ _).after (of_eq rfl rfl))

theorem agePeers (s : State) : Carries s (agePeers s) := by
  have hfold (l : List Address) (v : State) : Carries v (l.foldl (fun s a => Machine.peerAbsentOp a s) v) := by
    induction l generalizing v with
    | nil => exact refl v
    | cons a l ih => exact (peerAbsentOp a v).trans (ih _)
  exact (hfold _ _).after (of_eq rfl rfl)

end Carries

end Sys2Proof.Machine
end

section
/-! SUPPORT. What a sample instant makes of each record of the node, and what it keeps (O33, O34). -/

namespace Sys2Proof.Machine

/-! ### The Epoch Unit (R26, R28, R29, R33) -/

/-- One alignment edge counted: the 64th ends the alignment (R33). -/
def countEdge (u : EpochUnit) : EpochUnit :=
  { u with
    alignEdges := satSucc 64 u.alignEdges
    alignment := if satSucc 64 u.alignEdges = 64 then .aligned else u.alignment }

/-- The alignment edge reads the Epoch Unit and whether the node is joined. -/
theorem alignmentEdge_epoch (s : State) : (alignmentEdge s).epoch =
    if s.epoch.alignment = .aligning ∧ s.link.joined = true then countEdge s.epoch else s.epoch := by
  split
  · next h =>
    obtain ⟨ha, hj⟩ := h
    by_cases hn : satSucc 64 s.epoch.alignEdges = 64
    · rw [alignmentEdge_of_eq ha hj hn, countEdge, if_pos hn, hn]
    · have hlt : satSucc 64 s.epoch.alignEdges < 64 := by
        rw [satSucc_eq_min] at hn ⊢
        omega
      rw [alignmentEdge_of_lt ha hj hlt, countEdge, if_neg hn]
  · next h =>
    rw [alignmentEdge, if_neg h]

/-- The Epoch Unit at a sample instant: its own step, then the alignment edge. -/
theorem sampleInstant_epoch (synced : Bool) (i : SampleInputs) (u : State) : (sampleInstant synced i u).epoch =
    if (stepEpoch synced u.epoch).alignment = .aligning ∧ u.link.joined = true then countEdge (stepEpoch synced u.epoch)
    else stepEpoch synced u.epoch := by
  simp [sampleInstant, alignmentEdge_epoch]

/-- What a step of the Epoch Unit leaves, and what it sets. -/
theorem stepEpoch_spec (synced : Bool) (u : EpochUnit) :
    (stepEpoch synced u).timer = .running ∧ (stepEpoch synced u).epochSynced = synced ∧
    (stepEpoch synced u).alignment = u.alignment ∧ (stepEpoch synced u).alignEdges = u.alignEdges ∧
    (stepEpoch synced u).instants = satSucc 16 u.instants ∧ (stepEpoch synced u).sync = u.sync ∧
    (stepEpoch synced u).rejoinArmed = u.rejoinArmed ∧ (stepEpoch synced u).driveLow = u.driveLow ∧
    (stepEpoch synced u).holding = u.holding ∧ (stepEpoch synced u).highWatch = u.highWatch ∧
    (stepEpoch synced u).lowWatch = (u.lowWatch && !synced) ∧
    (stepEpoch synced u).syncedRun = if synced then satSucc 16 u.syncedRun else u.syncedRun := by
  have hnow (v : EpochUnit) : realignNow v =
      { v with count := (realignNow v).count, realignCount := (realignNow v).realignCount
               realignRun := (realignNow v).realignRun } := by
    unfold realignNow
    split <;> rfl
  have hjudge (v : EpochUnit) : judgeRealign v =
      { v with realignRun := (judgeRealign v).realignRun, realignOffset := (judgeRealign v).realignOffset } := by
    unfold judgeRealign
    split
    · rfl
    · rfl
    · split <;> rfl
  have hstep : realignStep synced u =
      { u with realignRun := (realignStep synced u).realignRun, realignOffset := (realignStep synced u).realignOffset } := by
    unfold realignStep
    split
    · split
      · exact hjudge u
      · rfl
    · rfl
  unfold stepEpoch
  simp only
  rw [hnow, hstep]
  exact ⟨rfl, rfl, rfl, rfl, rfl, rfl, rfl, rfl, rfl, rfl, rfl, rfl⟩

/-- The counts of a step: the realignment at a run of 8 moves the count on (R34). -/
theorem stepEpoch_counts (synced : Bool) (u : EpochUnit) :
    ((realignStep synced u).realignRun = 8 →
      (stepEpoch synced u).count = (realignStep synced u).count + 1 + (realignStep synced u).realignOffset ∧
      (stepEpoch synced u).realignRun = 0 ∧
      (stepEpoch synced u).realignCount = satSucc 255 (realignStep synced u).realignCount) ∧
    ((realignStep synced u).realignRun ≠ 8 → (stepEpoch synced u).count = (realignStep synced u).count + 1 ∧
      (stepEpoch synced u).realignRun = (realignStep synced u).realignRun) := by
  refine ⟨fun h => ?_, fun h => ?_⟩
  · simp [stepEpoch, realignNow, h]
  · simp [stepEpoch, realignNow, h]

/-! ### The ports (R35, R36, R115) -/

/-- A port whose read is still in progress at the sample instant (R36). -/
def supersede (p : PortRecord) : PortRecord := if p.reading then failedRuns .superseded p else p

theorem motorFailed_enc (c : ReadCause) (s : State) :
    (motorFailed c s).enc = { s.enc with motor := failedRuns c s.enc.motor } := by
  simp [motorFailed]

theorem coarseFailed_enc (c : ReadCause) (s : State) :
    (coarseFailed c s).enc = { s.enc with coarse := failedRuns c s.enc.coarse } := by
  simp [coarseFailed]

theorem failReading_motor_enc (ack : Bool) (s : State) :
    (failReading .motor ack .superseded s).enc = { s.enc with motor := supersede s.enc.motor } := by
  unfold failReading supersede
  simp only
  split
  · rw [motorFailed_enc]
    simp
  · rfl

theorem failReading_coarse_enc (ack : Bool) (s : State) :
    (failReading .coarse ack .superseded s).enc = { s.enc with coarse := supersede s.enc.coarse } := by
  unfold failReading supersede
  simp only
  split
  · rw [coarseFailed_enc]
    simp
  · rfl

theorem closeEpoch_enc (i : SampleInputs) (s : State) :
    (closeEpoch i s).enc = { s.enc with motor := supersede s.enc.motor, coarse := supersede s.enc.coarse } := by
  simp [closeEpoch, failReading_motor_enc, failReading_coarse_enc]

theorem sampleInstant_enc (synced : Bool) (i : SampleInputs) (u : State) : (sampleInstant synced i u).enc =
    { motor := { supersede u.enc.motor with reading := true }
      coarse := { supersede u.enc.coarse with reading := true }
      homeLevel := some i.home
      homeEdge := u.enc.homeLevel == some false && i.home } := by
  simp [sampleInstant, beginEpoch, startReads, closeEpoch_enc]

/-- A port after the end of its read: PRESENT once it has responded (R35). -/
def respondedPort (p : PortRecord) (ack : Bool) (was : PortPresence) : PortPresence :=
  if p.reading = true ∧ ack = true then .present else was

theorem failReading_motor_selfCheck (ack : Bool) (s : State) :
    (failReading .motor ack .superseded s).selfCheck =
      { s.selfCheck with motorPort := respondedPort s.enc.motor ack s.selfCheck.motorPort } := by
  unfold failReading respondedPort
  cases s.enc.motor.reading <;> cases ack <;> simp [noteResponse, portResponded]

theorem failReading_coarse_selfCheck (ack : Bool) (s : State) :
    (failReading .coarse ack .superseded s).selfCheck =
      { s.selfCheck with coarsePort := respondedPort s.enc.coarse ack s.selfCheck.coarsePort } := by
  unfold failReading respondedPort
  cases s.enc.coarse.reading <;> cases ack <;> simp [noteResponse, portResponded]

theorem closeEpoch_selfCheck (i : SampleInputs) (s : State) : (closeEpoch i s).selfCheck =
    { s.selfCheck with
      motorPort := respondedPort s.enc.motor i.motorAck s.selfCheck.motorPort
      coarsePort := respondedPort s.enc.coarse i.coarseAck s.selfCheck.coarsePort } := by
  simp [closeEpoch, failReading_motor_selfCheck, failReading_coarse_selfCheck, failReading_motor_enc]

/-- A port still PENDING at the 16th instant is not found (R115). -/
def presentPort (instants : Nat) (p : PortPresence) : PortPresence :=
  if p = .pending ∧ instants = 16 then .notFound else p

theorem portPresence_selfCheck (s : State) :
    (portPresence .coarse (portPresence .motor s)).selfCheck =
      { s.selfCheck with
        motorPort := presentPort s.epoch.instants s.selfCheck.motorPort
        coarsePort := presentPort s.epoch.instants s.selfCheck.coarsePort } := by
  unfold portPresence presentPort
  by_cases hn : s.epoch.instants = 16
  · by_cases hm : s.selfCheck.motorPort = .pending <;> by_cases hc : s.selfCheck.coarsePort = .pending <;>
      simp [hn, hm, hc]
  · simp [hn]

theorem sampleInstant_selfCheck (synced : Bool) (i : SampleInputs) (u : State) : (sampleInstant synced i u).selfCheck =
    { u.selfCheck with
      motorPort := presentPort (satSucc 16 u.epoch.instants) (respondedPort u.enc.motor i.motorAck u.selfCheck.motorPort)
      coarsePort := presentPort (satSucc 16 u.epoch.instants) (respondedPort u.enc.coarse i.coarseAck u.selfCheck.coarsePort) } := by
  have hinstants := (stepEpoch_spec synced u.epoch).2.2.2.2.1
  simp [sampleInstant, handInstant, portPresence_selfCheck, closeEpoch_selfCheck, hinstants]

/-! ### The Peer Table (R126 to R128) -/

theorem peerAbsentOp_peers (a : Address) (s : State) :
    (peerAbsentOp a s).peers.entries.map PeerEntry.age = s.peers.entries.map PeerEntry.age ∧
      (peerAbsentOp a s).peers.quietRun = s.peers.quietRun := by
  have hmodify : (s.peers.modify a fun e => { e with absent := true }).entries.map PeerEntry.age =
      s.peers.entries.map PeerEntry.age := by
    simp only [PeerTable.modify, List.map_map]
    refine List.map_congr_left fun e _ => ?_
    simp only [Function.comp_apply]
    split <;> rfl
  unfold peerAbsentOp markAbsent
  split
  · simp only
    split
    · simpa using ⟨hmodify, rfl⟩
    · simpa using ⟨hmodify, rfl⟩
  · exact ⟨rfl, rfl⟩

theorem agePeers_peers (s : State) :
    (agePeers s).peers.entries.map PeerEntry.age = s.peers.entries.map (fun e => satSucc 255 e.age) ∧
      (agePeers s).peers.quietRun = s.peers.quietRun := by
  have hfold (l : List Address) (v : State) :
      (l.foldl (fun s a => peerAbsentOp a s) v).peers.entries.map PeerEntry.age = v.peers.entries.map PeerEntry.age ∧
        (l.foldl (fun s a => peerAbsentOp a s) v).peers.quietRun = v.peers.quietRun := by
    induction l generalizing v with
    | nil => exact ⟨rfl, rfl⟩
    | cons a l ih =>
      obtain ⟨hages, hquiet⟩ := ih (peerAbsentOp a v)
      obtain ⟨hages', hquiet'⟩ := peerAbsentOp_peers a v
      exact ⟨hages.trans hages', hquiet.trans hquiet'⟩
  obtain ⟨hages, hquiet⟩ := hfold (s.peers.entries.map PeerEntry.address)
    (s.setPeers { s.peers with entries := s.peers.entries.map fun e => { e with age := satSucc 255 e.age } })
  exact ⟨hages.trans (by simp [Function.comp_def]), hquiet⟩

theorem quietTick_peers (s : State) :
    (quietTick s).peers.entries = s.peers.entries ∧
      (quietTick s).peers.quietRun = s.peers.quietRun.map (fun n => if n < 64 then n + 1 else n) := by
  unfold quietTick
  split
  · next n h =>
    split
    · next hn => simp [quietRun64Op, h, hn, apply_ite State.peers]
    · next hn => simp [h, hn]
  · next h => simp [h]

theorem sampleInstant_peers (synced : Bool) (i : SampleInputs) (u : State) :
    (sampleInstant synced i u).peers.entries.map PeerEntry.age = u.peers.entries.map (fun e => satSucc 255 e.age) ∧
      (sampleInstant synced i u).peers.quietRun = u.peers.quietRun.map (fun n => if n < 64 then n + 1 else n) := by
  simp [sampleInstant, handInstant, quietTick_peers, agePeers_peers]

end Sys2Proof.Machine
end

section
/-! SUPPORT. What the notices of an instant leave of the count, of the sweep and of the node's state. -/

namespace Sys2Proof.Machine

/-- What a fault's notice, a homing's end and a change of an entry leave: the count but for the drift run, the sweep, and
whether the node is CALIBRATING. -/
structure Undisturbed (s t : State) : Prop where
  pos : t.pos = { s.pos with driftRun := t.pos.driftRun }
  sweep : t.sweep = s.sweep
  calibrating : t.node.state = .calibrating ↔ s.node.state = .calibrating

namespace Undisturbed

variable {s t u : State}

theorem of_eq (hp : t.pos = s.pos) (hs : t.sweep = s.sweep) (hn : t.node.state = s.node.state) : Undisturbed s t :=
  ⟨by rw [hp], hs, by rw [hn]⟩

theorem refl (s : State) : Undisturbed s s := of_eq rfl rfl rfl

theorem trans (a : Undisturbed s t) (b : Undisturbed t u) : Undisturbed s u :=
  ⟨by rw [b.pos, a.pos], b.sweep.trans a.sweep, b.calibrating.trans a.calibrating⟩

/-- The last of two steps named first: the state between them follows from it. -/
theorem after (b : Undisturbed t u) (a : Undisturbed s t) : Undisturbed s u := a.trans b

theorem orSelf {c : Prop} [Decidable c] {a : State} (ha : c → Undisturbed s a) : Undisturbed s (if c then a else s) := by
  split
  · next h => exact ha h
  · exact refl s

theorem endHoming (o : HomingOutcome) (r : HomingReason) (s : State) : Undisturbed s (endHoming o r s) := by
  by_cases h : s.inHoming = true
  · refine ⟨by rw [endHoming_pos h], by simp, ?_⟩
    rw [endHoming_node h]
    refine iff_of_false (by dsimp only; split <;> simp) fun hs => ?_
    rw [State.inHoming, hs] at h
    cases h
  · rw [Machine.endHoming, if_neg h]
    exact refl s

theorem notice {k : FaultKind} (hk : removingKind k = false) (s : State) : Undisturbed s (notice k s) := by
  obtain ⟨f, g, e⟩ := noticeWith_keeping k .none s hk
  rw [Machine.notice, e]
  have hset : Undisturbed s ((s.setFaults f).setGate g) := of_eq rfl rfl rfl
  split
  · exact hset
  · exact (orSelf fun _ => endHoming _ _ _).after hset

theorem confirmIfReferenced (s : State) : Undisturbed s (confirmIfReferenced s) :=
  orSelf fun h => ⟨by simp [enterConfirmation], by simp [enterConfirmation], by simp [enterConfirmation, h]⟩

theorem testWaitSet (s : State) : Undisturbed s (testWaitSet s) := by
  refine orSelf fun h => ?_
  split
  · exact ⟨by simp, by simp, by simp [h]⟩
  · exact of_eq rfl rfl rfl

theorem peerNotice (a : Address) (s : State) : Undisturbed s (peerNotice a s) := by
  refine orSelf fun _ => ?_
  split
  · split
    · exact (confirmIfReferenced _).after (endHoming _ _ s)
    · exact endHoming _ _ s
  · exact orSelf fun _ => testWaitSet s

theorem peerAbsentOp (a : Address) (s : State) : Undisturbed s (peerAbsentOp a s) := by
  refine orSelf fun _ => ?_
  unfold markAbsent
  simp only
  split
  · exact (peerNotice _ _).after (of_eq rfl rfl rfl)
  · unfold absentNotices
    simp only
    split
    · exact (peerNotice _ _).after ((notice rfl _).after (of_eq rfl rfl rfl))
    · exact (notice rfl _).after ((peerNotice _ _).after (of_eq rfl rfl rfl))

theorem agePeers (s : State) : Undisturbed s (agePeers s) := by
  have hfold (l : List Address) (v : State) : Undisturbed v (l.foldl (fun s a => Machine.peerAbsentOp a s) v) := by
    induction l generalizing v with
    | nil => exact refl v
    | cons a l ih => exact (ih _).after (peerAbsentOp a v)
  exact (hfold _ _).after (of_eq rfl rfl rfl)

theorem handInstant (s : State) : Undisturbed s (handInstant s) := by
  have hrest (v : State) : Undisturbed v (beaconTick (portPresence .coarse (portPresence .motor (quietTick v)))) :=
    of_eq (by simp) (by simp) (by simp)
  exact (hrest _).after (agePeers s)

theorem missCapture (s : State) : Undisturbed s (missCapture s) := orSelf fun _ => endHoming _ _ s

end Undisturbed

/-- The loss of trust: only a CALIBRATING node's sweep is dropped, and its skip count stays (R72, R121). -/
theorem trustLoss_undisturbed (s : State) :
    (trustLoss s).pos = { s.pos with driftRun := (trustLoss s).pos.driftRun } ∧
      (trustLoss s).sweep.skipped = s.sweep.skipped ∧
      (s.node.state ≠ .calibrating → Undisturbed s (trustLoss s)) := by
  have hconfirm (v : State) : (enterConfirmation v).pos = v.pos ∧ (enterConfirmation v).sweep = v.sweep := by
    simp [enterConfirmation]
  unfold trustLoss
  split
  · next h =>
    obtain ⟨hpos, hsweep⟩ := hconfirm s
    exact ⟨by rw [hpos], by rw [hsweep], fun _ => ⟨by rw [hpos], hsweep, by simp [enterConfirmation, h]⟩⟩
  · next h =>
    obtain ⟨hpos, hsweep⟩ := hconfirm (dropSweep .discarded s)
    exact ⟨by rw [hpos]; simp, by rw [hsweep]; rfl, fun hn => absurd h hn⟩
  · have hend := (Undisturbed.confirmIfReferenced _).after (Undisturbed.endHoming .failed .peerLost s)
    exact ⟨hend.pos, by rw [hend.sweep], fun _ => hend⟩
  · exact ⟨rfl, rfl, fun _ => .refl s⟩

/-- The match of the closing epoch judged: the same (R134, R135). -/
theorem closeCoupling_undisturbed (s : State) :
    (closeCoupling s).pos = { s.pos with driftRun := (closeCoupling s).pos.driftRun } ∧
      (closeCoupling s).sweep.skipped = s.sweep.skipped ∧
      (s.node.state ≠ .calibrating → Undisturbed s (closeCoupling s)) := by
  unfold closeCoupling
  split
  · split
    · exact ⟨rfl, rfl, fun _ => .of_eq rfl rfl rfl⟩
    · unfold countMiss judgeMissCount
      have hmiss := (Undisturbed.missCapture _).after (Undisturbed.of_eq (s := s)
        (t := s.setCoupling { s.coupling with prevMissed := true, missCount := satSucc 255 s.coupling.missCount }) rfl rfl rfl)
      split
      · have hlost := (Undisturbed.notice (k := .couplingLost) rfl _).after hmiss
        obtain ⟨hpos, hskipped, hrest⟩ := trustLoss_undisturbed (notice .couplingLost (missCapture
          (s.setCoupling { s.coupling with prevMissed := true, missCount := satSucc 255 s.coupling.missCount })))
        exact ⟨by rw [loseCoupling, hpos, hlost.pos], by rw [loseCoupling, hskipped, hlost.sweep],
          fun h => hlost.trans (hrest (mt hlost.calibrating.mp h))⟩
      · exact ⟨hmiss.pos, by rw [hmiss.sweep], fun _ => hmiss⟩
  · exact ⟨rfl, rfl, fun _ => .refl s⟩

end Sys2Proof.Machine
end

section
/-! SUPPORT. The four commands that mark a sample instant (O33), and what every instant counts and hands on (O34). -/

namespace Sys2Proof.Machine

/-! ### One instant -/

section
variable (synced : Bool) (i : SampleInputs) (u : State)

/-- The state in which the new epoch begins: the ending one closed, the Epoch Unit stepped on. -/
def epochStepped : State :=
  alignmentEdge (syncedRun16 ((closeEpoch i u).setEpoch (stepEpoch synced (closeEpoch i u).epoch)))

theorem sampleInstant_eq : sampleInstant synced i u = handInstant (beginEpoch i (epochStepped synced i u)) := rfl

theorem epochStepped_undisturbed : Undisturbed (closeEpoch i u) (epochStepped synced i u) :=
  .of_eq (by simp [epochStepped]) (by simp [epochStepped]) (by simp [epochStepped])

theorem sampleInstant_undisturbed : Undisturbed (closeEpoch i u) (sampleInstant synced i u) :=
  (Undisturbed.handInstant _).after ((epochStepped_undisturbed synced i u).trans
    (.of_eq (t := beginEpoch i _) rfl rfl rfl))

theorem sampleInstant_work : (sampleInstant synced i u).work =
    { motor := .pending, coarse := .pending, joint := none, evaluated := false
      considered := (sampleInstant synced i u).node.state == .calibrating } := by
  have hstate := (Undisturbed.handInstant (beginEpoch i (epochStepped synced i u))).calibrating
  have hsame : ((sampleInstant synced i u).node.state == .calibrating) = ((epochStepped synced i u).node.state == .calibrating) := by
    rw [Bool.eq_iff_iff, beq_iff_eq, beq_iff_eq, sampleInstant_eq, hstate]
    simp
  rw [hsame, sampleInstant_eq]
  simp [beginEpoch]

theorem sampleInstant_coupling : (sampleInstant synced i u).coupling.own = false ∧
    (sampleInstant synced i u).coupling.source = none ∧ (sampleInstant synced i u).coupling.matched = false := by
  rw [sampleInstant_eq]
  simp [beginEpoch]

/-- With no read in progress the ending epoch is closed by the sweep and the match alone. -/
theorem closeEpoch_of_idle {i : SampleInputs} {u : State} (hm : u.enc.motor.reading = false)
    (hc : u.enc.coarse.reading = false) : closeEpoch i u = closeCoupling (closeSweep u) := by
  simp [closeEpoch, failReading, hm, hc]

theorem sampleInstant_of_idle {i : SampleInputs} {u : State} (hm : u.enc.motor.reading = false)
    (hc : u.enc.coarse.reading = false) :
    (sampleInstant synced i u).pos = { u.pos with driftRun := (sampleInstant synced i u).pos.driftRun } ∧
      (sampleInstant synced i u).cal = u.cal ∧ (sampleInstant synced i u).store = u.store := by
  have hall := sampleInstant_undisturbed synced i u
  have hpos := (closeCoupling_undisturbed (closeSweep u)).1
  rw [← closeEpoch_of_idle (i := i) hm hc] at hpos
  have hsweep : (closeSweep u).pos = u.pos := by simp
  refine ⟨by rw [hall.pos, hpos, hsweep], ?_, ?_⟩
  · simp [sampleInstant, closeEpoch_of_idle hm hc]
  · simp [sampleInstant, closeEpoch_of_idle hm hc]

/-- The sweep over an instant with no read in progress: an epoch considered and not evaluated is skipped (R118). -/
theorem sampleInstant_sweep {i : SampleInputs} {u : State} (hm : u.enc.motor.reading = false)
    (hc : u.enc.coarse.reading = false) :
    (u.node.state = .calibrating → (sampleInstant synced i u).sweep.skipped =
      if u.work.considered = true ∧ u.work.evaluated = false then min 65535 (u.sweep.skipped + 1) else u.sweep.skipped) ∧
    (u.node.state ≠ .calibrating → (sampleInstant synced i u).sweep = u.sweep) := by
  have hall := sampleInstant_undisturbed synced i u
  obtain ⟨-, hskipped, hrest⟩ := closeCoupling_undisturbed (closeSweep u)
  rw [← closeEpoch_of_idle (i := i) hm hc] at hskipped hrest
  refine ⟨fun h => ?_, fun h => ?_⟩
  · rw [hall.sweep, hskipped, closeSweep]
    split
    · next hs => rw [if_pos hs.2, ← satSucc_eq_min]; rfl
    · next hs => rw [if_neg fun hw => hs ⟨h, hw⟩]
  · have hsame : closeSweep u = u := if_neg fun hs => h hs.1
    rw [hsame] at hrest
    rw [hall.sweep, (hrest h).sweep]

/-! ### The active set over an instant -/

/-- The quiet run reaching 64 clears the condition of ADDRESS_CLASH and nothing else (R128, R179). -/
theorem quietTick_faults (v : State) : (quietTick v).faults =
    if v.peers.quietRun = some 63 ∧ v.active .addressClash = true then (conditionCleared .addressClash v).faults
    else v.faults := by
  have hgone (q : PeerTable) : (conditionGone .addressClash (v.setPeers q)).faults =
      if v.active .addressClash = true then (conditionCleared .addressClash v).faults else v.faults := by
    by_cases ha : v.active .addressClash = true
    · rw [if_pos ha, conditionGone_addressClash (show (v.setPeers q).active .addressClash = true from ha)]
      rfl
    · rw [if_neg ha, conditionGone_inactive (by simpa [State.active] using ha)]
      rfl
  unfold quietTick
  split
  · next n h =>
    split
    · next hn =>
      unfold quietRun64Op
      by_cases h63 : n = 63
      · subst h63
        split
        · exact (hgone _).trans (by rw [h]; simp)
        · next hne => exact absurd rfl hne
      · rw [if_neg (by simp [h63]), if_neg (by simp [h, h63])]
        rfl
    · next hn =>
      have h63 : n ≠ 63 := by omega
      rw [if_neg (by simp [h, h63])]
  · next h => rw [if_neg (by simp [h])]

theorem quietTick_kinds (v : State) : KindsKept v.faults (quietTick v).faults := by
  rw [quietTick_faults]
  split
  · exact ⟨fun _ _ _ => id, fun h => by simpa [conditionCleared] using h⟩
  · exact .refl _

theorem handInstant_faults (v : State) : (handInstant v).faults = (quietTick (agePeers v)).faults := by
  simp [handInstant]

theorem handInstant_kinds (v : State) : KindsKept v.faults (handInstant v).faults := by
  rw [handInstant_faults]
  exact (Carries.agePeers v).kinds.trans (quietTick_kinds _)

/-- The kinds over an instant: SAMPLE_STUCK may depart as well, at a synced run of 16 only (R31). -/
theorem epochStepped_kinds (h : (stepEpoch synced u.epoch).syncedRun ≠ 16) :
    KindsKept u.faults (epochStepped synced i u).faults := by
  have hsame : (epochStepped synced i u).faults = (closeEpoch i u).faults := by
    simp [epochStepped, syncedRun16, h]
  rw [hsame]
  exact (Carries.closeEpoch i u).kinds

theorem sampleInstant_kinds (h : (stepEpoch synced u.epoch).syncedRun ≠ 16) :
    KindsKept u.faults (sampleInstant synced i u).faults :=
  (epochStepped_kinds synced i u h).trans (handInstant_kinds (beginEpoch i (epochStepped synced i u)))

theorem epochStepped_active {k : FaultKind} (h3 : k ≠ .sampleStuck) (h : (closeEpoch i u).active k = true) :
    (epochStepped synced i u).active k = true := by
  have hstep (v : State) (hv : v.active k = true) : (syncedRun16 v).active k = true := by
    unfold syncedRun16
    split
    · exact (conditionGone_other v h3).trans hv
    · exact hv
  have hfaults : (epochStepped synced i u).faults =
      (syncedRun16 ((closeEpoch i u).setEpoch (stepEpoch synced (closeEpoch i u).epoch))).faults := by
    simp [epochStepped]
  rw [State.active, hfaults]
  exact hstep _ h

theorem sampleInstant_active {k : FaultKind} (h1 : k ≠ .couplingLost) (h2 : k ≠ .restoreConflict) (h3 : k ≠ .sampleStuck)
    (h : (closeEpoch i u).active k = true) : kindHas (sampleInstant synced i u).faults.active k = true :=
  (handInstant_kinds (beginEpoch i (epochStepped synced i u))).active k h1 h2 (epochStepped_active synced i u h3 h)

/-- The third failure in a row raises the port's kind (R37, R38). -/
theorem motorFailed_active {c : ReadCause} {s : State} (h : s.enc.motor.failRun = 2) :
    (motorFailed c s).active .motorEncoder = true := by
  have hrun (m : EpochMotor) (w : State) (hw : w.enc.motor.failRun = 3) :
      (motorFailureNotice (afterFailed m w)).active .motorEncoder = true := by
    have hafter : (afterFailed m w).enc.motor.failRun = 3 := by simpa using hw
    rw [motorFailureNotice, if_pos hafter]
    exact noticeWith_active _ _ _
  exact hrun _ _ (by simp [failedRuns, satSucc, h])

theorem coarseFailed_active {c : ReadCause} {s : State} (h : s.enc.coarse.failRun = 2) :
    (coarseFailed c s).active .coarseEncoder = true := by
  refine (Carries.coarseEvaluate _).kinds.active .coarseEncoder (by decide) (by decide) ?_
  have hrun : (s.setEnc { s.enc with coarse := failedRuns c s.enc.coarse }).enc.coarse.failRun = 3 := by
    simp [failedRuns, satSucc, h]
  rw [coarseFailureNotice, if_pos hrun]
  exact noticeWith_active _ _ _

theorem closeEpoch_active {k : FaultKind} (h1 : k ≠ .couplingLost) (h2 : k ≠ .restoreConflict)
    (h : (failReading .coarse i.coarseAck .superseded (failReading .motor i.motorAck .superseded u)).active k = true) :
    (closeEpoch i u).active k = true :=
  ((Carries.closeCoupling _).after (Carries.closeSweep _)).kinds.active k h1 h2 h

theorem closeEpoch_motorEncoder (hr : u.enc.motor.reading = true) (h : u.enc.motor.failRun = 2) :
    (closeEpoch i u).active .motorEncoder = true := by
  refine closeEpoch_active i u (by decide) (by decide) ((Carries.failReading _ _ _ _).kinds.active _ (by decide) (by decide) ?_)
  simp only [failReading, if_pos hr]
  exact motorFailed_active (by simpa using h)

theorem closeEpoch_coarseEncoder (hr : u.enc.coarse.reading = true) (h : u.enc.coarse.failRun = 2) :
    (closeEpoch i u).active .coarseEncoder = true := by
  refine closeEpoch_active i u (by decide) (by decide) ?_
  have hr' : (failReading .motor i.motorAck .superseded u).enc.coarse.reading = true := by
    rw [failReading_motor_enc]
    exact hr
  have h' : (failReading .motor i.motorAck .superseded u).enc.coarse.failRun = 2 := by
    rw [failReading_motor_enc]
    exact h
  have hcoarse (v : State) (hv : v.enc.coarse.reading = true) (hrun : v.enc.coarse.failRun = 2) :
      (failReading .coarse i.coarseAck .superseded v).active .coarseEncoder = true := by
    simp only [failReading, if_pos hv]
    exact coarseFailed_active (by simpa using hrun)
  exact hcoarse _ hr' h'

/-- ADDRESS_CLASH at the 64th quiet epoch: active, its condition gone (R128, R179). -/
theorem sampleInstant_addressClash (hq : u.peers.quietRun = some 63) (h : u.active .addressClash = true) :
    kindHas (sampleInstant synced i u).faults.active .addressClash = true ∧
      kindHas (sampleInstant synced i u).faults.present .addressClash = false := by
  have hclosed := (Carries.closeEpoch i u).kinds.active .addressClash (by decide) (by decide) h
  have hstepped := epochStepped_active synced i u (by decide) hclosed
  have haged : (agePeers (beginEpoch i (epochStepped synced i u))).active .addressClash = true :=
    (Carries.agePeers _).kinds.active .addressClash (by decide) (by decide) hstepped
  have hrun : (agePeers (beginEpoch i (epochStepped synced i u))).peers.quietRun = some 63 := by
    rw [(agePeers_peers _).2]
    simpa [epochStepped] using hq
  rw [sampleInstant_eq, handInstant_faults, quietTick_faults, if_pos ⟨hrun, haged⟩]
  exact ⟨haged, by simp [conditionCleared]⟩

/-- The failed run of an epoch whose motor read ends as SUPERSEDED (R5, R36). -/
theorem sampleInstant_failedRun (hr : u.enc.motor.reading = true) :
    (sampleInstant synced i u).pos.failedRun = (countFailed u.pos).1.failedRun := by
  have hmotor : (failReading .motor i.motorAck .superseded u).pos.failedRun = (countFailed u.pos).1.failedRun := by
    simp [failReading, hr, motorFailed]
  have hcoarse (v : State) : (failReading .coarse i.coarseAck .superseded v).pos.failedRun = v.pos.failedRun := by
    unfold failReading
    simp only
    split <;> simp
  rw [(sampleInstant_undisturbed synced i u).pos]
  simp [closeEpoch, hcoarse, hmotor]

/-! ### The link over an instant (R151) -/

/-- The beacon count one more (R151). -/
def beaconNext (l : LinkController) : Nat := satSucc 1024 l.beaconCount

theorem sampleInstant_placing : (closeEpoch i u).link.placing = u.link.placing := by
  simp [LinkController.placing, LinkController.detached]

theorem sampleInstant_link_of_silent (h : u.link.placing = false) : (sampleInstant synced i u).link = u.link := by
  have hclosed := (Carries.closeEpoch i u).silent h
  simp [sampleInstant, handInstant, beaconTick, hclosed, h]

end

end Sys2Proof.Machine
end

section
/-! SUPPORT. The commands that mark a sample instant, and how each begins it (O33, O34). -/

namespace Sys2Proof.Machine

/-! ### The beacon (R151) -/

theorem beaconTick_due {v : State} (hp : v.link.placing = true) (hb : v.setup.latched.beacon ≤ beaconNext v.link) :
    (beaconTick v).link =
      { v.link with statusSlot := some (v.ownFrame kindStatus v.statusPayload), beaconCount := 0 } := by
  have hp' : (v.setLink { v.link with beaconCount := satSucc 1024 v.link.beaconCount }).link.placing = true := hp
  rw [beaconTick, if_pos hp, beaconDue]
  split
  · rw [placeStatus, if_pos hp']
    rfl
  · next h => exact absurd hb h

theorem beaconTick_early {v : State} (hp : v.link.placing = true) (hb : beaconNext v.link < v.setup.latched.beacon) :
    (beaconTick v).link = { v.link with beaconCount := beaconNext v.link } := by
  rw [beaconTick, if_pos hp, beaconDue]
  split
  · next h => exact absurd h hb.not_ge
  · rfl

theorem beaconNext_closed (i : SampleInputs) (u : State) : beaconNext (closeEpoch i u).link = beaconNext u.link := by
  rw [beaconNext, (Carries.closeEpoch i u).beacon]
  rfl

section
variable {synced : Bool} {i : SampleInputs} {u : State} (hp : u.link.placing = true)

/-- The state at whose end the beacon is counted. -/
def beforeBeacon (synced : Bool) (i : SampleInputs) (u : State) : State :=
  portPresence .coarse (portPresence .motor (quietTick (agePeers (beginEpoch i (epochStepped synced i u)))))

theorem beforeBeacon_frame (synced : Bool) (i : SampleInputs) (u : State) :
    (beforeBeacon synced i u).link = (closeEpoch i u).link ∧ (beforeBeacon synced i u).setup = u.setup ∧
      (beforeBeacon synced i u).straps = u.straps ∧
      (beforeBeacon synced i u).epoch = (sampleInstant synced i u).epoch := by
  refine ⟨?_, ?_, ?_, ?_⟩
  · simp [beforeBeacon, epochStepped]
  · simp [beforeBeacon, epochStepped]
  · simp [beforeBeacon, epochStepped]
  · simp [beforeBeacon, epochStepped, sampleInstant]

include hp

theorem sampleInstant_beacon_due (hb : u.setup.latched.beacon ≤ beaconNext u.link) :
    (sampleInstant synced i u).link.beaconCount = 0 ∧
      ∃ p, (sampleInstant synced i u).link.statusSlot = some ⟨kindStatus, u.straps.address, 15#4, p⟩ ∧
        byteAt p 10 = (sampleInstant synced i u).epoch.count := by
  obtain ⟨hlink, hsetup, hstraps, hepoch⟩ := beforeBeacon_frame synced i u
  have hplacing : (beforeBeacon synced i u).link.placing = true := by rw [hlink, sampleInstant_placing, hp]
  have hdue := beaconTick_due hplacing (by rw [hsetup, hlink, beaconNext_closed i u]; exact hb)
  have hl : (sampleInstant synced i u).link = _ := hdue
  rw [hl]
  refine ⟨rfl, (beforeBeacon synced i u).statusPayload, by rw [← hstraps]; rfl, ?_⟩
  rw [← hepoch]
  rfl

theorem sampleInstant_beacon_early (hb : beaconNext u.link < u.setup.latched.beacon) :
    (sampleInstant synced i u).link.beaconCount = beaconNext u.link ∧
      (sampleInstant synced i u).link.statusSlot = u.link.statusSlot := by
  obtain ⟨hlink, hsetup, -, -⟩ := beforeBeacon_frame synced i u
  have hplacing : (beforeBeacon synced i u).link.placing = true := by rw [hlink, sampleInstant_placing, hp]
  have hearly := beaconTick_early hplacing (by rw [hsetup, hlink, beaconNext_closed i u]; exact hb)
  have hl : (sampleInstant synced i u).link = _ := hearly
  rw [hl, hlink, beaconNext_closed i u]
  exact ⟨rfl, (Carries.closeEpoch i u).slot⟩

end

/-! ### How each command begins its instant -/

/-- What the commands leave before the instant proper: they change pins, the synchronisation state, and at a stuck line
what the notice of SAMPLE_STUCK changes. -/
structure Prepared (s u : State) : Prop where
  alignment : u.epoch.alignment = s.epoch.alignment
  alignEdges : u.epoch.alignEdges = s.epoch.alignEdges
  instants : u.epoch.instants = s.epoch.instants
  straps : u.straps = s.straps
  enc : u.enc = s.enc
  work : u.work = s.work
  peers : u.peers = s.peers
  link : u.link = s.link
  setup : u.setup = s.setup
  selfCheck : u.selfCheck = s.selfCheck
  cal : u.cal = s.cal
  store : u.store = s.store
  record : u.ret.record = s.ret.record
  restartPending : u.restartPending = s.restartPending
  pending : u.pending = s.pending
  undisturbed : Undisturbed s u
  kinds : KindsKept s.faults u.faults

theorem Prepared.of_line (s : State) (p : Pins) {e : EpochUnit} (ha : e.alignment = s.epoch.alignment)
    (hg : e.alignEdges = s.epoch.alignEdges) (hi : e.instants = s.epoch.instants) :
    Prepared s ((s.setPins p).setEpoch e) :=
  ⟨ha, hg, hi, rfl, rfl, rfl, rfl, rfl, rfl, rfl, rfl, rfl, rfl, rfl, rfl, .of_eq rfl rfl rfl, .refl _⟩

theorem Prepared.stuck (s : State) : Prepared s ((notice .sampleStuck s).setEpoch (goFree (notice .sampleStuck s).epoch)) := by
  have hquiet := Undisturbed.notice (k := .sampleStuck) rfl s
  exact ⟨by simp [goFree], by simp [goFree], by simp [goFree], by simp, by simp, by simp, by simp, by simp, by simp,
    by simp, by simp, by simp, by simp, by simp, by simp, ⟨hquiet.pos, hquiet.sweep, hquiet.calibrating⟩, .notice _⟩

/-- What an event that settles leaves of the state its own effects left. -/
theorem Settles.frame {s x t : State} (h : Settles s x t) :
    t.pins = x.pins ∧ t.straps = x.straps ∧ t.epoch = x.epoch ∧ t.enc = x.enc ∧ t.pos = x.pos ∧ t.work = x.work ∧
    t.coupling = x.coupling ∧ t.peers = x.peers ∧ t.ret.record = x.ret.record ∧ t.node = x.node ∧ t.sweep = x.sweep ∧
    t.cal = x.cal ∧ t.setup = x.setup ∧ t.store = x.store ∧ t.selfCheck = x.selfCheck ∧ t.faults = x.faults ∧
    t.restartPending = x.restartPending ∧ t.pending = x.pending := by
  rw [h.rest]
  exact ⟨rfl, rfl, rfl, rfl, rfl, rfl, rfl, rfl, rfl, rfl, rfl, rfl, rfl, rfl, rfl, rfl, rfl, rfl⟩

/-- What every sample instant leaves (R26, R29). -/
def InstantLeft (i : SampleInputs) (s : State) (synced : Bool) (t : State) : Prop :=
  t.epoch.timer = .running ∧ t.epoch.epochSynced = synced ∧
  t.enc.motor.reading = true ∧ t.enc.coarse.reading = true ∧ t.enc.homeLevel = some i.home ∧
  t.enc.homeEdge = (s.enc.homeLevel == some false && i.home) ∧
  t.work.motor = .pending ∧ t.work.coarse = .pending ∧ t.work.joint = none ∧ t.work.evaluated = false ∧
  t.coupling.own = false ∧ t.coupling.source = none ∧ t.coupling.matched = false ∧
  t.peers.entries.map PeerEntry.age = s.peers.entries.map (fun e => if e.age < 255 then e.age + 1 else 255) ∧
  t.straps = s.straps ∧ t.setup = s.setup ∧ t.restartPending = s.restartPending ∧ t.pending = s.pending ∧
  (s.enc.motor.reading = false → s.enc.coarse.reading = false →
    t.pos = { s.pos with driftRun := t.pos.driftRun } ∧ t.cal = s.cal ∧ t.store = s.store ∧
    t.ret.record = s.ret.record)

theorem sampleInstant_timer (synced : Bool) (i : SampleInputs) (u : State) :
    (sampleInstant synced i u).epoch.timer = .running ∧ (sampleInstant synced i u).epoch.epochSynced = synced := by
  obtain ⟨htimer, hsynced, -⟩ := stepEpoch_spec synced u.epoch
  rw [sampleInstant_epoch]
  split <;> exact ⟨htimer, hsynced⟩

theorem instantLeft_of_settles {i : SampleInputs} {s u t : State} {synced : Bool} (hu : Prepared s u)
    (ht : Settles s (sampleInstant synced i u) t) : InstantLeft i s synced t := by
  obtain ⟨-, hstraps, hepoch, henc, hpos, hwork, hcoupling, hpeers, hrecord, -, -, hcal, hsetup, hstore, -, -, hrestart,
    hpending⟩ := ht.frame
  obtain ⟨htimer, hsynced⟩ := sampleInstant_timer synced i u
  obtain ⟨hown, hsource, hmatched⟩ := sampleInstant_coupling synced i u
  unfold InstantLeft
  rw [hstraps, hepoch, henc, hpos, hwork, hcoupling, hpeers, hrecord, hcal, hsetup, hstore, hrestart, hpending,
    sampleInstant_enc, sampleInstant_work, (sampleInstant_peers synced i u).1, hu.enc, hu.peers]
  refine ⟨htimer, hsynced, rfl, rfl, rfl, rfl, rfl, rfl, rfl, rfl, hown, hsource, hmatched, rfl, ?_, ?_, ?_, ?_, ?_⟩
  · simpa using hu.straps
  · simpa using hu.setup
  · simpa using hu.restartPending
  · simpa using hu.pending
  · intro hm hc
    obtain ⟨hp, hcal, hstore⟩ := sampleInstant_of_idle synced (i := i) (u := u) (by rw [hu.enc, hm]) (by rw [hu.enc, hc])
    exact ⟨by rw [hp, hu.undisturbed.pos], by rw [hcal, hu.cal], by rw [hstore, hu.store], by simpa using hu.record⟩

/-! ### The Epoch Unit after each instant -/

/-- The alignment edge apart, the Epoch Unit stands as its step leaves it. -/
theorem sampleInstant_epoch_step (synced : Bool) (i : SampleInputs) (u : State) : ∃ edges alignment,
    (sampleInstant synced i u).epoch =
      { stepEpoch synced u.epoch with alignEdges := edges, alignment := alignment } := by
  rw [sampleInstant_epoch]
  split
  · exact ⟨_, _, rfl⟩
  · exact ⟨_, _, rfl⟩

theorem judgeRealign_eq (u : EpochUnit) : judgeRealign u =
    { u with realignRun := (judgeRealign u).realignRun, realignOffset := (judgeRealign u).realignOffset } := by
  unfold judgeRealign
  split
  · rfl
  · rfl
  · split <;> rfl

theorem realignStep_eq (synced : Bool) (u : EpochUnit) : realignStep synced u =
    { u with realignRun := (realignStep synced u).realignRun, realignOffset := (realignStep synced u).realignOffset } := by
  unfold realignStep
  split
  · split
    · exact judgeRealign_eq u
    · rfl
  · rfl

/-- The realignment reads neither the synchronisation state nor the rejoin arming. -/
theorem realignStep_rejoin (u : EpochUnit) :
    (realignStep true { u with sync := .synced, rejoinArmed := false, highWatch := false }).realignRun =
        (realignStep true u).realignRun ∧
      (realignStep true { u with sync := .synced, rejoinArmed := false, highWatch := false }).realignOffset =
        (realignStep true u).realignOffset := by
  unfold realignStep judgeRealign
  simp only [if_true]
  split
  · split
    · exact ⟨rfl, rfl⟩
    · exact ⟨rfl, rfl⟩
    · split <;> exact ⟨rfl, rfl⟩
  · exact ⟨rfl, rfl⟩

/-- The count and the realignment after an instant that answers, by the run its judgement leaves (R34). -/
def CountedOn (s t : State) (run : Nat) (offset : Tag) : Prop :=
  (run = 8 → t.epoch.count = s.epoch.count + 1#8 + offset ∧ t.epoch.realignRun = 0 ∧
    t.epoch.realignCount = min 255 (s.epoch.realignCount + 1)) ∧
  (run ≠ 8 → t.epoch.count = s.epoch.count + 1#8 ∧ t.epoch.realignRun = run)

theorem countedOn_of_epoch {s t u : State} {synced : Bool} {i : SampleInputs} (ht : t.epoch = (sampleInstant synced i u).epoch)
    (hc : u.epoch.count = s.epoch.count) (hr : u.epoch.realignCount = s.epoch.realignCount) :
    CountedOn s t (realignStep synced u.epoch).realignRun (realignStep synced u.epoch).realignOffset := by
  obtain ⟨edges, alignment, he⟩ := sampleInstant_epoch_step synced i u
  obtain ⟨h8, hn⟩ := stepEpoch_counts synced u.epoch
  have hcount : (realignStep synced u.epoch).count = s.epoch.count := by rw [realignStep_eq, hc]
  have hreal : (realignStep synced u.epoch).realignCount = s.epoch.realignCount := by rw [realignStep_eq, hr]
  rw [hcount, hreal, satSucc_eq_min] at h8
  rw [hcount] at hn
  unfold CountedOn
  rw [ht, he]
  exact ⟨h8, hn⟩

/-! ### The commands -/

section
variable {s : State} (i : SampleInputs) (hr : s.epoch.running = true)
include hr

theorem exec_risingEdge_synced (h : s.epoch.sync = .synced) :
    exec (.smpRisingEdge i) s = .next (conclude s (sampleInstant true i ((s.setPins { s.pins with smpHigh := true }).setEpoch s.epoch))) := by
  have hedge : risingEdge i (s.setPins { s.pins with smpHigh := true }) =
      sampleInstant true i ((s.setPins { s.pins with smpHigh := true }).setEpoch s.epoch) := if_pos h
  exact congrArg (fun t => Host.Outcome.next (conclude s t)) ((if_pos hr).trans hedge)

theorem exec_risingEdge_rejoin (h : s.epoch.sync = .free) (ha : s.epoch.rejoinArmed = true) :
    exec (.smpRisingEdge i) s = .next (conclude s (sampleInstant true i ((s.setPins { s.pins with smpHigh := true }).setEpoch
      { s.epoch with sync := .synced, rejoinArmed := false, highWatch := false }))) := by
  have hfree : ¬(s.setPins { s.pins with smpHigh := true }).epoch.sync = .synced := by simp [h]
  have hedge : risingEdge i (s.setPins { s.pins with smpHigh := true }) = sampleInstant true i
      ((s.setPins { s.pins with smpHigh := true }).setEpoch
        { s.epoch with sync := .synced, rejoinArmed := false, highWatch := false }) := (if_neg hfree).trans (if_pos ha)
  exact congrArg (fun t => Host.Outcome.next (conclude s t)) ((if_pos hr).trans hedge)

theorem exec_freePeriodExpiry (h : s.epoch.answers = false) (ht : s.epoch.timer = .running) :
    exec (.freePeriodExpiry i) s = .next (conclude s (sampleInstant false i ((s.setPins s.pins).setEpoch s.epoch))) :=
  congrArg (fun t => Host.Outcome.next (conclude s t)) (if_pos (by simp [hr, h, ht]))

theorem exec_sampleLineStuck (h : s.epoch.answers = true) (hw : s.epoch.lowWatch = true) :
    exec (.sampleLineStuck i) s = .next (conclude s
      (sampleInstant false i ((notice .sampleStuck s).setEpoch (goFree (notice .sampleStuck s).epoch)))) :=
  congrArg (fun t => Host.Outcome.next (conclude s t)) (if_pos (by simp [hr, h, hw]))

end

/-- The state in which an answered rising edge finds the instant. -/
def edgeSeen (s : State) (e : EpochUnit) : State := (s.setPins { s.pins with smpHigh := true }).setEpoch e

/-- The state in which a stuck line finds the instant. -/
def lineFreed (s : State) : State := (notice .sampleStuck s).setEpoch (goFree (notice .sampleStuck s).epoch)

/-- The Epoch Unit at an edge that rejoins. -/
def rejoined (u : EpochUnit) : EpochUnit := { u with sync := .synced, rejoinArmed := false, highWatch := false }

section
variable {s : State} (i : SampleInputs) (hr : s.epoch.running = true)
include hr

theorem risingEdge_synced_instant (h : s.epoch.sync = .synced) :
    ∃ t, exec (.smpRisingEdge i) s = .next t ∧ InstantLeft i s true t ∧
      CountedOn s t (realignStep true s.epoch).realignRun (realignStep true s.epoch).realignOffset ∧
      t.epoch.sync = .synced ∧ t.epoch.syncedRun = min 16 (s.epoch.syncedRun + 1) ∧ t.epoch.lowWatch = false := by
  have hu : Prepared s (edgeSeen s s.epoch) := .of_line s _ rfl rfl rfl
  have hs := conclude_settles s (sampleInstant true i (edgeSeen s s.epoch))
  have hepoch := hs.frame.2.2.1
  have hcounted := countedOn_of_epoch (s := s) (u := edgeSeen s s.epoch) hepoch rfl rfl
  obtain ⟨edges, alignment, he⟩ := sampleInstant_epoch_step true i (edgeSeen s s.epoch)
  obtain ⟨-, -, -, -, -, hsync, -, -, -, -, hlow, hrun⟩ := stepEpoch_spec true (edgeSeen s s.epoch).epoch
  refine ⟨_, exec_risingEdge_synced i hr h, instantLeft_of_settles hu hs, hcounted, ?_⟩
  have hfields : (conclude s (sampleInstant true i (edgeSeen s s.epoch))).epoch = _ := hepoch.trans he
  rw [edgeSeen] at hfields
  rw [hfields]
  rw [Bool.not_true, Bool.and_false] at hlow
  exact ⟨hsync.trans h, hrun.trans (satSucc_eq_min _ _), hlow⟩

theorem risingEdge_rejoin_instant (h : s.epoch.sync = .free) (ha : s.epoch.rejoinArmed = true) :
    ∃ t, exec (.smpRisingEdge i) s = .next t ∧ InstantLeft i s true t ∧
      CountedOn s t (realignStep true s.epoch).realignRun (realignStep true s.epoch).realignOffset ∧
      t.epoch.sync = .synced ∧ t.epoch.rejoinArmed = false ∧ t.epoch.syncedRun = min 16 (s.epoch.syncedRun + 1) := by
  have hu : Prepared s (edgeSeen s (rejoined s.epoch)) := .of_line s _ rfl rfl rfl
  have hs := conclude_settles s (sampleInstant true i (edgeSeen s (rejoined s.epoch)))
  have hepoch := hs.frame.2.2.1
  have hcounted := countedOn_of_epoch (s := s) (u := edgeSeen s (rejoined s.epoch)) hepoch rfl rfl
  obtain ⟨hrealign, hoffset⟩ := realignStep_rejoin s.epoch
  have hunit : (edgeSeen s (rejoined s.epoch)).epoch = { s.epoch with sync := .synced, rejoinArmed := false, highWatch := false } := rfl
  rw [hunit, hrealign, hoffset] at hcounted
  obtain ⟨edges, alignment, he⟩ := sampleInstant_epoch_step true i (edgeSeen s (rejoined s.epoch))
  obtain ⟨-, -, -, -, -, hsync, harm, -, -, -, -, hrun⟩ := stepEpoch_spec true (edgeSeen s (rejoined s.epoch)).epoch
  refine ⟨_, exec_risingEdge_rejoin i hr h ha, instantLeft_of_settles hu hs, hcounted, ?_⟩
  have hfields : (conclude s (sampleInstant true i (edgeSeen s (rejoined s.epoch)))).epoch = _ := hepoch.trans he
  rw [edgeSeen, rejoined] at hfields
  rw [hfields]
  exact ⟨hsync, harm, hrun.trans (satSucc_eq_min _ _)⟩

theorem freePeriodExpiry_instant (h : s.epoch.sync = .free) (ha : s.epoch.rejoinArmed = false)
    (ht : s.epoch.timer = .running) :
    ∃ t, exec (.freePeriodExpiry i) s = .next t ∧ InstantLeft i s false t ∧
      t.epoch.count = s.epoch.count + 1#8 ∧ t.epoch.sync = .free ∧ t.epoch.realignRun = 0 := by
  have hu : Prepared s ((s.setPins s.pins).setEpoch s.epoch) := .of_line s _ rfl rfl rfl
  have hs := conclude_settles s (sampleInstant false i ((s.setPins s.pins).setEpoch s.epoch))
  have hepoch := hs.frame.2.2.1
  obtain ⟨-, hn⟩ := countedOn_of_epoch (s := s) hepoch rfl rfl
  obtain ⟨hcount, hrun⟩ := hn (show (0 : Nat) ≠ 8 by decide)
  obtain ⟨edges, alignment, he⟩ := sampleInstant_epoch_step false i ((s.setPins s.pins).setEpoch s.epoch)
  obtain ⟨-, -, -, -, -, hsync, -⟩ := stepEpoch_spec false ((s.setPins s.pins).setEpoch s.epoch).epoch
  refine ⟨_, exec_freePeriodExpiry i hr ((answers_eq_false_iff _).mpr ⟨h, ha⟩) ht, instantLeft_of_settles hu hs, hcount,
    ?_, hrun⟩
  have hfields : (conclude s (sampleInstant false i ((s.setPins s.pins).setEpoch s.epoch))).epoch = _ := hepoch.trans he
  rw [hfields]
  exact hsync.trans h

theorem sampleLineStuck_instant (h : s.epoch.sync = .synced ∨ s.epoch.rejoinArmed = true) (hw : s.epoch.lowWatch = true) :
    ∃ t, exec (.sampleLineStuck i) s = .next t ∧ InstantLeft i s false t ∧
      t.epoch.count = s.epoch.count + 1#8 ∧ t.epoch.sync = .free ∧ t.epoch.rejoinArmed = false ∧
      t.epoch.driveLow = false ∧ t.epoch.holding = false ∧ t.epoch.highWatch = false ∧ t.epoch.syncedRun = 0 ∧
      t.epoch.realignRun = 0 ∧ kindHas t.faults.active .sampleStuck = true ∧
      kindHas t.faults.present .sampleStuck = true := by
  have hs := conclude_settles s (sampleInstant false i (lineFreed s))
  obtain ⟨-, -, hepoch, -, -, -, -, -, -, -, -, -, -, -, -, hfaults, -, -⟩ := hs.frame
  obtain ⟨-, hn⟩ := countedOn_of_epoch (s := s) (u := lineFreed s) hepoch (by simp [lineFreed, goFree])
    (by simp [lineFreed, goFree])
  obtain ⟨hcount, hrun⟩ := hn (show (0 : Nat) ≠ 8 by decide)
  obtain ⟨edges, alignment, he⟩ := sampleInstant_epoch_step false i (lineFreed s)
  obtain ⟨-, -, -, -, -, hsync, harm, hdrive, hhold, hhigh, -, hsrun⟩ := stepEpoch_spec false (lineFreed s).epoch
  have hkinds := sampleInstant_kinds false i (lineFreed s) (by rw [hsrun]; exact (show (0 : Nat) ≠ 16 by decide))
  have hpresent : kindHas (notice .sampleStuck s).faults.present .sampleStuck = true := by
    rw [notice, noticeWith_present]
    simp [notedPresent, eventKind]
  refine ⟨conclude s (sampleInstant false i (lineFreed s)), exec_sampleLineStuck i hr ((answers_iff _).mpr h) hw, instantLeft_of_settles (.stuck s) hs, hcount, ?_⟩
  have hfields : (conclude s (sampleInstant false i (lineFreed s))).epoch = _ := hepoch.trans he
  rw [hfields] at hrun
  rw [hfaults, hfields]
  exact ⟨hsync, harm, hdrive, hhold, hhigh, hsrun, hrun,
    hkinds.active .sampleStuck (by decide) (by decide) (noticeWith_active _ _ _), hkinds.stuck hpresent⟩

end

/-- Settles O33, command by command. -/
theorem sampleInstants : Obligations.SampleInstants := by
  unfold Obligations.SampleInstants
  intro i s hr instant u counted
  exact ⟨risingEdge_synced_instant i hr, risingEdge_rejoin_instant i hr, freePeriodExpiry_instant i hr,
    fun hw h => sampleLineStuck_instant i hr h hw⟩

end Sys2Proof.Machine
end

section
/-! What a sample instant of any kind counts and hands on (O34). -/

namespace Sys2Proof.Machine

section
variable {i : SampleInputs} {s u t : State} {synced : Bool} (hu : Prepared s u)
  (ht : Settles s (sampleInstant synced i u) t)

/-! ### The alignment edge and the instants -/

theorem epoch_of_settles (ht : Settles s (sampleInstant synced i u) t) : t.epoch = (sampleInstant synced i u).epoch := by
  obtain ⟨-, -, hepoch, -⟩ := ht.frame
  exact hepoch

include hu ht in
theorem alignment_of_aligned (h : s.epoch.alignment = .aligned) :
    t.epoch.alignment = .aligned ∧ t.epoch.alignEdges = s.epoch.alignEdges := by
  obtain ⟨-, -, halign, hedges, -⟩ := stepEpoch_spec synced u.epoch
  rw [hu.alignment, h] at halign
  rw [epoch_of_settles ht, sampleInstant_epoch, if_neg (by simp [halign])]
  exact ⟨halign, hedges.trans hu.alignEdges⟩

include hu ht in
theorem alignment_of_unjoined (h : s.epoch.alignment = .aligning) (hj : s.link.joined = false) :
    t.epoch.alignment = .aligning ∧ t.epoch.alignEdges = s.epoch.alignEdges := by
  obtain ⟨-, -, halign, hedges, -⟩ := stepEpoch_spec synced u.epoch
  rw [hu.alignment, h] at halign
  rw [epoch_of_settles ht, sampleInstant_epoch, if_neg (by simp [hu.link, hj])]
  exact ⟨halign, hedges.trans hu.alignEdges⟩

include hu ht in
theorem alignment_of_joined (h : s.epoch.alignment = .aligning) (hj : s.link.joined = true) :
    t.epoch.alignEdges = satSucc 64 s.epoch.alignEdges ∧
      t.epoch.alignment = if satSucc 64 s.epoch.alignEdges = 64 then .aligned else .aligning := by
  obtain ⟨-, -, halign, hedges, -⟩ := stepEpoch_spec synced u.epoch
  rw [hu.alignment, h] at halign
  rw [hu.alignEdges] at hedges
  rw [epoch_of_settles ht, sampleInstant_epoch, if_pos (by simp [halign, hu.link, hj]), countEdge, halign, hedges]
  exact ⟨rfl, rfl⟩

include hu ht in
theorem instants_of_settles : t.epoch.instants = satSucc 16 s.epoch.instants := by
  obtain ⟨-, -, -, -, hinstants, -⟩ := stepEpoch_spec synced u.epoch
  obtain ⟨edges, alignment, he⟩ := sampleInstant_epoch_step synced i u
  rw [epoch_of_settles ht, he, ← hu.instants]
  exact hinstants

/-! ### The beacon -/

theorem Settles.link_of_silent {x : State} (h : Settles s x t) (hp : x.link.placing = false) : t.link = x.link := by
  obtain ⟨hslot, hcount⟩ := h.kept (.inr hp)
  rw [h.rest, hslot, hcount]

theorem sampleInstant_keeps_placing (synced : Bool) (i : SampleInputs) (u : State) :
    (sampleInstant synced i u).link.placing = u.link.placing := by
  simp [LinkController.placing, LinkController.detached]

include hu ht in
theorem link_of_silent (h : s.link.placing = false) : t.link = s.link := by
  have hsame : (sampleInstant synced i u).link = s.link :=
    (sampleInstant_link_of_silent synced i u (by rw [hu.link, h])).trans hu.link
  exact (ht.link_of_silent (by rw [hsame, h])).trans hsame

include hu ht in
theorem beacon_of_due (hp : s.link.placing = true) (hb : s.setup.latched.beacon ≤ beaconNext s.link) :
    t.link.beaconCount = 0 ∧
      ∃ p, t.link.statusSlot = some ⟨kindStatus, s.straps.address, 15#4, p⟩ ∧ byteAt p 10 = t.epoch.count ∧
        (s.statusTriggers ≠ t.statusTriggers → p = t.statusPayload) := by
  obtain ⟨-, hstraps, hepoch, -⟩ := ht.frame
  have hsame : t.straps = s.straps := by rw [hstraps, ← hu.straps]; simp
  have hp' : u.link.placing = true := by rw [hu.link, hp]
  obtain ⟨hzero, p, hslot, hbyte⟩ :=
    sampleInstant_beacon_due (synced := synced) (i := i) hp' (by rw [hu.setup, hu.link]; exact hb)
  by_cases hchange : s.statusTriggers = t.statusTriggers
  · obtain ⟨hslot', hcount⟩ := ht.kept (.inl hchange)
    exact ⟨hcount.trans hzero, p, by rw [hslot', hslot, hu.straps], by rw [hbyte, hepoch], (absurd hchange ·)⟩
  · obtain ⟨hslot', hcount⟩ := ht.placed hchange (by rw [sampleInstant_keeps_placing, hp'])
    exact ⟨hcount, t.statusPayload, by rw [hslot', ← hsame]; rfl, rfl, fun _ => rfl⟩

include hu ht in
theorem beacon_of_early (hp : s.link.placing = true) (hb : beaconNext s.link < s.setup.latched.beacon)
    (hsame : s.statusTriggers = t.statusTriggers) :
    t.link.beaconCount = beaconNext s.link ∧ t.link.statusSlot = s.link.statusSlot := by
  obtain ⟨hslot, hcount⟩ := ht.kept (.inl hsame)
  obtain ⟨hearly, hkept⟩ := sampleInstant_beacon_early (synced := synced) (i := i) (u := u) (by rw [hu.link, hp])
    (by rw [hu.setup, hu.link]; exact hb)
  exact ⟨by rw [hcount, hearly, hu.link], by rw [hslot, hkept, hu.link]⟩

/-! ### The quiet run, the ports and the reads ended -/

include hu ht in
theorem quietRun_of_settles : t.peers.quietRun = s.peers.quietRun.map (fun n => if n < 64 then n + 1 else n) := by
  obtain ⟨-, -, -, -, -, -, -, hpeers, -⟩ := ht.frame
  rw [hpeers, (sampleInstant_peers synced i u).2, hu.peers]

theorem faults_of_settles (ht : Settles s (sampleInstant synced i u) t) : t.faults = (sampleInstant synced i u).faults := by
  obtain ⟨-, -, -, -, -, -, -, -, -, -, -, -, -, -, -, hfaults, -⟩ := ht.frame
  exact hfaults

include hu ht in
theorem addressClash_of_settles (hq : s.peers.quietRun = some 63) (h : s.active .addressClash = true) :
    kindHas t.faults.active .addressClash = true ∧ kindHas t.faults.present .addressClash = false := by
  rw [faults_of_settles ht]
  exact sampleInstant_addressClash synced i u (by rw [hu.peers, hq]) (hu.kinds.active _ (by decide) (by decide) h)

/-- A port's presence at the 16th instant, said without the count (R40). -/
theorem presentPort_satSucc (n : Nat) (p : PortPresence) :
    presentPort (satSucc 16 n) p = if p = .pending ∧ 15 ≤ n then .notFound else p := by
  have h16 : satSucc 16 n = 16 ↔ 15 ≤ n := by
    unfold satSucc
    split <;> omega
  simp only [presentPort, h16]

include hu ht in
theorem selfCheck_of_settles : t.selfCheck = { s.selfCheck with
    motorPort := presentPort (satSucc 16 s.epoch.instants) (respondedPort s.enc.motor i.motorAck s.selfCheck.motorPort)
    coarsePort := presentPort (satSucc 16 s.epoch.instants) (respondedPort s.enc.coarse i.coarseAck s.selfCheck.coarsePort) } := by
  obtain ⟨-, -, -, -, -, -, -, -, -, -, -, -, -, -, hself, -⟩ := ht.frame
  rw [hself, sampleInstant_selfCheck, hu.instants, hu.enc, hu.selfCheck]

/-- A port's record once its next read has begun. -/
theorem supersede_reading (p : PortRecord) : { supersede p with reading := true } =
    if p.reading then
      { reading := true, goodRun := 0, lastCause := .superseded, failRun := if p.failRun < 255 then p.failRun + 1 else 255 }
    else { p with reading := true } := by
  unfold supersede
  split <;> rfl

include hu ht in
theorem ports_of_settles : t.enc.motor = { supersede s.enc.motor with reading := true } ∧
    t.enc.coarse = { supersede s.enc.coarse with reading := true } := by
  obtain ⟨-, -, -, henc, -⟩ := ht.frame
  rw [henc, sampleInstant_enc, hu.enc]
  exact ⟨rfl, rfl⟩

include hu ht in
theorem failedRun_of_settles (h : s.enc.motor.reading = true) : t.pos.failedRun = (countFailed s.pos).1.failedRun := by
  obtain ⟨-, -, -, -, hpos, -⟩ := ht.frame
  have hrun : (countFailed u.pos).1.failedRun = (countFailed s.pos).1.failedRun := by
    rw [hu.undisturbed.pos]
    unfold countFailed
    split <;> rfl
  rw [hpos, sampleInstant_failedRun synced i u (by rw [hu.enc, h]), hrun]

include hu ht in
theorem motorEncoder_of_settles (h : s.enc.motor.reading = true) (hf : s.enc.motor.failRun = 2) :
    kindHas t.faults.active .motorEncoder = true := by
  rw [faults_of_settles ht]
  exact sampleInstant_active synced i u (by decide) (by decide) (by decide)
    (closeEpoch_motorEncoder i u (by rw [hu.enc, h]) (by rw [hu.enc, hf]))

include hu ht in
theorem coarseEncoder_of_settles (h : s.enc.coarse.reading = true) (hf : s.enc.coarse.failRun = 2) :
    kindHas t.faults.active .coarseEncoder = true := by
  rw [faults_of_settles ht]
  exact sampleInstant_active synced i u (by decide) (by decide) (by decide)
    (closeEpoch_coarseEncoder i u (by rw [hu.enc, h]) (by rw [hu.enc, hf]))

include hu ht in
theorem sweep_of_settles (hm : s.enc.motor.reading = false) (hc : s.enc.coarse.reading = false) :
    (s.node.state = .calibrating → t.sweep.skipped =
      if s.work.considered = true ∧ s.work.evaluated = false then min 65535 (s.sweep.skipped + 1) else s.sweep.skipped) ∧
    (s.node.state ≠ .calibrating → t.sweep = s.sweep) := by
  obtain ⟨-, -, -, -, -, -, -, -, -, -, hsweep, -⟩ := ht.frame
  have hstate := hu.undisturbed.calibrating
  obtain ⟨hin, hout⟩ := sampleInstant_sweep synced (i := i) (u := u) (by rw [hu.enc, hm]) (by rw [hu.enc, hc])
  rw [hu.work, hu.undisturbed.sweep] at hin
  rw [hu.undisturbed.sweep] at hout
  rw [hsweep]
  exact ⟨fun h => hin (hstate.mpr h), fun h => hout fun hs => h (hstate.mp hs)⟩

theorem considered_of_settles (ht : Settles s (sampleInstant synced i u) t) :
    t.work.considered = (t.node.state == .calibrating) := by
  obtain ⟨-, -, -, -, -, hwork, -, -, -, hnode, -⟩ := ht.frame
  rw [hwork, hnode, sampleInstant_work]

end

theorem sync_free_of_ne {x : SyncState} (h : x ≠ .synced) : x = .free := by
  cases x with
  | synced => exact absurd rfl h
  | free => rfl

/-- Every command that marks an instant leaves a state that one of the three kinds of instant settles in. -/
theorem exec_instant {c : Instr} {i : SampleInputs} {s : State} (hr : s.epoch.running = true)
    (h : (c = .smpRisingEdge i ∧ (s.epoch.sync = .synced ∨ s.epoch.rejoinArmed = true)) ∨
      (c = .freePeriodExpiry i ∧ ¬(s.epoch.sync = .synced ∨ s.epoch.rejoinArmed = true) ∧ s.epoch.timer = .running) ∨
      (c = .sampleLineStuck i ∧ (s.epoch.sync = .synced ∨ s.epoch.rejoinArmed = true) ∧ s.epoch.lowWatch = true)) :
    ∃ synced u t, exec c s = .next t ∧ Prepared s u ∧ Settles s (sampleInstant synced i u) t := by
  rcases h with ⟨rfl, ha⟩ | ⟨rfl, ha, ht⟩ | ⟨rfl, ha, hw⟩
  · by_cases hs : s.epoch.sync = .synced
    · have hu : Prepared s (edgeSeen s s.epoch) := .of_line s _ rfl rfl rfl
      exact ⟨true, edgeSeen s s.epoch, _, exec_risingEdge_synced i hr hs, hu, conclude_settles s _⟩
    · have hfree := sync_free_of_ne hs
      have hu : Prepared s (edgeSeen s (rejoined s.epoch)) := .of_line s _ rfl rfl rfl
      exact ⟨true, edgeSeen s (rejoined s.epoch), _, exec_risingEdge_rejoin i hr hfree (ha.resolve_left hs), hu,
        conclude_settles s _⟩
  · have hsilent : s.epoch.answers = false := (answers_eq_false_iff _).mpr
      ⟨sync_free_of_ne fun h => ha (.inl h), by simpa using fun h => ha (.inr h)⟩
    have hu : Prepared s ((s.setPins s.pins).setEpoch s.epoch) := .of_line s _ rfl rfl rfl
    exact ⟨false, (s.setPins s.pins).setEpoch s.epoch, _, exec_freePeriodExpiry i hr hsilent ht, hu, conclude_settles s _⟩
  · have hu : Prepared s (lineFreed s) := .stuck s
    exact ⟨false, lineFreed s, _, exec_sampleLineStuck i hr ((answers_iff _).mpr ha) hw, hu, conclude_settles s _⟩

/-- Settles O34: the instant of any kind, read off the parts it hands to. -/
theorem sampleInstantHandsOn : Obligations.SampleInstantHandsOn := by
  unfold Obligations.SampleInstantHandsOn
  intro c i s hr answers hc edges beacon ended port
  obtain ⟨synced, u, t, he, hu, ht⟩ := exec_instant hr hc
  have hquiet := quietRun_of_settles hu ht
  obtain ⟨hmotor, hcoarse⟩ := ports_of_settles hu ht
  have hself := selfCheck_of_settles hu ht
  rw [presentPort_satSucc, presentPort_satSucc] at hself
  refine ⟨t, he, alignment_of_aligned hu ht, alignment_of_unjoined hu ht, alignment_of_joined hu ht,
    link_of_silent hu ht, beacon_of_due hu ht, beacon_of_early hu ht, ?_, ?_, instants_of_settles hu ht,
    hself, hmotor.trans (supersede_reading _), hcoarse.trans (supersede_reading _),
    failedRun_of_settles hu ht, motorEncoder_of_settles hu ht, coarseEncoder_of_settles hu ht,
    fun hm hc => (sweep_of_settles hu ht hm hc).1, fun hm hc => (sweep_of_settles hu ht hm hc).2, considered_of_settles ht⟩
  · intro hn
    rw [hquiet, hn, Option.map_none]
  · intro n hn
    refine ⟨by rw [hquiet, hn, Option.map_some], ?_⟩
    rintro rfl
    exact addressClash_of_settles hu ht hn

end Sys2Proof.Machine
end

section
/-! The requests as one rule over their codes: how a command reaches its handler, the reads (O53), and the refusals that
come before a request's own values (O54). -/

namespace Sys2Proof.Machine

/-! ### From a command to its handler -/

/-- The handler of a request code. -/
def handlerOf : Nat → Handler
  | 0x01 => sized 0 (reads identifyData)
  | 0x02 => readsPart 1 statusData
  | 0x03 => sized 0 (reads faultsData)
  | 0x04 => readsPart 3 restoreData
  | 0x05 => readsPart 2 homingData
  | 0x06 => readsPart 5 sweepData
  | 0x07 => readPeer
  | 0x08 => calRead
  | 0x09 => setupRead
  | 0x10 => clearFaultsHandler
  | 0x11 => releaseGrant
  | 0x12 => releaseWithdraw
  | 0x13 => homeArm
  | 0x14 => homeLearn
  | 0x15 => homeAbort
  | 0x16 => zeroHere
  | 0x17 => acceptRestore
  | 0x18 => sweepStart
  | 0x19 => sweepEnd
  | 0x1A => sweepAbort
  | 0x1B => calWrite
  | 0x1C => setupWrite
  | 0x1D => storeHandler
  | 0x1E => restartHandler
  | _ => fun _ s => refuse .unknownRequest s

theorem exec_request {c : Instr} {code : Nat} (h : requestCode c = some code) (s : State) :
    exec c s = .next (conclude s (serve code (handlerOf code) s)) := by
  unfold requestCode at h
  split at h
  all_goals cases h <;> rfl

theorem requestCode_range {c : Instr} {code : Nat} (h : requestCode c = some code) :
    (1 ≤ code ∧ code ≤ 9) ∨ (0x10 ≤ code ∧ code ≤ 0x1E) := by
  unfold requestCode at h
  split at h
  all_goals cases h <;> decide

section
variable {s : State} {r : Request} {rest : List Request} {c : Instr} {code : Nat} (w : Waiting s r rest)
  (hc : requestCode c = some code) (hr : r.code = code)
include w hc hr

/-- A request answered with no effect of its own. -/
theorem Waiting.exec_answers {v : Verdict} (hj : judge (handlerOf code) r (s.popped rest) = (s.popped rest, v)) :
    exec c s = .next (answered s r rest v (startsAgain r.code v)) :=
  (exec_request hc s).trans (w.answers code (handlerOf code) hr v hj)

theorem Waiting.exec_refuses {why : RefusalReason}
    (hj : judge (handlerOf code) r (s.popped rest) = refuse why (s.popped rest)) :
    exec c s = .next (answered s r rest (.refused why)) := by
  have h := w.exec_answers hc hr hj
  rwa [startsAgain_refused] at h

theorem Waiting.exec_reads {data : List Byte}
    (hj : judge (handlerOf code) r (s.popped rest) = (s.popped rest, .done data)) :
    exec c s = .next (answered s r rest (.done data)) := by
  have h := w.exec_answers hc hr hj
  rwa [startsAgain_done] at h

/-- A request with an effect: the event settles in the state that the effect and the reply left. -/
theorem Waiting.exec_settles {t' : State} {v : Verdict}
    (hj : judge (handlerOf code) r (s.popped rest) = (t', v)) :
    ∃ t, exec c s = .next t ∧ Settles s (appendReply (replyTo t' r v (startsAgain r.code v)) t') t :=
  ⟨_, (exec_request hc s).trans (w.acts code (handlerOf code) hr t' v hj), conclude_settles _ _⟩

end

/-! ### A request's bytes -/

theorem Request.code_of_payload {r : Request} {b : Byte} {l : List Byte} (h : r.payload = b :: l) : r.code = b.toNat := by
  simp [Request.code, byteAt, h]

theorem Request.args_of_payload {r : Request} {b : Byte} {l : List Byte} (h : r.payload = b :: l) : r.args = l := by
  simp [Request.args, h]

theorem Request.arg_zero {r : Request} {a : Byte} {l : List Byte} (h : r.args = a :: l) : r.arg 0 = a.toNat := by
  simp [Request.arg, byteAt, h]

theorem Request.arg_one {r : Request} {a b : Byte} {l : List Byte} (h : r.args = a :: b :: l) : r.arg 1 = b.toNat := by
  simp [Request.arg, byteAt, h]

theorem Request.arg_two {r : Request} {a b d : Byte} {l : List Byte} (h : r.args = a :: b :: d :: l) : r.arg 2 = d.toNat := by
  simp [Request.arg, byteAt, h]

theorem sized_of {n : Nat} {h : Handler} {r : Request} (hn : r.args.length = n) (s : State) : sized n h r s = h r s :=
  if_pos hn

theorem sized_refuses {n : Nat} {h : Handler} {r : Request} (hn : r.args.length ≠ n) (s : State) :
    sized n h r s = refuse .badValue s := if_neg hn

theorem readsPart_of {last : Nat} {data : Request → State → List Byte} {r : Request} {part : Byte} (h : r.args = [part])
    (hp : part.toNat ≤ last) (s : State) : readsPart last data r s = (s, .done (data r s)) :=
  (sized_of (by rw [h]; rfl) s).trans (if_pos (by rwa [Request.arg_zero h]))

theorem readsPart_refuses {last : Nat} {data : Request → State → List Byte} {r : Request} {part : Byte} (h : r.args = [part])
    (hp : last < part.toNat) (s : State) : readsPart last data r s = refuse .badValue s :=
  (sized_of (by rw [h]; rfl) s).trans (if_neg (by rw [Request.arg_zero h]; omega))

theorem readPeer_of {r : Request} {a part : Byte} (h : r.args = [a, part]) (s : State) : readPeer r s =
    if part.toNat ≤ 1 ∧ s.setup.latched.members.contains (addressOfByte a) = true then
      (s, .done (peerData part.toNat (s.setup.latched.source == some (addressOfByte a)) s.coupling
        ((s.peers.entry? (addressOfByte a)).getD (PeerEntry.start (addressOfByte a)))))
    else refuse .badValue s := by
  rw [readPeer, sized_of (by rw [h]; rfl)]
  simp only [Request.arg_one h, show byteAt r.args 0 = a by simp [byteAt, h]]

theorem addressOfByte_of_lt {a : Byte} (h : a.toNat < 15) : addressOfByte a = BitVec.ofNat 4 a.toNat := if_pos (by omega)

/-! ### The reads (O53) -/

section
variable {s : State} {r : Request} {rest : List Request} (w : Waiting s r rest)
include w

theorem exec_identify (hp : r.payload = [0x01#8]) : exec .identify s = .next (answered s r rest (.done
    ([0x41#8, BitVec.ofNat 8 s.straps.address.toNat, BitVec.ofNat 8 s.straps.axis.toNat,
      if s.straps.fast then 1#8 else 0#8] ++ selfCheckBytes s.selfCheck))) := by
  have hc : r.code = 0x01 := Request.code_of_payload hp
  have hfast : codeByte (flag s.straps.fast) = if s.straps.fast then 1#8 else 0#8 := by cases s.straps.fast <;> rfl
  refine w.exec_reads rfl hc ?_
  rw [judge_anytime s rest _ (by rw [hc]; rfl) (by rw [hc]; rfl)]
  refine (sized_of (by rw [Request.args_of_payload hp]; rfl) _).trans ?_
  rw [← hfast]
  rfl

theorem exec_readStatus {part : Byte} (hp : r.payload = [0x02#8, part]) (hpart : part.toNat ≤ 1) :
    exec .readStatus s = .next (answered s r rest (.done (statusData r s))) := by
  have hc : r.code = 0x02 := Request.code_of_payload hp
  refine w.exec_reads rfl hc ?_
  rw [judge_anytime s rest _ (by rw [hc]; rfl) (by rw [hc]; rfl)]
  exact readsPart_of (Request.args_of_payload hp) hpart _

variable (j : Judged s r)
include j

theorem exec_readFaults (hp : r.payload = [0x03#8]) :
    exec .readFaults s = .next (answered s r rest (.done (faultsData r s))) := by
  refine w.exec_reads rfl (Request.code_of_payload hp) ?_
  rw [j.handled rest]
  exact sized_of (by rw [Request.args_of_payload hp]; rfl) _

theorem exec_readRestore {part : Byte} (hp : r.payload = [0x04#8, part]) (hpart : part.toNat ≤ 3) :
    exec .readRestore s = .next (answered s r rest (.done (restoreData r s))) := by
  refine w.exec_reads rfl (Request.code_of_payload hp) ?_
  rw [j.handled rest]
  exact readsPart_of (Request.args_of_payload hp) hpart _

theorem exec_readHoming {part : Byte} (hp : r.payload = [0x05#8, part]) (hpart : part.toNat ≤ 2) :
    exec .readHoming s = .next (answered s r rest (.done (homingData r s))) := by
  refine w.exec_reads rfl (Request.code_of_payload hp) ?_
  rw [j.handled rest]
  exact readsPart_of (Request.args_of_payload hp) hpart _

theorem exec_readSweep {part : Byte} (hp : r.payload = [0x06#8, part]) (hpart : part.toNat ≤ 5) :
    exec .readSweep s = .next (answered s r rest (.done (sweepData r s))) := by
  refine w.exec_reads rfl (Request.code_of_payload hp) ?_
  rw [j.handled rest]
  exact readsPart_of (Request.args_of_payload hp) hpart _

theorem exec_readPeer {a part : Byte} {e : PeerEntry} (hpart : part.toNat ≤ 1) (ha : a.toNat < 15)
    (hp : r.payload = [0x07#8, a, part]) (hm : s.setup.latched.members.contains (BitVec.ofNat 4 a.toNat) = true)
    (he : s.peers.entry? (BitVec.ofNat 4 a.toNat) = some e) :
    exec .readPeer s = .next (answered s r rest (.done
      (peerData part.toNat (s.setup.latched.source == some (BitVec.ofNat 4 a.toNat)) s.coupling e))) := by
  refine w.exec_reads rfl (Request.code_of_payload hp) ?_
  refine (j.handled rest _).trans ((readPeer_of (Request.args_of_payload hp) _).trans ?_)
  rw [addressOfByte_of_lt ha, if_pos ⟨hpart, hm⟩, show (s.popped rest).peers = s.peers from rfl, he]
  rfl

theorem exec_readPeer_stranger {a part : Byte} (ha : a.toNat < 15) (hp : r.payload = [0x07#8, a, part])
    (hm : s.setup.latched.members.contains (BitVec.ofNat 4 a.toNat) = false) :
    exec .readPeer s = .next (answered s r rest (.refused .badValue)) := by
  refine w.exec_refuses rfl (Request.code_of_payload hp) ?_
  refine (j.handled rest _).trans ((readPeer_of (Request.args_of_payload hp) _).trans ?_)
  rw [addressOfByte_of_lt ha]
  exact if_neg fun h => absurd (hm.symm.trans h.2) Bool.false_ne_true

end

theorem calRead_of {r : Request} {id idx : Byte} (h : r.args = [id, idx]) (s : State) : calRead r s =
    match calFieldBytes s.cal.data id.toNat idx.toNat with
    | none => refuse .badValue s
    | some v => (s, .done ([id, idx,
        packed [(1, flag s.cal.valid), (1, flag s.cal.dirty), (1, flag (calFieldUnset s.cal.data id.toNat))]] ++ v)) := by
  rw [calRead, sized_of (by rw [h]; rfl)]
  simp only [Request.arg_zero h, Request.arg_one h, show byteAt r.args 0 = id by simp [byteAt, h],
    show byteAt r.args 1 = idx by simp [byteAt, h]] <;> rfl

theorem setupRead_of {r : Request} {id kind sel : Byte} (h : r.args = [id, kind, sel]) (s : State) : setupRead r s =
    if 1 < sel.toNat then refuse .badValue s
    else
      match setupFieldBytes (if sel.toNat = 0 then s.setup.image else s.setup.latched) id.toNat kind.toNat with
      | none => refuse .badValue s
      | some v => (s, .done ([id, kind, codeByte (flag s.setup.dirty)] ++ v)) := by
  rw [setupRead, sized_of (by rw [h]; rfl)]
  simp only [Request.arg_zero h, Request.arg_one h, Request.arg_two h, show byteAt r.args 0 = id by simp [byteAt, h],
    show byteAt r.args 1 = kind by simp [byteAt, h]] <;> rfl

/-- Which fields and kinds exist does not depend on the setup. -/
theorem setupFieldBytes_none_of {x y : Setup} {id kind : Nat} (h : setupFieldBytes x id kind = none) :
    setupFieldBytes y id kind = none := by
  unfold setupFieldBytes at h ⊢
  split
  case h_9 => simpa using h
  case h_19 => rfl
  all_goals exact absurd h (Option.some_ne_none _)

/-- In STARTUP only IDENTIFY and READ_STATUS are taken. -/
theorem judge_startup {s : State} {r : Request} (rest : List Request) (h : Handler) (hs : s.node.state = .startup)
    (hc : takenInStartup r.code = false) : judge h r (s.popped rest) = refuse .notReady (s.popped rest) :=
  if_pos ⟨hs, hc⟩

theorem judge_running {s : State} {r : Request} (rest : List Request) (h : Handler) (hs : s.node.state ≠ .startup)
    (hc : singleNode r.code = false) : judge h r (s.popped rest) = h r (s.popped rest) :=
  Judged.handled ⟨hs, fun hx => absurd (hc.symm.trans hx) Bool.false_ne_true⟩ rest h

section
variable {s : State} {r : Request} {rest : List Request} (w : Waiting s r rest)
include w

theorem exec_calRead {id idx : Byte} (hp : r.payload = [0x08#8, id, idx]) :
    (s.node.state = .startup → exec .calRead s = .next (answered s r rest (.refused .notReady))) ∧
    (s.node.state ≠ .startup → calFieldBytes s.cal.data id.toNat idx.toNat = none →
      exec .calRead s = .next (answered s r rest (.refused .badValue))) ∧
    (∀ v, s.node.state ≠ .startup → calFieldBytes s.cal.data id.toNat idx.toNat = some v →
      exec .calRead s = .next (answered s r rest (.done
        ([id, idx, packed [(1, flag s.cal.valid), (1, flag s.cal.dirty), (1, flag (calFieldUnset s.cal.data id.toNat))]] ++ v)))) := by
  have hc : r.code = 0x08 := Request.code_of_payload hp
  have hrun := calRead_of (Request.args_of_payload hp) (s.popped rest)
  have hfield : calFieldBytes (s.popped rest).cal.data id.toNat idx.toNat = calFieldBytes s.cal.data id.toNat idx.toNat := rfl
  rw [hfield] at hrun
  refine ⟨fun hs => ?_, fun hs hn => ?_, fun v hs hv => ?_⟩
  · exact w.exec_refuses rfl hc (judge_startup rest _ hs (by rw [hc]; rfl))
  · rw [hn] at hrun
    exact w.exec_refuses rfl hc ((judge_running rest _ hs (by rw [hc]; rfl)).trans hrun)
  · rw [hv] at hrun
    exact w.exec_reads rfl hc ((judge_running rest _ hs (by rw [hc]; rfl)).trans hrun)

theorem exec_setupRead {id kind sel : Byte} (hp : r.payload = [0x09#8, id, kind, sel]) :
    (s.node.state = .startup → exec .setupRead s = .next (answered s r rest (.refused .notReady))) ∧
    (s.node.state ≠ .startup → (1 < sel.toNat ∨ setupFieldBytes s.setup.image id.toNat kind.toNat = none) →
      exec .setupRead s = .next (answered s r rest (.refused .badValue))) ∧
    (∀ v, s.node.state ≠ .startup → sel = 0#8 → setupFieldBytes s.setup.image id.toNat kind.toNat = some v →
      exec .setupRead s = .next (answered s r rest (.done ([id, kind, if s.setup.dirty then 1#8 else 0#8] ++ v)))) ∧
    (∀ v, s.node.state ≠ .startup → sel = 1#8 → setupFieldBytes s.setup.latched id.toNat kind.toNat = some v →
      exec .setupRead s = .next (answered s r rest (.done ([id, kind, if s.setup.dirty then 1#8 else 0#8] ++ v)))) := by
  have hc : r.code = 0x09 := Request.code_of_payload hp
  have hrun := setupRead_of (Request.args_of_payload hp) (s.popped rest)
  have hdirty : codeByte (flag (s.popped rest).setup.dirty) = if s.setup.dirty then 1#8 else 0#8 := by
    cases h : s.setup.dirty <;> simp [State.popped, h, codeByte, flag]
  rw [hdirty] at hrun
  refine ⟨fun hs => ?_, fun hs hn => ?_, fun v hs hsel hv => ?_, fun v hs hsel hv => ?_⟩
  · exact w.exec_refuses rfl hc (judge_startup rest _ hs (by rw [hc]; rfl))
  · refine w.exec_refuses rfl hc ((judge_running rest _ hs (by rw [hc]; rfl)).trans (hrun.trans ?_))
    by_cases hsel : 1 < sel.toNat
    · rw [if_pos hsel]
    · have hnone : ∀ x, setupFieldBytes x id.toNat kind.toNat = none := fun x =>
        setupFieldBytes_none_of (hn.resolve_left hsel)
      rw [if_neg hsel, hnone]
  · rw [hsel, if_neg (by decide), if_pos (by decide), show (s.popped rest).setup.image = s.setup.image from rfl, hv] at hrun
    exact w.exec_reads rfl hc ((judge_running rest _ hs (by rw [hc]; rfl)).trans hrun)
  · rw [hsel, if_neg (by decide), if_neg (by decide), show (s.popped rest).setup.latched = s.setup.latched from rfl, hv] at hrun
    exact w.exec_reads rfl hc ((judge_running rest _ hs (by rw [hc]; rfl)).trans hrun)

end

/-- Settles O53: each read reaches its handler, which answers and changes nothing. -/
theorem readRequests : Obligations.ReadRequests := by
  unfold Obligations.ReadRequests
  refine ⟨fun s r rest w => ⟨exec_identify w, ?_, ?_, fun j => ⟨exec_readFaults w j, ?_, ?_, ?_, ?_,
    fun part hpart hp => exec_readHoming w j hp hpart, fun part hpart hp => exec_readSweep w j hp hpart,
    fun a part e hpart ha hp hm he => exec_readPeer w j hpart ha hp hm he,
    fun a part ha hp hm => exec_readPeer_stranger w j ha hp hm⟩⟩,
    fun s r rest w => ⟨fun id idx hp => exec_calRead w hp, fun id kind sel hp => exec_setupRead w hp⟩⟩
  · intro hp
    rw [exec_readStatus w hp (by decide), statusData, arg_of_payload hp, if_pos (by decide)]
  · intro hp
    rw [exec_readStatus w hp (by decide), statusData, arg_of_payload hp, if_neg (by decide)]
  all_goals
    intro hp
    rw [exec_readRestore w j hp (by decide), restoreData, arg_of_payload hp]
    rfl

/-! ### The refusals (O54) -/

theorem execUnknown_refuses {s : State} {r : Request} {rest : List Request} (w : Waiting s r rest)
    (h : knownCode r.code = false) : exec .unknownRequest s = .next (answered s r rest (.refused .unknownRequest)) := by
  have hserve : serveUnknown s =
      appendReply (replyTo (s.popped rest) r (.refused .unknownRequest) false) (s.popped rest) := by
    simp [serveUnknown, w.takeable, h, w.pop]
  exact (congrArg (fun t => Host.Outcome.next (conclude s t)) hserve).trans (next_quiet (.inl ⟨rfl, rfl⟩) rfl rfl)

section
variable {r : Request} {p : State} {code : Nat}

theorem inRestoring_iff : p.inRestoring = true ↔ ∃ sub, p.node.state = .restoring sub := by
  unfold State.inRestoring
  cases p.node.state <;> simp

/-- A node in RESTORING takes none of the requests 0x11 to 0x1D (R190). -/
theorem handlerOf_restoring (h : p.inRestoring = true) (hlow : 0x11 ≤ code) (hhigh : code ≤ 0x1D) :
    handlerOf code r p = refuse .wrongState p := by
  obtain ⟨sub, hs⟩ := inRestoring_iff.mp h
  have hhoming : p.inHoming = false := by simp [State.inHoming, hs]
  have hoperating : p.operating = false := by simp [State.operating, hhoming, hs]
  interval_cases code
  · simp [handlerOf, releaseGrant, h]
  · simp [handlerOf, releaseWithdraw, h]
  · simp [handlerOf, homeArm, h, hoperating]
  · simp [handlerOf, homeLearn, hs, hoperating]
  · simp [handlerOf, homeAbort, hhoming]
  · simp [handlerOf, zeroHere, h]
  · simp [handlerOf, acceptRestore, hs]
  · simp [handlerOf, sweepStart, hs, hoperating]
  · simp [handlerOf, sweepEnd, hs]
  · simp [handlerOf, sweepAbort, hs]
  · simp [handlerOf, calWrite, h]
  · simp [handlerOf, setupWrite, h]
  · simp [handlerOf, storeHandler, h]

theorem handlerOf_operating (h : p.operating = true) (hc : code = 0x13 ∨ code = 0x14 ∨ code = 0x18) :
    handlerOf code r p = refuse .busy p := by
  rcases hc with rfl | rfl | rfl
  · simp [handlerOf, homeArm, h]
  · simp [handlerOf, homeLearn, h]
  · simp [handlerOf, sweepStart, h]

theorem zeroHere_operating (h : p.operating = true) : zeroHere r p = refuse .wrongState p := by
  simp [zeroHere, h]

theorem operating_of_state (h : p.node.state = .unreferenced ∨ p.node.state = .referenced) : p.operating = false := by
  rcases h with h | h <;> simp [State.operating, State.inHoming, h]

theorem inRestoring_of_state (h : p.node.state = .unreferenced ∨ p.node.state = .referenced) : p.inRestoring = false := by
  rcases h with h | h <;> simp [State.inRestoring, h]

theorem handlerOf_unreferenced (h : p.node.state = .unreferenced) (hc : code = 0x14 ∨ code = 0x18) :
    handlerOf code r p = refuse .wrongState p := by
  have hoperating := operating_of_state (.inl h)
  rcases hc with rfl | rfl
  · simp [handlerOf, homeLearn, h, hoperating]
  · simp [handlerOf, sweepStart, h, hoperating]

theorem handlerOf_notCalibrating (h : p.node.state ≠ .calibrating) (hc : code = 0x19 ∨ code = 0x1A) :
    handlerOf code r p = refuse .wrongState p := by
  rcases hc with rfl | rfl
  · simp [handlerOf, sweepEnd, h]
  · simp [handlerOf, sweepAbort, h]

/-! ### The sizes of the arguments -/

/-- The argument size of a request whose size is the same for every use of it (R162). -/
def argSize (code : Nat) : Nat :=
  if code ∈ [0x02, 0x04, 0x05, 0x06, 0x11, 0x17, 0x1D] then 1 else if code ∈ [0x07, 0x08] then 2 else if code = 0x09 then 3 else 0

theorem handlerOf_sized (hn : r.args.length ≠ argSize code) (hlow : 1 ≤ code) (hc : code ≤ 9 ∨ code = 0x10 ∨ code = 0x1E) :
    handlerOf code r p = refuse .badValue p := by
  rcases hc with hc | rfl | rfl
  · interval_cases code
    all_goals exact if_neg hn
  · exact if_neg hn
  · exact if_pos hn

theorem handlerOf_sized_grant (h : p.inRestoring = false) (hn : r.args.length ≠ argSize code)
    (hc : code = 0x11 ∨ code = 0x12 ∨ code = 0x1D) : handlerOf code r p = refuse .badValue p := by
  rcases hc with rfl | rfl | rfl
  · simp [handlerOf, releaseGrant, h, show r.args.length ≠ 1 from hn]
  · simp [handlerOf, releaseWithdraw, h, show r.args.length ≠ 0 from hn]
  · simp [handlerOf, storeHandler, h, storeTarget, show r.args.length ≠ 1 from hn]

theorem handlerOf_sized_idle (h : p.inRestoring = false) (ho : p.operating = false) (hn : r.args.length ≠ argSize code)
    (hc : code = 0x13 ∨ code = 0x16) : handlerOf code r p = refuse .badValue p := by
  rcases hc with rfl | rfl
  · simp [handlerOf, homeArm, h, ho, show r.args.length ≠ 0 from hn]
  · simp [handlerOf, zeroHere, h, ho, show r.args.length ≠ 0 from hn]

theorem handlerOf_sized_referenced (h : p.node.state = .referenced) (hn : r.args.length ≠ argSize code)
    (hc : code = 0x14 ∨ code = 0x18) : handlerOf code r p = refuse .badValue p := by
  have hoperating := operating_of_state (.inr h)
  rcases hc with rfl | rfl
  · simp [handlerOf, homeLearn, h, hoperating, show r.args.length ≠ 0 from hn]
  · simp [handlerOf, sweepStart, h, hoperating, show r.args.length ≠ 0 from hn]

theorem homeAbort_sized (h : p.inHoming = true) (hn : r.args.length ≠ 0) : homeAbort r p = refuse .badValue p := by
  simp [homeAbort, h, hn]

theorem handlerOf_sized_calibrating (h : p.node.state = .calibrating) (hn : r.args.length ≠ argSize code)
    (hc : code = 0x19 ∨ code = 0x1A) : handlerOf code r p = refuse .badValue p := by
  rcases hc with rfl | rfl
  · simp [handlerOf, sweepEnd, h, show r.args.length ≠ 0 from hn]
  · simp [handlerOf, sweepAbort, h, show r.args.length ≠ 0 from hn]

/-- A coupled node's source stands in the way of ZERO_HERE and ACCEPT_RESTORE unless it is absolute and matched (R70,
R98). -/
theorem sourceNotAbsolute_iff : p.sourceNotAbsolute = true ↔ p.setup.latched.source.isSome = true ∧
    (p.coupling.lastAbsolute ≠ some true ∨ p.active .couplingLost = true) := by
  simp [State.sourceNotAbsolute, State.coupled]

theorem acceptRestore_sized {x : ConflictRecord} (h : p.node.state = .unreferenced) (hx : p.node.conflict = some x)
    (hsource : p.sourceNotAbsolute = false) (hn : r.args.length ≠ 1) : acceptRestore r p = refuse .badValue p := by
  simp [acceptRestore, h, hx, hsource, choiceOk, hn]

end

section
variable {s : State} {r : Request} {rest : List Request} {c : Instr} {code : Nat} (w : Waiting s r rest)
  (hc : requestCode c = some code) (hr : r.code = code)
include w hc hr

/-- A judged request that its handler refuses. -/
theorem Waiting.judged_refuses (j : Judged s r) {why : RefusalReason}
    (hj : handlerOf code r (s.popped rest) = refuse why (s.popped rest)) :
    exec c s = .next (answered s r rest (.refused why)) := w.exec_refuses hc hr ((j.handled rest _).trans hj)

/-- The refusals by the node's state. -/
theorem refusals_by_state (j : Judged s r) :
    (s.inRestoring = true → 0x11 ≤ code → code ≤ 0x1D → exec c s = .next (answered s r rest (.refused .wrongState))) ∧
    (s.operating = true → code = 0x13 ∨ code = 0x14 ∨ code = 0x18 →
      exec c s = .next (answered s r rest (.refused .busy))) ∧
    (s.operating = true → code = 0x16 → exec c s = .next (answered s r rest (.refused .wrongState))) ∧
    (s.node.state = .unreferenced → code = 0x14 ∨ code = 0x18 →
      exec c s = .next (answered s r rest (.refused .wrongState))) ∧
    (s.inHoming = false → code = 0x15 → exec c s = .next (answered s r rest (.refused .wrongState))) ∧
    (s.node.state ≠ .unreferenced → code = 0x17 → exec c s = .next (answered s r rest (.refused .wrongState))) ∧
    (s.node.state ≠ .calibrating → code = 0x19 ∨ code = 0x1A →
      exec c s = .next (answered s r rest (.refused .wrongState))) ∧
    (s.node.state = .unreferenced → s.node.conflict = none → code = 0x17 →
      exec c s = .next (answered s r rest (.refused .noConflict))) := by
  refine ⟨fun h hlow hhigh => ?_, fun h hk => ?_, fun h hk => ?_, fun h hk => ?_, fun h hk => ?_, fun h hk => ?_,
    fun h hk => ?_, fun h hx hk => ?_⟩
  · exact w.judged_refuses hc hr j (handlerOf_restoring h hlow hhigh)
  · exact w.judged_refuses hc hr j (handlerOf_operating h hk)
  · subst hk
    exact w.judged_refuses hc hr j (zeroHere_operating h)
  · exact w.judged_refuses hc hr j (handlerOf_unreferenced h hk)
  · subst hk
    exact w.judged_refuses hc hr j (if_pos (congrArg not h))
  · subst hk
    exact w.judged_refuses hc hr j (if_pos h)
  · exact w.judged_refuses hc hr j (handlerOf_notCalibrating h hk)
  · subst hk
    refine w.judged_refuses hc hr j ?_
    simp [handlerOf, acceptRestore, State.popped, h, hx]

/-- The refusals by the size of the arguments. -/
theorem refusals_by_size (hn : r.args.length ≠ argSize code) (hlow : 1 ≤ code) :
    (code ≤ 0x02 → exec c s = .next (answered s r rest (.refused .badValue))) ∧
    (Judged s r →
      (code ≤ 0x10 ∨ code = 0x1E → exec c s = .next (answered s r rest (.refused .badValue))) ∧
      (s.inRestoring = false → code = 0x11 ∨ code = 0x12 ∨ code = 0x1D →
        exec c s = .next (answered s r rest (.refused .badValue))) ∧
      (s.inRestoring = false → s.operating = false → code = 0x13 ∨ code = 0x16 →
        exec c s = .next (answered s r rest (.refused .badValue))) ∧
      (s.node.state = .referenced → code = 0x14 ∨ code = 0x18 →
        exec c s = .next (answered s r rest (.refused .badValue))) ∧
      (s.inHoming = true → code = 0x15 → exec c s = .next (answered s r rest (.refused .badValue))) ∧
      (s.node.state = .unreferenced → s.node.conflict.isSome = true →
        s.setup.latched.source = none ∨ (s.coupling.lastAbsolute = some true ∧ s.active .couplingLost = false) →
        code = 0x17 → exec c s = .next (answered s r rest (.refused .badValue))) ∧
      (s.node.state = .calibrating → code = 0x19 ∨ code = 0x1A →
        exec c s = .next (answered s r rest (.refused .badValue)))) := by
  refine ⟨fun h2 => ?_, fun j => ⟨fun hk => ?_, fun h hk => ?_, fun h ho hk => ?_, fun h hk => ?_, fun h hk => ?_,
    fun h hx hsource hk => ?_, fun h hk => ?_⟩⟩
  · have htaken : takenInStartup code = true ∧ singleNode code = false := by interval_cases code <;> decide
    refine w.exec_refuses hc hr ((judge_anytime s rest _ (by rw [hr, htaken.1]) (by rw [hr, htaken.2])).trans ?_)
    exact handlerOf_sized hn hlow (.inl (by omega))
  · have hrange := requestCode_range hc
    exact w.judged_refuses hc hr j (handlerOf_sized hn hlow (by omega))
  · exact w.judged_refuses hc hr j (handlerOf_sized_grant h hn hk)
  · exact w.judged_refuses hc hr j (handlerOf_sized_idle h ho hn hk)
  · exact w.judged_refuses hc hr j (handlerOf_sized_referenced h hn hk)
  · subst hk
    exact w.judged_refuses hc hr j (homeAbort_sized h hn)
  · subst hk
    obtain ⟨x, hx⟩ := Option.isSome_iff_exists.mp hx
    have hfree : s.sourceNotAbsolute = false := by
      rw [← Bool.not_eq_true, sourceNotAbsolute_iff]
      rintro ⟨hsome, hblocked⟩
      rcases hsource with hnone | ⟨habs, hlost⟩
      · simp [hnone] at hsome
      · exact hblocked.elim (absurd habs) fun hl => by simp [hlost] at hl
    exact w.judged_refuses hc hr j (acceptRestore_sized (p := s.popped rest) h hx hfree hn)
  · exact w.judged_refuses hc hr j (handlerOf_sized_calibrating h hn hk)

/-- The refusals by a part that a read does not have. -/
theorem refusals_by_part (part : Byte) :
    (r.args = [part] → code = 0x02 → 1 < part.toNat → exec c s = .next (answered s r rest (.refused .badValue))) ∧
    (Judged s r → r.args = [part] → (if code = 0x04 then 3 else if code = 0x05 then 2 else 5) < part.toNat →
      code = 0x04 ∨ code = 0x05 ∨ code = 0x06 → exec c s = .next (answered s r rest (.refused .badValue))) ∧
    (Judged s r → ∀ a : Byte, r.args = [a, part] → code = 0x07 → 1 < part.toNat →
      exec c s = .next (answered s r rest (.refused .badValue))) := by
  refine ⟨fun ha hk hpart => ?_, fun j ha hpart hk => ?_, fun j a ha hk hpart => ?_⟩
  · subst hk
    refine w.exec_refuses hc hr ((judge_anytime s rest _ (by rw [hr]; rfl) (by rw [hr]; rfl)).trans ?_)
    exact readsPart_refuses ha hpart _
  · rcases hk with rfl | rfl | rfl
    all_goals exact w.judged_refuses hc hr j (readsPart_refuses ha hpart _)
  · subst hk
    refine w.judged_refuses hc hr j ((readPeer_of ha _).trans (if_neg fun h => ?_))
    omega

end

/-- Settles O54: by the code, the node's state, the size of the arguments and the part. -/
theorem refusalsByCodeAndState : Obligations.RefusalsByCodeAndState := by
  unfold Obligations.RefusalsByCodeAndState
  intro s r rest w refused
  refine ⟨execUnknown_refuses w, fun c code hc hr => ⟨fun hs h1 h2 => ?_, fun hs hb hk => ?_,
    refusals_by_state w hc hr, fun hn => ?_, refusals_by_part w hc hr⟩⟩
  · refine w.exec_refuses hc hr (judge_startup rest _ hs ?_)
    simp [takenInStartup, hr, h1, h2]
  · refine w.exec_refuses hc hr ?_
    have hsingle : singleNode r.code = true := by
      rw [hr]
      rcases hk with rfl | rfl | rfl | rfl | rfl <;> rfl
    exact (if_neg (fun h => hs h.1)).trans (if_pos (by rw [hb, hsingle]; rfl))
  · have hlow : 1 ≤ code := by
      have hrange := requestCode_range hc
      omega
    have hpos : r.payload ≠ [] := fun h => by
      have h0 : r.code = 0 := by simp [Request.code, byteAt, h]
      omega
    refine refusals_by_size w hc hr (fun h => hn ?_) hlow
    have hlen := List.length_pos_iff.mpr hpos
    rw [Request.args, List.length_drop] at h
    rw [show r.payload.length = 1 + argSize code by omega]
    rfl

end Sys2Proof.Machine
end

section
/-! The requests that act: faults and grant (O55), the sweep (O58), STORE and RESTART (O60). -/

namespace Sys2Proof.Machine

/-! ### A request with an effect -/

section
variable {s : State} {r : Request} {rest : List Request} {c : Instr} {code : Nat} (w : Waiting s r rest) (j : Judged s r)
  (hc : requestCode c = some code) (hr : r.code = code)
include w j hc hr

/-- A judged request with an effect: its event settles in the state that the effect and the reply left. -/
theorem Waiting.acts_settles {t' : State} {v : Verdict} (hne : code ≠ 0x1E)
    (hj : handlerOf code r (s.popped rest) = (t', v)) :
    ∃ t, exec c s = .next t ∧ Settles s (appendReply (replyTo t' r v false) t') t := by
  obtain ⟨t, he, ht⟩ := w.exec_settles hc hr ((j.handled rest _).trans hj)
  rw [startsAgain_other _ _ (hr ▸ hne)] at ht
  exact ⟨t, he, ht⟩

/-- A request whose effect ends in a judgement of the permission: the event judges it no second time. -/
theorem Waiting.acts_settles_judged {y : State} {v : Verdict} (hne : code ≠ 0x1E)
    (hp : (s.popped rest).permission = s.permission)
    (hj : handlerOf code r (s.popped rest) = (judgeGate (s.popped rest) y, v)) :
    ∃ t, exec c s = .next t ∧ Settles s (appendReply (replyTo y r v false) y) t := by
  refine ⟨conclude s (judgeGate s (appendReply (replyTo y r v false) y)), ?_, settles_judged s _⟩
  refine (exec_request hc s).trans ((w.acts code _ hr _ v ((j.handled rest _).trans hj)).trans ?_)
  rw [startsAgain_other _ _ (hr ▸ hne)]
  have hsame : appendReply (replyTo (judgeGate (s.popped rest) y) r v false) (judgeGate (s.popped rest) y) =
      judgeGate s (appendReply (replyTo y r v false) y) := by
    rw [judgeGate_eq, judgeGate_eq, gateAfter, gateAfter, hp]
    rfl
  rw [hsame]

end

/-! ### Faults and grant (O55) -/

theorem gateOn_grant {p : Bool} {g : MotionGate} (h : g.grant = false) : (gateOn p g).grant = false := by
  unfold gateOn
  split <;> simp_all

theorem gateAfter_grant {s0 s : State} (h : s.gate.grant = false) : (gateAfter s0 s).grant = false := by
  unfold gateAfter
  split
  · exact h
  · exact gateOn_grant h

theorem gateAfter_travelSide (s0 s : State) : (gateAfter s0 s).travelSide = s.gate.travelSide := by
  have h : (judgeGate s0 s).gate.travelSide = s.gate.travelSide := by simp
  rwa [judgeGate_eq] at h

section
variable {s : State} {r : Request} {rest : List Request} (w : Waiting s r rest) (j : Judged s r)
include w j

theorem exec_clearFaults (hp : r.payload = [0x10#8]) :
    ∃ t, exec .clearFaults s = .next t ∧
      Settles s { answered s r rest (.done (bytesOf 2 (clearFaults s.faults).active.toNat)) with
        faults := clearFaults s.faults } t ∧
      t.pos = s.pos ∧ t.node = s.node ∧ t.gate.travelSide = s.gate.travelSide := by
  have hj : handlerOf 0x10 r (s.popped rest) =
      (judgeGate (s.popped rest) ((s.popped rest).setFaults (clearFaults s.faults)),
        .done (bytesOf 2 (clearFaults s.faults).active.toNat)) := by
    have hargs : r.args.length = 0 := congrArg List.length (Request.args_of_payload hp)
    refine (if_pos hargs).trans ?_
    simp [moveFaults, State.popped]
  have hc : r.code = 0x10 := Request.code_of_payload hp
  obtain ⟨t, he, ht⟩ := w.acts_settles_judged (c := .clearFaults) j rfl hc (by decide) rfl hj
  obtain ⟨-, -, -, -, hpos, -, -, -, -, hnode, -⟩ := ht.frame
  exact ⟨t, he, ht, hpos, hnode, by rw [ht.gate, gateAfter_travelSide]; rfl⟩

/-- A grant request that leaves the gate's record as g before the permission is judged. -/
theorem exec_grant {c : Instr} {code : Nat} {g : MotionGate} (hc : requestCode c = some code) (hr : r.code = code)
    (hne : code ≠ 0x1E) (hj : handlerOf code r (s.popped rest) = answerGate (s.popped rest) ((s.popped rest).setGate g)) :
    ∃ t, exec c s = .next t ∧ t.gate = gateAfter s { s with gate := g } ∧
      Settles s { answered s r rest (.done [gateByte (gateAfter s { s with gate := g })]) with
        gate := gateAfter s { s with gate := g } } t := by
  have hgate : judgeGate (s.popped rest) ((s.popped rest).setGate g) =
      (s.popped rest).setGate (gateAfter s { s with gate := g }) := by
    rw [judgeGate_eq]
    rfl
  have hanswer : answerGate (s.popped rest) ((s.popped rest).setGate g) =
      ((s.popped rest).setGate (gateAfter s { s with gate := g }), .done [gateByte (gateAfter s { s with gate := g })]) := by
    simp only [answerGate, hgate]
    rfl
  obtain ⟨t, he, ht⟩ := w.acts_settles j hc hr hne (hj.trans hanswer)
  exact ⟨t, he, ht.gate.trans (gateAfter_judged s { s with gate := g }), ht⟩

theorem exec_releaseGrant {jog : Byte} (hp : r.payload = [0x11#8, jog]) (h : s.inRestoring = false) :
    (jog.toNat ≤ 1 → handlerOf 0x11 r (s.popped rest) = answerGate (s.popped rest) ((s.popped rest).setGate
      (if s.gate.rdyLevel = .low then { s.gate with grant := false, jog := false }
        else { s.gate with grant := true, jog := jog == 1#8 }))) ∧
    (1 < jog.toNat → exec .releaseGrant s = .next (answered s r rest (.refused .badValue))) := by
  have hargs := Request.args_of_payload hp
  have hfree : (s.popped rest).inRestoring = false := h
  have hlen : r.args.length = 1 := by rw [hargs]; rfl
  have harg := Request.arg_zero hargs
  refine ⟨fun hjog => ?_, fun hjog => ?_⟩
  · have hbit : (r.arg 0 == 1) = (jog == 1#8) := by
      rw [harg, Bool.eq_iff_iff, beq_iff_eq, beq_iff_eq, ← BitVec.toNat_inj]
      rfl
    have htake : takeGrant (jog == 1#8) s.gate = if s.gate.rdyLevel = .low then { s.gate with grant := false, jog := false }
        else { s.gate with grant := true, jog := jog == 1#8 } := by
      unfold takeGrant
      split
      · next h => exact (if_pos h).symm
      · next h => exact (if_neg (by rw [h]; decide)).symm
    rw [← htake, ← hbit]
    simp only [handlerOf, releaseGrant, hfree]
    rw [if_neg Bool.false_ne_true, if_neg (by omega)]
    rfl
  · have hc : r.code = 0x11 := Request.code_of_payload hp
    refine w.judged_refuses rfl hc j ?_
    simp only [handlerOf, releaseGrant, hfree]
    rw [if_neg Bool.false_ne_true, if_pos (by omega)]

end

/-- Settles O55: both grant requests leave a gate judged once. -/
theorem faultAndGrantRequests : Obligations.FaultAndGrantRequests := by
  unfold Obligations.FaultAndGrantRequests
  intro s r rest w j judged
  refine ⟨exec_clearFaults w j, fun jog hp h hjog => ?_, fun jog hp h => (exec_releaseGrant w j hp h).2, fun hp h => ?_⟩
  · have hc : r.code = 0x11 := Request.code_of_payload hp
    exact exec_grant w j rfl hc (by decide) ((exec_releaseGrant w j hp h).1 hjog)
  · have hc : r.code = 0x12 := Request.code_of_payload hp
    have hfree : (s.popped rest).inRestoring = false := h
    have hj : handlerOf 0x12 r (s.popped rest) =
        answerGate (s.popped rest) ((s.popped rest).setGate { s.gate with grant := false, jog := false }) := by
      simp only [handlerOf, releaseWithdraw, hfree, Request.args_of_payload hp]
      rfl
    obtain ⟨t, he, hgate, ht⟩ := exec_grant (c := .releaseWithdraw) w j rfl hc (by decide) hj
    exact ⟨t, he, hgate, by rw [hgate]; exact gateAfter_grant rfl, ht⟩

/-! ### STORE and RESTART (O60) -/

/-- STORE outside RESTORING, by its target byte (R109). -/
theorem storeHandler_of {s : State} {r : Request} (rest : List Request) {target : Byte} (hp : r.payload = [0x1D#8, target]) (h : s.inRestoring = false) :
    handlerOf 0x1D r (s.popped rest) =
      match (if target = 1#8 then some StoreTarget.cal else if target = 2#8 then some .setup else none) with
      | none => refuse .badValue (s.popped rest)
      | some t =>
        if s.store.writing.isSome then refuse .storeBusy (s.popped rest)
        else if t == .cal && calUnset s.cal.data then refuse .badValue (s.popped rest)
        else (beginStore t (s.popped rest), .accepted) := by
  have hargs := Request.args_of_payload hp
  have hfree : (s.popped rest).inRestoring = false := h
  have htarget : storeTarget r =
      if target = 1#8 then some StoreTarget.cal else if target = 2#8 then some .setup else none := by
    simp [storeTarget, hargs, Request.arg_zero hargs, ← BitVec.toNat_inj]
  simp only [handlerOf, storeHandler, hfree, htarget]
  rfl

theorem calUnset_iff (c : CalRecord) : calUnset c = true ↔ c.ratio = none ∨ c.window = none := by
  simp [calUnset]

/-- Settles O60, by the target and what stands in the store. -/
theorem storeAndRestartRequests : Obligations.StoreAndRestartRequests := by
  unfold Obligations.StoreAndRestartRequests
  intro s r rest w j
  refine ⟨fun target hp h => ?_, fun hp hbusy => ?_, fun hp hidle => ?_⟩
  · have hc : r.code = 0x1D := Request.code_of_payload hp
    have hj := storeHandler_of rest hp h
    refine ⟨fun h1 h2 => ?_, fun ht hbusy => ?_, fun h1 hidle hunset => ?_, fun h1 hidle hset => ?_, fun h2 hidle => ?_⟩
    · rw [if_neg h1, if_neg h2] at hj
      exact w.judged_refuses rfl hc j hj
    · refine w.judged_refuses rfl hc j (hj.trans ?_)
      have hsome := Option.isSome_iff_ne_none.mpr hbusy
      rcases ht with rfl | rfl <;> exact if_pos hsome
    · subst h1
      refine w.judged_refuses rfl hc j (hj.trans ((if_neg (by simp [hidle])).trans (if_pos ?_)))
      exact (calUnset_iff _).mpr hunset
    · subst h1
      refine w.acts_settles j rfl hc (by decide) (hj.trans ((if_neg (by simp [hidle])).trans (if_neg ?_)))
      exact fun hu => hset ((calUnset_iff _).mp hu)
    · subst h2
      exact w.acts_settles j rfl hc (by decide)
        (hj.trans ((if_neg (by simp [hidle])).trans (if_neg Bool.false_ne_true)))
  · have hc : r.code = 0x1E := Request.code_of_payload hp
    refine w.judged_refuses rfl hc j ?_
    exact (if_neg (by simp [Request.args_of_payload hp])).trans (if_pos (Option.isSome_iff_ne_none.mpr hbusy))
  · have hc : r.code = 0x1E := Request.code_of_payload hp
    have hj : handlerOf 0x1E r (s.popped rest) = ((s.popped rest).setRestartPending true, .accepted) :=
      (if_neg (by simp [Request.args_of_payload hp])).trans
        (if_neg (by rw [show (s.popped rest).store.writing = none from hidle]; simp))
    refine (exec_request rfl s).trans ((w.acts 0x1E _ hc _ _ ((j.handled rest _).trans hj)).trans ?_)
    rw [hc]
    exact next_quiet (.inl ⟨rfl, rfl⟩) rfl rfl

end Sys2Proof.Machine
end

section
/-! The requests of the sweep (O58), ZERO_HERE and ACCEPT_RESTORE (O57). -/

namespace Sys2Proof.Machine

/-- The queues, as an event's own effects left them. -/
theorem Settles.queues {s x t : State} (h : Settles s x t) :
    t.link.requests = x.link.requests ∧ t.link.replies = x.link.replies := by
  rw [h.rest]
  exact ⟨rfl, rfl⟩

/-- The queues after a request whose effect leaves the link as it found it. -/
theorem Settles.answered_queues {s t t' : State} {r : Request} {rest : List Request} {v : Verdict} {code : Byte} {l : List Byte}
    (h : Settles s (appendReply (replyTo t' r v false) t') t) (hl : t'.link = (s.popped rest).link)
    (hs : t'.straps = s.straps) (hp : r.payload = code :: l) :
    t.link.requests = rest ∧ t.link.replies = s.link.replies ++
      [⟨⟨kindReply, s.straps.address, r.source, code :: resultByte v :: verdictData v⟩, false, false⟩] := by
  obtain ⟨hrequests, hreplies⟩ := h.queues
  have hcode : byteAt r.payload 0 = code := by rw [hp]; rfl
  have hsame : t'.link.replies = s.link.replies := by
    rw [hl]
    rfl
  rw [hrequests, hreplies, ← hs, ← hcode, ← hsame]
  exact ⟨congrArg LinkController.requests hl, rfl⟩

/-! ### The bins of a SWEEP_END (R120) -/

/-- What a SWEEP_END shows of one bin: its value, and its flag in the three masks. -/
def SweepEnd.bin (x : SweepEnd) (b : Fin 32) : Int × Bool × Bool × Bool :=
  (x.data.corr[b], x.updated.getLsbD b, x.data.coverage.getLsbD b, x.clamped.getLsbD b)

theorem getLsbD_binMark (m : BinMask) (i : Nat) (b : Fin 32) :
    (binMark m i).getLsbD b = (m.getLsbD b || decide (i = b)) := by
  have hb := b.isLt
  rw [binMark, BitVec.getLsbD_or, BitVec.getLsbD_shiftLeft]
  congr 1
  by_cases h : i = b
  · simp [h]
  · by_cases hlt : b.val < i
    · simp [hlt, h]
    · have hsub : b.val - i ≠ 0 := by omega
      simp [h, hsub]

theorem corr_setIfInBounds (v : Vector Int 32) (i : Nat) (x : Int) (b : Fin 32) :
    (v.setIfInBounds i x)[b] = if i = b then x else v[b] := by
  rw [Fin.getElem_fin, Fin.getElem_fin, Vector.getElem_setIfInBounds]

theorem endBin_other (w : SweepRecord) (least : Nat) (x : SweepEnd) {i : Nat} {b : Fin 32} (h : i ≠ b) :
    (endBin w least x i).bin b = x.bin b := by
  unfold endBin
  simp only
  split
  · simp only [SweepEnd.bin, corr_setIfInBounds, getLsbD_binMark, if_neg h, decide_eq_false h, Bool.or_false]
    split
    · rfl
    · rw [getLsbD_binMark, decide_eq_false h, Bool.or_false]
  · rfl

theorem endBin_self (w : SweepRecord) (least : Nat) (x : SweepEnd) (b : Fin 32) :
    (endBin w least x b).bin b =
      if least ≤ w.counts[b] then
        (clampInt (-2048) 2047 (roundDiv w.sums[b] w.counts[b]), true, true,
          x.clamped.getLsbD b || decide (clampInt (-2048) 2047 (roundDiv w.sums[b] w.counts[b]) ≠ roundDiv w.sums[b] w.counts[b]))
      else x.bin b := by
  have hcount : w.counts.toList.getD b 0 = w.counts[b] := by simp
  have hsum : w.sums.toList.getD b 0 = w.sums[b] := by simp
  unfold endBin
  rw [hcount, hsum]
  by_cases h : least ≤ w.counts[b]
  · simp only [if_pos h, SweepEnd.bin, corr_setIfInBounds, getLsbD_binMark, decide_true, Bool.or_true, if_true]
    split
    · next he => rw [decide_eq_false (not_not.mpr he), Bool.or_false]
    · next he => rw [getLsbD_binMark, decide_eq_true rfl, decide_eq_true he]
  · simp only [if_neg h]

theorem foldl_endBin_other (w : SweepRecord) (least : Nat) {b : Fin 32} {l : List Nat} (h : b.val ∉ l) (x : SweepEnd) :
    (l.foldl (endBin w least) x).bin b = x.bin b := by
  induction l generalizing x with
  | nil => rfl
  | cons i l ih =>
    rw [List.mem_cons, not_or] at h
    obtain ⟨hi, hl⟩ := h
    rw [List.foldl_cons, ih hl, endBin_other w least x (Ne.symm hi)]

/-- Each bin is visited once, so its own visit decides it. -/
theorem endBins_bin (w : SweepRecord) (least : Nat) (c : CalRecord) (b : Fin 32) :
    (endBins w least c).bin b =
      if least ≤ w.counts[b] then
        (clampInt (-2048) 2047 (roundDiv w.sums[b] w.counts[b]), true, true,
          decide (clampInt (-2048) 2047 (roundDiv w.sums[b] w.counts[b]) ≠ roundDiv w.sums[b] w.counts[b]))
      else (c.corr[b], false, c.coverage.getLsbD b, false) := by
  obtain ⟨before, behind, hl⟩ := List.append_of_mem (List.mem_range.mpr b.isLt)
  have hnodup : (List.range 32).Nodup := List.nodup_range
  rw [hl, List.nodup_append] at hnodup
  obtain ⟨-, hbehind, hdisjoint⟩ := hnodup
  have hbefore : b.val ∉ before := fun h => hdisjoint _ h _ List.mem_cons_self rfl
  have hstart : (before.foldl (endBin w least) ⟨c, 0, 0⟩).bin b = (c.corr[b], false, c.coverage.getLsbD b, false) := by
    rw [foldl_endBin_other w least hbefore]
    simp [SweepEnd.bin]
  have hclamped : (before.foldl (endBin w least) ⟨c, 0, 0⟩).clamped.getLsbD b = false := by
    simp only [SweepEnd.bin, Prod.mk.injEq] at hstart
    obtain ⟨-, -, -, h⟩ := hstart
    exact h
  rw [endBins, hl, List.foldl_append, List.foldl_cons,
    foldl_endBin_other w least (List.nodup_cons.mp hbehind).1, endBin_self, hstart, hclamped, Bool.false_or]

/-- The bins that a SWEEP_END writes, and those it leaves. -/
theorem endBins_spec (w : SweepRecord) (least : Nat) (c : CalRecord) (b : Fin 32) :
    (least ≤ w.counts[b] →
      (endBins w least c).data.corr[b] = max (-2048) (min 2047 (roundDiv w.sums[b] w.counts[b])) ∧
      (endBins w least c).updated.getLsbD b = true ∧ (endBins w least c).data.coverage.getLsbD b = true ∧
      ((endBins w least c).clamped.getLsbD b = true ↔
        roundDiv w.sums[b] w.counts[b] < -2048 ∨ 2047 < roundDiv w.sums[b] w.counts[b])) ∧
    (w.counts[b] < least → (endBins w least c).data.corr[b] = c.corr[b] ∧ (endBins w least c).updated.getLsbD b = false ∧
      (endBins w least c).data.coverage.getLsbD b = c.coverage.getLsbD b ∧ (endBins w least c).clamped.getLsbD b = false) := by
  have hbin := endBins_bin w least c b
  refine ⟨fun h => ?_, fun h => ?_⟩
  · rw [if_pos h, SweepEnd.bin, Prod.mk.injEq, Prod.mk.injEq, Prod.mk.injEq] at hbin
    obtain ⟨hcorr, hupdated, hcoverage, hclamped⟩ := hbin
    refine ⟨hcorr.trans (clampInt_eq_max_min _), hupdated, hcoverage, ?_⟩
    rw [hclamped, decide_eq_true_iff, clampInt_eq_max_min]
    omega
  · rw [if_neg h.not_ge, SweepEnd.bin, Prod.mk.injEq, Prod.mk.injEq, Prod.mk.injEq] at hbin
    exact hbin

/-! ### The requests of the sweep (O58) -/

/-- REFERENCED and CALIBRATING both permit motion, and neither excuses a conflict (R166). -/
theorem permission_of_calibrating {s t : State} (hs : s.node.state = .referenced ∨ s.node.state = .calibrating)
    (ht : t.node.state = .referenced ∨ t.node.state = .calibrating) (hg : t.gate = s.gate)
    (hf : t.faults.active = s.faults.active) (hl : t.setup.latched = s.setup.latched) : t.permission = s.permission := by
  have hexcused (u : State) (hu : u.node.state = .referenced ∨ u.node.state = .calibrating) : u.conflictExcused = false := by
    rcases hu with h | h <;> simp [State.conflictExcused, h]
  have hpermits (u : State) (hu : u.node.state = .referenced ∨ u.node.state = .calibrating) : u.statePermits = true := by
    rcases hu with h | h <;> simp [State.statePermits, h]
  have hholds : t.faultHolds = s.faultHolds := by
    simp only [State.faultHolds, State.active, State.actionOf, hexcused s hs, hexcused t ht, hf, hl]
  rw [State.permission, State.permission, hpermits s hs, hpermits t ht, hholds, hg]

theorem beginSweep_of_referenced {p : State} (h : p.node.state = .referenced) : beginSweep p =
    (((p.setSweep { SweepRecord.start with outcome := .running }).setNode { p.node with state := .calibrating }).setPos
      { p.pos with driftRun := 0 }).setWork { p.work with considered := false } := by
  rw [beginSweep, moveNode_of_permission]
  exact permission_of_calibrating (.inl h) (.inr rfl) rfl rfl rfl

theorem enterReferenced_of_calibrating {p : State} (h : p.node.state = .calibrating) : enterReferenced p =
    (p.setNode { p.node with state := .referenced, reason := .none }).setPos { p.pos with driftRun := 0 } := by
  rw [enterReferenced, moveNode_of_permission]
  exact permission_of_calibrating (.inr h) (.inl rfl) rfl rfl rfl

theorem markCal_cal (p : State) : (markCal p).cal = { p.cal with dirty := true } := by
  unfold markCal
  simp only
  split <;> rfl

theorem markCal_store (p : State) :
    (markCal p).store = if p.store.writing = some .cal then { p.store with calMarked := true } else p.store := by
  unfold markCal
  split <;> rfl

/-- What a SWEEP_END leaves of the node, the count, the sweep and the calibration (R120). -/
theorem endSweep_spec (p : State) :
    (endSweep p).node = { p.node with state := .referenced, reason := .none } ∧
    (endSweep p).pos = { p.pos with driftRun := 0 } ∧
    (endSweep p).sweep = { p.sweep with
      outcome := .ended
      updated := (endBins p.sweep p.setup.latched.sweepMin p.cal.data).updated
      clamped := (endBins p.sweep p.setup.latched.sweepMin p.cal.data).clamped } ∧
    (endSweep p).cal = (if (endBins p.sweep p.setup.latched.sweepMin p.cal.data).updated = 0 then p.cal
      else { p.cal with data := (endBins p.sweep p.setup.latched.sweepMin p.cal.data).data, dirty := true }) := by
  unfold endSweep
  simp only
  split
  · simp [enterReferenced]
  · simp [enterReferenced, markCal_cal]

theorem endSweep_straps (p : State) : (endSweep p).straps = p.straps := by simp [endSweep, apply_ite State.straps]

section
variable {s : State} {r : Request} {rest : List Request} (w : Waiting s r rest) (j : Judged s r)
include w j

theorem exec_sweepStart (hp : r.payload = [0x18#8]) (h : s.node.state = .referenced) :
    ∃ t, exec .sweepStart s = .next t ∧ Settles s { answered s r rest .accepted with
      node := { s.node with state := .calibrating }, pos := { s.pos with driftRun := 0 }
      work := { s.work with considered := false }
      sweep := { outcome := .running, sums := Vector.replicate 32 0, counts := Vector.replicate 32 0, skipped := 0
                 overflow := 0, updated := 0, clamped := 0 } } t := by
  have hc : r.code = 0x18 := Request.code_of_payload hp
  have hlen : r.args.length = 0 := congrArg List.length (Request.args_of_payload hp)
  have hnode : (s.popped rest).node.state = .referenced := h
  have hoperating := operating_of_state (.inr hnode)
  have hj : handlerOf 0x18 r (s.popped rest) = (beginSweep (s.popped rest), .accepted) := by
    simp [handlerOf, sweepStart, hoperating, hnode, hlen]
  rw [beginSweep_of_referenced hnode] at hj
  simp only [State.setWork, State.setPos, State.setNode, State.setSweep, State.popped, SweepRecord.start] at hj
  exact w.acts_settles j rfl hc (by decide) hj

theorem exec_sweepEnd (hp : r.payload = [0x19#8]) (h : s.node.state = .calibrating) :
    ∃ t, exec .sweepEnd s = .next t ∧
      t.node = { s.node with state := .referenced, reason := .none } ∧ t.pos = { s.pos with driftRun := 0 } ∧
      t.sweep = { s.sweep with
        outcome := .ended
        updated := (endBins s.sweep s.setup.latched.sweepMin s.cal.data).updated
        clamped := (endBins s.sweep s.setup.latched.sweepMin s.cal.data).clamped } ∧
      t.cal = (if (endBins s.sweep s.setup.latched.sweepMin s.cal.data).updated = 0 then s.cal
        else { s.cal with data := (endBins s.sweep s.setup.latched.sweepMin s.cal.data).data, dirty := true }) ∧
      t.link.requests = rest ∧ t.link.replies = s.link.replies ++ [⟨⟨kindReply, s.straps.address, r.source,
        0x19#8 :: 0x00#8 :: (bytesOf 4 (endBins s.sweep s.setup.latched.sweepMin s.cal.data).updated.toNat ++
          bytesOf 4 (endBins s.sweep s.setup.latched.sweepMin s.cal.data).clamped.toNat)⟩, false, false⟩] := by
  have hc : r.code = 0x19 := Request.code_of_payload hp
  have hlen : r.args.length = 0 := congrArg List.length (Request.args_of_payload hp)
  have hnode : (s.popped rest).node.state = .calibrating := h
  obtain ⟨hn, hpos, hsweep, hcal⟩ := endSweep_spec (s.popped rest)
  have hj : handlerOf 0x19 r (s.popped rest) = (endSweep (s.popped rest),
      .done (bytesOf 4 (endSweep (s.popped rest)).sweep.updated.toNat ++
        bytesOf 4 (endSweep (s.popped rest)).sweep.clamped.toNat)) := by
    simp [handlerOf, sweepEnd, hnode, hlen]
  obtain ⟨t, he, ht⟩ := w.acts_settles (c := .sweepEnd) j rfl hc (by decide) hj
  obtain ⟨-, -, -, -, htpos, -, -, -, -, htnode, htsweep, htcal, -⟩ := ht.frame
  rw [hsweep] at ht
  exact ⟨t, he, htnode.trans hn, htpos.trans hpos, htsweep.trans hsweep, htcal.trans hcal,
    ht.answered_queues (endSweep_link _) (endSweep_straps _) hp⟩

theorem exec_sweepAbort (hp : r.payload = [0x1A#8]) (h : s.node.state = .calibrating) :
    ∃ t, exec .sweepAbort s = .next t ∧ Settles s { answered s r rest (.done []) with
      node := { s.node with state := .referenced, reason := .none }, pos := { s.pos with driftRun := 0 }
      sweep := { s.sweep with outcome := .aborted, sums := Vector.replicate 32 0, counts := Vector.replicate 32 0
                              updated := 0, clamped := 0 } } t := by
  have hc : r.code = 0x1A := Request.code_of_payload hp
  have hlen : r.args.length = 0 := congrArg List.length (Request.args_of_payload hp)
  have hnode : (s.popped rest).node.state = .calibrating := h
  have hj : handlerOf 0x1A r (s.popped rest) = (enterReferenced (dropSweep .aborted (s.popped rest)), .done []) := by
    simp [handlerOf, sweepAbort, hnode, hlen]
  rw [enterReferenced_of_calibrating (p := dropSweep .aborted (s.popped rest)) hnode] at hj
  simp only [dropSweep, State.setPos, State.setNode, State.setSweep, State.popped] at hj
  exact w.acts_settles j rfl hc (by decide) hj

end

/-- Settles O58: the three requests, and the bins of a SWEEP_END. -/
theorem sweepRequests : Obligations.SweepRequests := by
  unfold Obligations.SweepRequests
  exact ⟨fun s r rest w j => ⟨exec_sweepStart w j, exec_sweepEnd w j, exec_sweepAbort w j⟩, endBins_spec⟩

/-! ### ZERO_HERE and ACCEPT_RESTORE (O57) -/

theorem mirrorAfter_held {s0 x : State} (h : x.ret.mirror.held = false) : (mirrorAfter s0 x).held = false := by
  unfold mirrorAfter
  split
  · rfl
  · exact h

/-- What ZERO_HERE leaves (R98). -/
structure Zeroed (p q : State) : Prop where
  cal : q.cal = { p.cal with data := zeroedCal p.pos p.cal.data, dirty := true }
  pos : q.pos = { p.pos with abs := true, driftRun := 0 }
  node : q.node = { p.node with state := .referenced, reason := .none, basis := .manual, confirmed := false }
  mirror : q.ret.mirror.held = false
  faults : q.faults = p.faults
  homing : q.homing = p.homing
  link : q.link = p.link
  straps : q.straps = p.straps
  store : q.store = if p.store.writing = some .cal then { p.store with calMarked := true } else p.store

theorem zeroEffect_spec (p : State) : Zeroed p (zeroEffect p) := by
  have hstore : (zeroEffect p).store = (markCal (p.setCal { p.cal with data := zeroedCal p.pos p.cal.data })).store := by
    simp [zeroEffect, setAbsolute]
  constructor
  · simp [zeroEffect, setAbsolute, markCal_cal]
  · simp [zeroEffect, setAbsolute, enterReferenced]
  · simp [zeroEffect, setAbsolute, enterReferenced]
  · simp [zeroEffect, setAbsolute]
  · simp [zeroEffect, setAbsolute]
  · simp [zeroEffect, setAbsolute]
  · exact zeroEffect_link p
  · simp [zeroEffect, setAbsolute]
  · rw [hstore]
    exact markCal_store _

/-- What ACCEPT_RESTORE leaves (R70). -/
structure Chosen (n : Int) (p q : State) : Prop where
  pos : q.pos = { p.pos with p := n, abs := true, driftRun := 0 }
  node : q.node = { p.node with state := .referenced, reason := .none, basis := .chosen, conflict := none }
  active : kindHas q.faults.active .restoreConflict = false
  mirror : q.ret.mirror.held = false
  cal : q.cal = p.cal
  link : q.link = p.link
  straps : q.straps = p.straps

theorem acceptEffect_spec (n : Int) (p : State) : Chosen n p (acceptEffect n p) := by
  constructor
  · simp [acceptEffect, setAbsolute, enterReferenced]
  · simp [acceptEffect, setAbsolute, enterReferenced, resolveConflict]
  · simpa [acceptEffect, resolveConflict] using conditionGone_restoreConflict_inactive _
  · simp [acceptEffect, setAbsolute]
  · simp [acceptEffect, setAbsolute]
  · simp [acceptEffect, setAbsolute]
  · simp [acceptEffect, setAbsolute]

section
variable {s : State} {r : Request} {rest : List Request}

/-- ZERO_HERE outside RESTORING, HOMING and CALIBRATING: its three own refusals, then its effect (R98). -/
theorem zeroHere_of (rest : List Request) (hp : r.payload = [0x16#8])
    (h : s.node.state = .unreferenced ∨ s.node.state = .referenced) :
    handlerOf 0x16 r (s.popped rest) =
      if s.cal.valid = false then refuse .noCal (s.popped rest)
      else if s.sourceNotAbsolute = true then refuse .sourceNotAbsolute (s.popped rest)
      else if s.pos.evaluated = false ∨ s.pos.usable = false then refuse .notReady (s.popped rest)
      else (zeroEffect (s.popped rest), .done (bytesOf 4 (zeroEffect (s.popped rest)).cal.data.z ++
        bytesOf 2 (zeroEffect (s.popped rest)).cal.data.zg.toNat)) := by
  have hnode : (s.popped rest).node.state = .unreferenced ∨ (s.popped rest).node.state = .referenced := h
  have hlen : r.args.length = 0 := congrArg List.length (Request.args_of_payload hp)
  have hvalid : (s.popped rest).cal.valid = s.cal.valid := rfl
  have hsource : (s.popped rest).sourceNotAbsolute = s.sourceNotAbsolute := rfl
  have hpos : (s.popped rest).pos = s.pos := rfl
  simp only [handlerOf, zeroHere, inRestoring_of_state hnode, operating_of_state hnode, hlen, hvalid, hsource, hpos,
    Bool.or_false, Bool.false_eq_true, if_false, ne_eq, not_true, Bool.not_eq_true', Bool.or_eq_true]

/-- ACCEPT_RESTORE with a standing conflict: its own refusals, then its effect (R70). -/
theorem acceptRestore_of (rest : List Request) {choice : Byte} {x : ConflictRecord} (hp : r.payload = [0x17#8, choice])
    (h : s.node.state = .unreferenced) (hx : s.node.conflict = some x) {n : Int}
    (hn : n = s.pos.p + ((if choice = 1#8 then x.retainedSide else x.vernierSide) - x.decideTurn) * 16384) :
    handlerOf 0x17 r (s.popped rest) =
      if s.sourceNotAbsolute = true then refuse .sourceNotAbsolute (s.popped rest)
      else if (n / 16384 < -32768 ∨ 32767 < n / 16384) ∨ (choice ≠ 1#8 ∧ choice ≠ 2#8) then refuse .badValue (s.popped rest)
      else (acceptEffect n (s.popped rest), .done (bytesOf 4 (acceptEffect n (s.popped rest)).pos.p ++
        bytesOf 4 (acceptEffect n (s.popped rest)).pos.j)) := by
  have hargs := Request.args_of_payload hp
  have harg := Request.arg_zero hargs
  have hside : (r.arg 0 == 1) = decide (choice = 1#8) := by
    rw [harg, Bool.eq_iff_iff, beq_iff_eq, decide_eq_true_iff, ← BitVec.toNat_inj]
    rfl
  have hcount : chosenCount x (r.arg 0 == 1) s.pos.p = n := by
    rw [hn, chosenCount, hside]
    simp only [decide_eq_true_eq]
  have hbad : (!choiceOk r || !inRange turnMin turnMax (turnOf n)) = true ↔
      (n / 16384 < -32768 ∨ 32767 < n / 16384) ∨ (choice ≠ 1#8 ∧ choice ≠ 2#8) := by
    have hchoice : choiceOk r = true ↔ choice = 1#8 ∨ choice = 2#8 := by
      simp [choiceOk, hargs, harg, ← BitVec.toNat_inj]
    rw [Bool.or_eq_true, Bool.not_eq_true', Bool.not_eq_true', ← Bool.not_eq_true, ← Bool.not_eq_true, hchoice, inRange_iff]
    unfold turnOf turnMin turnMax
    rw [not_or, or_comm]
    exact or_congr (by omega) Iff.rfl
  have hnode : (s.popped rest).node = s.node := rfl
  have hsource : (s.popped rest).sourceNotAbsolute = s.sourceNotAbsolute := rfl
  have hpos : (s.popped rest).pos.p = s.pos.p := rfl
  simp only [handlerOf, acceptRestore, hnode, h, hx, hsource, hpos, hcount, hbad, ne_eq, not_true, if_false]

end

section
variable {s : State} {r : Request} {rest : List Request} (w : Waiting s r rest) (j : Judged s r)
include w j

theorem exec_zeroHere_done (hp : r.payload = [0x16#8])
    (hj : handlerOf 0x16 r (s.popped rest) = (zeroEffect (s.popped rest),
      .done (bytesOf 4 (zeroEffect (s.popped rest)).cal.data.z ++ bytesOf 2 (zeroEffect (s.popped rest)).cal.data.zg.toNat))) :
    ∃ t, exec .zeroHere s = .next t ∧ Zeroed s { t with link := s.link } ∧
      t.link.requests = rest ∧ t.link.replies = s.link.replies ++ [⟨⟨kindReply, s.straps.address, r.source,
        0x16#8 :: 0x00#8 :: (bytesOf 4 t.cal.data.z ++ bytesOf 2 t.cal.data.zg.toNat)⟩, false, false⟩] := by
  have hc : r.code = 0x16 := Request.code_of_payload hp
  have hz := zeroEffect_spec (s.popped rest)
  obtain ⟨t, he, ht⟩ := w.acts_settles (c := .zeroHere) j rfl hc (by decide) hj
  have hqueues := ht.answered_queues hz.link hz.straps hp
  obtain ⟨-, hstraps, -, -, hpos, -, -, -, -, hnode, -, hcal, -, hstore, -, hfaults, -⟩ := ht.frame
  have hhoming : t.homing = (zeroEffect (s.popped rest)).homing := by rw [ht.rest]; rfl
  have hcal' : t.cal = (zeroEffect (s.popped rest)).cal := hcal
  rw [← hcal'] at hqueues
  refine ⟨t, he, ?_, hqueues⟩
  exact ⟨hcal'.trans hz.cal, hpos.trans hz.pos, hnode.trans hz.node,
    (congrArg TurnMirror.held ht.mirror).trans (mirrorAfter_held hz.mirror), hfaults.trans hz.faults,
    hhoming.trans hz.homing, rfl, hstraps.trans hz.straps, hstore.trans hz.store⟩

theorem exec_acceptRestore_done {choice : Byte} {n : Int} (hp : r.payload = [0x17#8, choice])
    (hj : handlerOf 0x17 r (s.popped rest) = (acceptEffect n (s.popped rest),
      .done (bytesOf 4 (acceptEffect n (s.popped rest)).pos.p ++ bytesOf 4 (acceptEffect n (s.popped rest)).pos.j))) :
    ∃ t, exec .acceptRestore s = .next t ∧
      t.pos = { s.pos with p := n, abs := true, driftRun := 0 } ∧
      t.node = { s.node with state := .referenced, reason := .none, basis := .chosen, conflict := none } ∧
      kindHas t.faults.active .restoreConflict = false ∧ t.ret.mirror.held = false ∧ t.cal = s.cal ∧
      t.link.requests = rest ∧ t.link.replies = s.link.replies ++ [⟨⟨kindReply, s.straps.address, r.source,
        0x17#8 :: 0x00#8 :: (bytesOf 4 n ++ bytesOf 4 s.pos.j)⟩, false, false⟩] := by
  have hc : r.code = 0x17 := Request.code_of_payload hp
  have hz := acceptEffect_spec n (s.popped rest)
  obtain ⟨t, he, ht⟩ := w.acts_settles (c := .acceptRestore) j rfl hc (by decide) hj
  have hqueues := ht.answered_queues hz.link hz.straps hp
  obtain ⟨-, -, -, -, hpos, -, -, -, -, hnode, -, hcal, -, -, -, hfaults, -⟩ := ht.frame
  rw [hz.pos] at hqueues
  have hactive : t.faults.active = (acceptEffect n (s.popped rest)).faults.active := congrArg FaultSupervisor.active hfaults
  exact ⟨t, he, hpos.trans hz.pos, hnode.trans hz.node, by rw [hactive, hz.active],
    (congrArg TurnMirror.held ht.mirror).trans (mirrorAfter_held hz.mirror), hcal.trans hz.cal, hqueues⟩

end

/-- Settles O57: each request by its own refusals, then its effect. -/
theorem zeroAndAccept : Obligations.ZeroAndAccept := by
  unfold Obligations.ZeroAndAccept
  intro s r rest w j blocked zg
  have hblocked : s.sourceNotAbsolute = true ↔ blocked := sourceNotAbsolute_iff
  refine ⟨fun hp h => ?_, fun choice x hp h hx => ?_⟩
  · have hc : r.code = 0x16 := Request.code_of_payload hp
    have hj := zeroHere_of rest hp h
    refine ⟨fun hv => ?_, fun hv hb => ?_, fun hv hb hu => ?_, fun hv hb he hu => ?_⟩
    · exact w.judged_refuses rfl hc j (hj.trans (if_pos hv))
    · exact w.judged_refuses rfl hc j (hj.trans ((if_neg (by simp [hv])).trans (if_pos (hblocked.mpr hb))))
    · exact w.judged_refuses rfl hc j
        (hj.trans ((if_neg (by simp [hv])).trans ((if_neg fun h => hb (hblocked.mp h)).trans (if_pos hu))))
    · obtain ⟨t, hexec, ht, hrequests, hreplies⟩ := exec_zeroHere_done w j hp
        (hj.trans ((if_neg (by simp [hv])).trans ((if_neg fun h => hb (hblocked.mp h)).trans (if_neg (by simp [he, hu])))))
      have hcal : t.cal = { s.cal with data := zeroedCal s.pos s.cal.data, dirty := true } := ht.cal
      have hstore : t.store = _ := ht.store
      refine ⟨t, hexec, ?_⟩
      rw [hcal] at hreplies ⊢
      refine ⟨rfl, rfl, hv, fun hlow hhigh => if_pos (inRange_iff.mpr ⟨hlow, hhigh⟩), ht.pos, ht.node, ht.mirror,
        ht.faults, ht.homing, hrequests, hreplies, fun hwr => ?_, fun hwr => ?_⟩
      · rw [hstore, if_pos hwr]
      · rw [hstore, if_neg hwr]
  · intro p outside
    have hc : r.code = 0x17 := Request.code_of_payload hp
    have hj := acceptRestore_of rest hp h hx (n := p) rfl
    refine ⟨fun hb => ?_, fun hb hbad => ?_, fun hb ho hchoice => ?_⟩
    · exact w.judged_refuses rfl hc j (hj.trans (if_pos (hblocked.mpr hb)))
    · exact w.judged_refuses rfl hc j (hj.trans ((if_neg fun h => hb (hblocked.mp h)).trans (if_pos hbad)))
    · refine exec_acceptRestore_done w j hp (hj.trans ((if_neg fun h => hb (hblocked.mp h)).trans (if_neg ?_)))
      rintro (hout | ⟨h1, h2⟩)
      · exact ho hout
      · exact hchoice.elim h1 h2

end Sys2Proof.Machine
end

section
/-! CAL_WRITE and SETUP_WRITE (O59), and the requests of the homing (O56). -/

namespace Sys2Proof.Machine

/-! ### The writes (O59) -/

section
variable {s : State} {r : Request} (rest : List Request) {id idx : Byte} {v : List Byte}

/-- CAL_WRITE outside RESTORING, on the bytes of its payload (R100). -/
theorem calWrite_of (hp : r.payload = 0x1B#8 :: id :: idx :: v) (h : s.inRestoring = false) :
    handlerOf 0x1B r (s.popped rest) =
      if ¬(calValueSize id.toNat = some v.length ∧ (id.toNat = 5 → idx.toNat ≤ 31)) then refuse .badValue (s.popped rest)
      else if (1 ≤ id.toNat ∧ id.toNat ≤ 4) ∧ s.node.state ≠ .unreferenced then refuse .wrongState (s.popped rest)
      else
        match calFieldWrite s.cal.data id.toNat idx.toNat v with
        | .refused => refuse .badValue (s.popped rest)
        | .stored c clamped => (storeCalField id.toNat c (s.popped rest),
            writtenVerdict r clamped (calFieldBytes c id.toNat idx.toNat)) := by
  have hargs := Request.args_of_payload hp
  have hfree : (s.popped rest).inRestoring = false := h
  have hform : calWriteForm r = true ↔ calValueSize id.toNat = some v.length ∧ (id.toNat = 5 → idx.toNat ≤ 31) := by
    have hlen : r.args.length = v.length + 2 := by rw [hargs]; rfl
    have hsize : (calValueSize id.toNat).any (fun n => v.length + 2 == n + 2) = true ↔
        calValueSize id.toNat = some v.length := by
      cases calValueSize id.toNat with
      | none => simp
      | some n =>
        simp only [Option.any_some, beq_iff_eq, Nat.add_right_cancel_iff, Option.some.injEq]
        exact eq_comm
    simp only [calWriteForm, hlen, Request.arg_zero hargs, Request.arg_one hargs, Bool.and_eq_true, hsize]
    simp [imp_iff_not_or]
  have hmech : calMechanical id.toNat = decide (1 ≤ id.toNat ∧ id.toNat ≤ 4) := by simp [calMechanical]
  have hvalue : r.args.drop 2 = v := by rw [hargs]; rfl
  have hnode : (s.popped rest).node = s.node := rfl
  have hcal : (s.popped rest).cal = s.cal := rfl
  simp only [handlerOf, calWrite, hfree, Bool.false_eq_true, if_false, Bool.not_eq_true', ← Bool.not_eq_true, hform, hmech,
    Bool.and_eq_true, decide_eq_true_iff, bne_iff_ne, hnode, hcal, Request.arg_zero hargs, Request.arg_one hargs, hvalue] <;> rfl

/-- SETUP_WRITE outside RESTORING, on the bytes of its payload (R106). -/
theorem setupWrite_of (hp : r.payload = 0x1C#8 :: id :: idx :: v) (h : s.inRestoring = false) :
    handlerOf 0x1C r (s.popped rest) =
      if ¬(setupFieldBytes s.setup.image id.toNat idx.toNat ≠ none ∧ setupSizeOk id.toNat v.length = true) then
        refuse .badValue (s.popped rest)
      else
        match setupFieldWrite s.straps.address s.setup.image id.toNat idx.toNat v with
        | .refused => refuse .badValue (s.popped rest)
        | .stored x clamped => (storeSetupField x (s.popped rest),
            writtenVerdict r clamped (setupFieldBytes x id.toNat idx.toNat)) := by
  have hargs := Request.args_of_payload hp
  have hfree : (s.popped rest).inRestoring = false := h
  have hsetup : (s.popped rest).setup = s.setup := rfl
  have hown : (s.popped rest).ownAddress = s.straps.address := rfl
  have hform : setupWriteForm r (s.popped rest) = true ↔
      setupFieldBytes s.setup.image id.toNat idx.toNat ≠ none ∧ setupSizeOk id.toNat v.length = true := by
    have hlen : r.args.length = v.length + 2 := by rw [hargs]; rfl
    simp [setupWriteForm, hlen, hsetup, Request.arg_zero hargs, Request.arg_one hargs, Option.isSome_iff_ne_none]
  have hvalue : r.args.drop 2 = v := by rw [hargs]; rfl
  simp only [handlerOf, setupWrite, hfree, Bool.false_eq_true, if_false, Bool.not_eq_true', ← Bool.not_eq_true, hform,
    hsetup, hown, Request.arg_zero hargs, Request.arg_one hargs, hvalue] <;> rfl

theorem writtenVerdict_of (hp : ∃ code, r.payload = code :: id :: idx :: v) (clamped : Bool) (stored : List Byte) :
    writtenVerdict r clamped (some stored) =
      if clamped then .clamped (id :: idx :: stored) else .done (id :: idx :: stored) := by
  obtain ⟨code, hp⟩ := hp
  simp [writtenVerdict, Request.args_of_payload hp, byteAt]

end

theorem markCal_eq (p : State) : markCal p =
    { p with cal := { p.cal with dirty := true }
             store := if p.store.writing = some .cal then { p.store with calMarked := true } else p.store } := by
  unfold markCal
  split <;> rfl

/-- A CAL_WRITE accepted: the record, its two marks, and after a write of L_m the play (R11, R102, R112). -/
theorem storeCalField_eq (id : Nat) (c : CalRecord) (p : State) : storeCalField id c p =
    { p with
      cal := { p.cal with data := c, dirty := true }
      store := if p.store.writing = some .cal then { p.store with calMarked := true } else p.store
      pos := if id = 6 then { p.pos with s := 0, acc := 0, playKnown := !p.cal.valid || c.lm / 2 == 0 } else p.pos } := by
  have hh : ((if p.cal.valid then (c.lm : Int) / 2 else 0) == 0) = (!p.cal.valid || c.lm / 2 == 0) := by
    cases p.cal.valid with
    | false => rfl
    | true =>
      rw [Bool.eq_iff_iff]
      simp only [if_true, beq_iff_eq, Bool.not_true, Bool.false_or]
      omega
  have hmark : markCal (p.setCal { p.cal with data := c }) =
      { p with cal := { p.cal with data := c, dirty := true }
               store := if p.store.writing = some .cal then { p.store with calMarked := true } else p.store } :=
    markCal_eq _
  unfold storeCalField playAfterWrite
  rw [hmark]
  split
  · simp only [playUnknown, WorkingCal.h, hh, State.setPos]
  · rfl

theorem storeSetupField_eq (x : Setup) (p : State) : storeSetupField x p =
    { p with
      setup := { p.setup with image := x, dirty := true }
      store := if p.store.writing = some .setup then { p.store with setupMarked := true } else p.store } := by
  unfold storeSetupField
  split <;> rfl

/-- Settles O59: each write by its form, its state and its value. -/
theorem writeRequests : Obligations.WriteRequests := by
  unfold Obligations.WriteRequests
  intro s r rest w j h
  refine ⟨fun id idx v hp => ?_, fun id kind v hp => ?_⟩
  · intro sizeOk
    have hc : r.code = 0x1B := Request.code_of_payload hp
    have hj := calWrite_of rest hp h
    refine ⟨fun hbad => ?_, fun hok h1 h4 hs => ?_, fun hok hfree hv => ?_, fun c clamped stored hok hfree hv hstored => ?_⟩
    · exact w.judged_refuses rfl hc j (hj.trans (if_pos hbad))
    · exact w.judged_refuses rfl hc j (hj.trans ((if_neg (not_not.mpr hok)).trans (if_pos ⟨⟨h1, h4⟩, hs⟩)))
    · have hwritable : ¬((1 ≤ id.toNat ∧ id.toNat ≤ 4) ∧ s.node.state ≠ .unreferenced) := by
        rintro ⟨⟨-, h4⟩, hs⟩
        exact hfree.elim (by omega) hs
      rw [if_neg (not_not.mpr hok), if_neg hwritable, hv] at hj
      exact w.judged_refuses rfl hc j hj
    · have hwritable : ¬((1 ≤ id.toNat ∧ id.toNat ≤ 4) ∧ s.node.state ≠ .unreferenced) := by
        rintro ⟨⟨-, h4⟩, hs⟩
        exact hfree.elim (by omega) hs
      rw [if_neg (not_not.mpr hok), if_neg hwritable, hv] at hj
      simp only [hstored, writtenVerdict_of ⟨_, hp⟩, storeCalField_eq] at hj
      exact w.acts_settles j rfl hc (by decide) hj
  · intro formOk
    have hc : r.code = 0x1C := Request.code_of_payload hp
    have hj := setupWrite_of rest hp h
    refine ⟨fun hbad => ?_, fun hok hv => ?_, fun x clamped stored hok hv hstored => ?_⟩
    · exact w.judged_refuses rfl hc j (hj.trans (if_pos hbad))
    · rw [if_neg (not_not.mpr hok), hv] at hj
      exact w.judged_refuses rfl hc j hj
    · rw [if_neg (not_not.mpr hok), hv] at hj
      simp only [hstored, writtenVerdict_of ⟨_, hp⟩, storeSetupField_eq] at hj
      exact w.acts_settles j rfl hc (by decide) hj

/-! ### The requests of the homing (O56) -/

/-- A gate that has answered a lost permission, then finds it in a next step of the same event, answers as it would at the
event's end (R166, R170, R171). -/
theorem gateAfter_regained {s m a : State} (hf : GateFollowsPermission s) (hm : m.permission = false)
    (hg : a.gate = if s.permission = false then s.gate else gateOn false s.gate) :
    gateAfter s { a with gate := gateAfter m a } = gateAfter s a := by
  obtain ⟨happlied, -⟩ := hf
  cases ha : a.permission with
  | false =>
    have hkept : gateAfter m a = a.gate := if_pos (hm.trans ha.symm)
    rw [hkept]
  | true =>
    have hanswer : gateAfter m a = gateOn true a.gate := by
      rw [gateAfter, hm, ha, if_neg Bool.false_ne_true]
    rw [hanswer, gateAfter, gateAfter, permission_gateOn a true ha, ha]
    cases hs : s.permission with
    | false => simp only [Bool.false_eq_true, if_false, gateOn_gateOn]
    | true =>
      have hgrant : a.gate.grant = true := by
        obtain ⟨hgrant, -⟩ := (permission_iff a).mp ha
        exact hgrant
      rw [hs, if_neg (by decide)] at hg
      rw [if_pos rfl, if_pos rfl]
      cases hstate : s.gate.state with
      | applied => exact absurd ((happlied hstate).symm.trans hs) Bool.false_ne_true
      | enabling =>
        rw [hg] at hgrant
        simp [gateOn, hstate] at hgrant
      | released =>
        rw [hg] at hgrant
        simp [gateOn, hstate] at hgrant
      | engaging => rw [hg]; simp [gateOn, hstate]

theorem Settles.homing_frame {s x t : State} (h : Settles s x t) : t.homing = x.homing ∧ t.homingOp = x.homingOp := by
  rw [h.rest]
  exact ⟨rfl, rfl⟩

/-- The gate's record enters a settled state only through what the permission makes of it. -/
theorem Settles.regate {s x t : State} {g : MotionGate} (h : Settles s { x with gate := g } t)
    (hg : gateAfter s { x with gate := g } = gateAfter s x) : Settles s x t :=
  ⟨h.rest, h.mirror, h.gate.trans hg, h.placed, h.kept⟩

theorem permission_waitPeers {p : State} (h : p.node.state = .homing .waitPeers) : p.permission = false := by
  simp [State.permission, State.statePermits, h]

/-- HOMING entered, before the wait set is tested (R78, R80). -/
def homingEntered (mode : HomingMode) (p : State) : State :=
  { p with
    homing := acceptedHoming mode p.before p.cal.data
    homingOp := HomingOp.start
    node := { p.node with state := .homing .waitPeers }
    gate := gateAfter p { p with node := { p.node with state := .homing .waitPeers } }
    pos := { p.pos with driftRun := 0 } }

theorem enterHoming_eq (mode : HomingMode) {p : State} (h : p.node.state = .unreferenced ∨ p.node.state = .referenced) :
    enterHoming mode p = testWaitSet (homingEntered mode p) := by
  have hexcused (u : State) (hu : u.node.state = p.node.state) : u.conflictExcused = false := by
    rcases h with h | h <;> simp [State.conflictExcused, hu, h]
  have hopened := hexcused ((p.setHoming (acceptedHoming mode p.before p.cal.data)).setHomingOp HomingOp.start) rfl
  have hperm : ((p.setHoming (acceptedHoming mode p.before p.cal.data)).setHomingOp HomingOp.start).permission =
      p.permission := permission_congr rfl rfl rfl rfl rfl rfl (hopened.trans (hexcused p rfl).symm)
  unfold enterHoming moveNode
  simp only [judgeGate_eq]
  congr 1
  have hgate : gateAfter ((p.setHoming (acceptedHoming mode p.before p.cal.data)).setHomingOp HomingOp.start)
      (((p.setHoming (acceptedHoming mode p.before p.cal.data)).setHomingOp HomingOp.start).setNode
        { p.node with state := .homing .waitPeers }) =
      gateAfter p { p with node := { p.node with state := .homing .waitPeers } } := by
    have hwait : ({ p with node := { p.node with state := .homing .waitPeers } } : State).permission = false :=
      permission_waitPeers rfl
    have hwait' : (((p.setHoming (acceptedHoming mode p.before p.cal.data)).setHomingOp HomingOp.start).setNode
        { p.node with state := .homing .waitPeers }).permission = false := permission_waitPeers rfl
    rw [gateAfter, gateAfter, hperm, hwait, hwait']
    rfl
  rw [homingEntered, ← hgate]
  rfl

/-- The test of the wait set in WAIT_PEERS (R80). -/
theorem testWaitSet_of_waiting {v : State} (h : v.node.state = .homing .waitPeers) : ∃ op, testWaitSet v =
    if v.waitSet.all v.peerReady = true then moveNode { v.node with state := .homing .armed } (v.setHomingOp op)
    else v.setHomingOp op := ⟨_, if_pos h⟩

/-- A HOMING that ends: one judgement of the permission, at the node's return (R94, R166). -/
theorem endHoming_judged (o : HomingOutcome) (why : HomingReason) {p : State} (h : p.inHoming = true) :
    endHoming o why p = judgeGate p { p with
      homing := { p.homing with outcome := o, reason := why }
      homingOp := HomingOp.start
      node := { p.node with state := if p.homing.before = some .referenced then .referenced else .unreferenced }
      pos := { p.pos with driftRun := if p.homing.before = some .referenced then 0 else p.pos.driftRun } } := by
  rw [endHoming, if_pos h, judgeGate_eq]
  unfold returnFromHoming closeHoming moveNode
  simp only [judgeGate_eq]
  split
  · next hb =>
    have hb' : p.homing.before = some .referenced := hb
    rw [if_pos hb', if_pos hb']
    rfl
  · next hb =>
    have hb' : ¬p.homing.before = some .referenced := hb
    rw [if_neg hb', if_neg hb']
    rfl

section
variable {s : State} {r : Request} {rest : List Request} (w : Waiting s r rest) (j : Judged s r)
include w j

/-- A homing request that is accepted (R78 to R80). -/
theorem exec_opensHoming (hf : GateFollowsPermission s) {c : Instr} {code : Nat} {mode : HomingMode}
    (hc : requestCode c = some code) (hr : r.code = code) (hne : code ≠ 0x1E)
    (h : s.node.state = .unreferenced ∨ s.node.state = .referenced)
    (hj : handlerOf code r (s.popped rest) = (enterHoming mode (s.popped rest), .accepted)) :
    ∃ t, exec c s = .next t ∧
      ((∀ a ∈ s.setup.latched.waitSet ++ s.setup.latched.source.toList, s.peerReady a = true) →
        t.node = { s.node with state := .homing .armed }) ∧
      (¬(∀ a ∈ s.setup.latched.waitSet ++ s.setup.latched.source.toList, s.peerReady a = true) →
        t.node = { s.node with state := .homing .waitPeers }) ∧
      Settles s { answered s r rest .accepted with
        node := t.node, homingOp := t.homingOp
        gate := gateAfter s { s with node := { s.node with state := .homing .waitPeers } }
        pos := { s.pos with driftRun := 0 }, homing := acceptedHoming mode s.before s.cal.data } t := by
  have hnode : (s.popped rest).node.state = .unreferenced ∨ (s.popped rest).node.state = .referenced := h
  obtain ⟨t, he, ht⟩ := w.acts_settles j hc hr hne hj
  obtain ⟨op, htest⟩ := testWaitSet_of_waiting (v := homingEntered mode (s.popped rest)) rfl
  rw [enterHoming_eq mode hnode, htest] at ht
  have hall : (homingEntered mode (s.popped rest)).waitSet.all (homingEntered mode (s.popped rest)).peerReady = true ↔
      ∀ a ∈ s.setup.latched.waitSet ++ s.setup.latched.source.toList, s.peerReady a = true := List.all_eq_true
  obtain ⟨-, -, -, -, -, -, -, -, -, htnode, -⟩ := ht.frame
  obtain ⟨-, htop⟩ := ht.homing_frame
  refine ⟨t, he, ?_⟩
  by_cases hready : ∀ a ∈ s.setup.latched.waitSet ++ s.setup.latched.source.toList, s.peerReady a = true
  · rw [if_pos (hall.mpr hready), moveNode, judgeGate_eq] at ht htnode htop
    refine ⟨fun _ => htnode, (absurd hready ·), ?_⟩
    rw [htnode, htop]
    refine Settles.regate ht (gateAfter_regained hf
      (m := (homingEntered mode (s.popped rest)).setHomingOp op) (permission_waitPeers rfl) ?_)
    have hwait : ({ s with node := { s.node with state := .homing .waitPeers } } : State).permission = false :=
      permission_waitPeers rfl
    show gateAfter s { s with node := { s.node with state := .homing .waitPeers } } = _
    rw [gateAfter, hwait]
  · rw [if_neg fun hx => hready (hall.mp hx)] at ht htnode htop
    refine ⟨(absurd · hready), fun _ => htnode, ?_⟩
    rw [htnode, htop]
    exact ht

theorem exec_homeAbort (hp : r.payload = [0x15#8]) (h : s.inHoming = true) :
    ∃ t, exec .homeAbort s = .next t ∧
      Settles s { answered s r rest (.done []) with
        homing := { s.homing with outcome := .aborted, reason := .none }, homingOp := t.homingOp, pos := t.pos
        node := { s.node with state := if s.homing.before = some .referenced then .referenced else .unreferenced } } t ∧
      t.homingOp.captured = false ∧ t.pos = { s.pos with driftRun := t.pos.driftRun } ∧
      (s.homing.before = some .referenced → t.pos.driftRun = 0) := by
  have hc : r.code = 0x15 := Request.code_of_payload hp
  have hlen : r.args.length = 0 := congrArg List.length (Request.args_of_payload hp)
  have hhoming : (s.popped rest).inHoming = true := h
  have hj : handlerOf 0x15 r (s.popped rest) = (endHoming .aborted .none (s.popped rest), .done []) := by
    simp [handlerOf, homeAbort, hhoming, hlen]
  rw [endHoming_judged _ _ hhoming] at hj
  obtain ⟨t, he, ht⟩ := w.acts_settles_judged (c := .homeAbort) j rfl hc (by decide) rfl hj
  obtain ⟨-, hop⟩ := ht.homing_frame
  obtain ⟨-, -, -, -, hpos, -⟩ := ht.frame
  refine ⟨t, he, ?_, by rw [hop]; rfl, by rw [hpos]; rfl, fun hb => ?_⟩
  · rw [hop, hpos]
    exact ht
  · rw [hpos]
    exact if_pos hb

end

/-- Settles O56: the gate's premise carries the one judgement over the step through WAIT_PEERS. -/
theorem homingRequests : Obligations.HomingRequests := by
  unfold Obligations.HomingRequests
  intro s r rest w j hf before ready waiting opened
  refine ⟨fun hp h => ?_, fun hp h => ?_, exec_homeAbort w j⟩
  · have hc : r.code = 0x13 := Request.code_of_payload hp
    have hlen : r.args.length = 0 := congrArg List.length (Request.args_of_payload hp)
    have hnode : (s.popped rest).node.state = .unreferenced ∨ (s.popped rest).node.state = .referenced := h
    have hoperating := operating_of_state hnode
    have hrestoring := inRestoring_of_state hnode
    have hcal : (s.popped rest).cal = s.cal := rfl
    refine ⟨fun hv => ?_, fun hv hl => ?_, fun hv hl => ?_⟩
    · refine w.judged_refuses rfl hc j ?_
      simp [handlerOf, homeArm, hoperating, hrestoring, hlen, hcal, hv]
    · refine w.judged_refuses rfl hc j ?_
      simp [handlerOf, homeArm, hoperating, hrestoring, hlen, hcal, hv, hl]
    · refine exec_opensHoming w j hf rfl hc (by decide) h ?_
      simp [handlerOf, homeArm, hoperating, hrestoring, hlen, hcal, hv, hl]
  · have hc : r.code = 0x14 := Request.code_of_payload hp
    have hlen : r.args.length = 0 := congrArg List.length (Request.args_of_payload hp)
    have hnode : (s.popped rest).node.state = .referenced := h
    have hoperating := operating_of_state (.inr hnode)
    refine exec_opensHoming w j hf rfl hc (by decide) (.inr h) ?_
    simp [handlerOf, homeLearn, hoperating, hnode, hlen]

end Sys2Proof.Machine
end

section
/-! The RDY level, the settle, bite and retry timers (O52). -/

namespace Sys2Proof.Machine

theorem permission_of_grant {x : State} (h : x.gate.grant = false) : x.permission = false := by
  simp [State.permission, h]

/-- With the permission lost the gate closes by its state (R170, R171). -/
theorem gateAfter_of_lost {s x : State} (hs : s.permission = true) (hx : x.permission = false) :
    gateAfter s x = gateOn false x.gate := by
  rw [gateAfter, hs, hx, if_neg (by decide)]

theorem gateAfter_of_same {s x : State} (h : x.permission = s.permission) : gateAfter s x = x.gate := if_pos h.symm

/-- The grant stays where a permission is gained. -/
theorem gateAfter_grant_of_gained {s x : State} (hs : s.permission = false) : (gateAfter s x).grant = x.gate.grant := by
  unfold gateAfter
  split
  · rfl
  · next h =>
    have hx : x.permission = true := by
      cases hp : x.permission with
      | true => rfl
      | false => exact absurd (hs.trans hp.symm) h
    rw [hx]
    cases hg : x.gate.state <;> simp [gateOn, hg]

/-- The record of the gate when RDY falls (R167). -/
def rdyLow (g : MotionGate) : MotionGate := { g with rdyLevel := .low, grant := false, jog := false }

section
variable {s : State}

theorem rdyLevelLow_spec (hm : s.mainUp = true) (hr : s.gate.rdyLevel = .high) :
    ∃ t, exec .rdyLevelLow s = .next t ∧ t.gate.grant = false ∧ t.gate.jog = false ∧ t.gate.rdyLevel = .low ∧
      t.permission = false ∧ t.faults = { s.faults with
        haltCount := if s.faults.haltCount < 255 then s.faults.haltCount + 1 else 255 } ∧
      (s.permission = true → s.gate.state = .released → t.gate.state = .engaging) ∧
      (s.permission = true → s.gate.state = .enabling → t.gate.state = .applied) ∧ t.node = s.node ∧ t.pos = s.pos := by
  obtain ⟨x, hxe⟩ : ∃ x, x = (s.setGate (rdyLow s.gate)).setFaults
      { s.faults with haltCount := satSucc 255 s.faults.haltCount } := ⟨_, rfl⟩
  have hx : x.permission = false := permission_of_grant (by rw [hxe]; rfl)
  have hxg : x.gate = rdyLow s.gate := by rw [hxe]; rfl
  have hs := conclude_settles s x
  obtain ⟨-, -, -, -, hpos, -, -, -, -, hnode, -, -, -, -, -, hfaults, -⟩ := hs.frame
  have hexec : exec .rdyLevelLow s = .next (conclude s x) :=
    congrArg (fun t => Host.Outcome.next (conclude s t)) ((if_pos (by simp [hm, hr])).trans hxe.symm)
  have hkept : ∀ p, (gateOn p (rdyLow s.gate)).grant = false ∧ (gateOn p (rdyLow s.gate)).jog = false ∧
      (gateOn p (rdyLow s.gate)).rdyLevel = .low := by
    intro p
    unfold gateOn
    split <;> exact ⟨rfl, rfl, rfl⟩
  have hgate := hs.gate
  have hrecord (t : State) (ht : t.gate = gateAfter s x) :
      t.gate.grant = false ∧ t.gate.jog = false ∧ t.gate.rdyLevel = .low := by
    rw [ht, gateAfter, hxg]
    split
    · exact ⟨rfl, rfl, rfl⟩
    · exact hkept _
  obtain ⟨hgrant, hjog, hlevel⟩ := hrecord _ hgate
  refine ⟨_, hexec, hgrant, hjog, hlevel, permission_of_grant hgrant, by rw [hfaults, hxe]; rfl, fun hp hstate => ?_, fun hp hstate => ?_,
    by rw [hnode, hxe]; rfl, by rw [hpos, hxe]; rfl⟩
  · rw [hgate, gateAfter_of_lost hp hx]
    simp [hxg, gateOn, rdyLow, hstate]
  · rw [hgate, gateAfter_of_lost hp hx]
    simp [hxg, gateOn, rdyLow, hstate]

theorem rdyLevelHigh_spec (hm : s.mainUp = true) (hr : s.gate.rdyLevel = .low) (hh : s.rdyHeld = false) :
    ∃ t, exec .rdyLevelHigh s = .next t ∧ Settles s { s with gate := { s.gate with rdyLevel := .high } } t ∧
      t.gate.grant = s.gate.grant := by
  have hs := conclude_settles s (s.setGate { s.gate with rdyLevel := .high })
  have hlow : s.permission = false := by simp [State.permission, hr]
  refine ⟨_, congrArg (fun t => Host.Outcome.next (conclude s t)) (if_pos (by simp [hm, hr, hh])), hs, ?_⟩
  rw [hs.gate, gateAfter_grant_of_gained hlow]
  rfl

/-- A step of the gate's state alone: the permission does not read it. -/
theorem gate_step (s : State) (g : GateState) :
    (conclude s (s.setGate { s.gate with state := g })).gate = { s.gate with state := g } ∧
      Settles s { s with gate := { s.gate with state := g } } (conclude s (s.setGate { s.gate with state := g })) := by
  have hs := conclude_settles s (s.setGate { s.gate with state := g })
  exact ⟨hs.gate.trans (gateAfter_of_same rfl), hs⟩

theorem settleExpiry_spec (hg : s.gate.state = .enabling) (hp : s.permission = true) :
    ∃ t, exec .settleExpiry s = .next t ∧ t.gate = { s.gate with state := .released } ∧ t.brk = true ∧
      Settles s { s with gate := { s.gate with state := .released } } t := by
  obtain ⟨hgate, hs⟩ := gate_step s .released
  refine ⟨_, congrArg (fun t => Host.Outcome.next (conclude s t)) (if_pos ⟨hg, hp⟩), hgate, ?_, hs⟩
  rw [State.brk, hgate]
  rfl

theorem biteExpiry_spec (hg : s.gate.state = .engaging) :
    ∃ t, exec .biteExpiry s = .next t ∧
      t.gate = { s.gate with state := if s.permission then .enabling else .applied } ∧ t.brk = false ∧
      Settles s { s with gate := { s.gate with state := if s.permission then .enabling else .applied } } t := by
  obtain ⟨hgate, hs⟩ := gate_step s (if s.permission then .enabling else .applied)
  refine ⟨_, congrArg (fun t => Host.Outcome.next (conclude s t)) (if_pos hg), hgate, ?_, hs⟩
  rw [State.brk, hgate]
  cases s.permission <;> rfl

/-- The retry that its timer's end brings about (R180). -/
theorem retryTimerExpiry_departs (ht : s.faults.retryTimer = .running) (hr : s.setup.latched.recovery = .retry)
    (ha : s.active .motorEncoder = true) (hg : 8 ≤ s.enc.motor.goodRun) :
    ∃ t, exec .retryTimerExpiry s = .next t ∧ Settles s { s with faults := { s.faults with
      active := kindRemove s.faults.active .motorEncoder, present := kindRemove s.faults.present .motorEncoder
      retryTimer := .stopped } } t := by
  have htest : retryTest (s.setFaults { s.faults with retryTimer := .expired }) =
      judgeGate s { s with faults := { s.faults with
        active := kindRemove s.faults.active .motorEncoder, present := kindRemove s.faults.present .motorEncoder
        retryTimer := .stopped } } :=
    retryTest_departs (s := s.setFaults { s.faults with retryTimer := .expired }) hr ha rfl hg
  refine ⟨_, congrArg (fun t => Host.Outcome.next (conclude s t)) ((if_pos ht).trans htest), settles_judged _ _⟩

theorem retryTimerExpiry_waits (ht : s.faults.retryTimer = .running) (hg : s.enc.motor.goodRun < 8) :
    exec .retryTimerExpiry s = .next { s with faults := { s.faults with retryTimer := .expired } } := by
  have htest : retryTest (s.setFaults { s.faults with retryTimer := .expired }) =
      s.setFaults { s.faults with retryTimer := .expired } := if_neg fun ⟨_, _, _, h⟩ => hg.not_ge h
  exact (congrArg (fun t => Host.Outcome.next (conclude s t)) ((if_pos ht).trans htest)).trans
    (next_quiet (.inl ⟨rfl, rfl⟩) rfl rfl)

end

/-- Settles O52, timer by timer. -/
theorem gateAndRetryTimers : Obligations.GateAndRetryTimers := by
  unfold Obligations.GateAndRetryTimers
  exact fun s => ⟨rdyLevelLow_spec, rdyLevelHigh_spec, settleExpiry_spec, biteExpiry_spec, retryTimerExpiry_departs,
    retryTimerExpiry_waits⟩

end Sys2Proof.Machine
end

section
/-! The Calibration Store's commands: the load and the read-back (O46), the end of a write and its verify (O47). -/

namespace Sys2Proof.Machine

/-! ### Kinds that leave the count and the node -/

/-- Outside HOMING a kind that leaves the absolute count leaves the node and the count. -/
theorem notice_outside {k : FaultKind} {s : State} (hk : removingKind k = false) (hs : s.inHoming = false) :
    (notice k s).node = s.node ∧ (notice k s).pos = s.pos := by
  obtain ⟨f, g, e⟩ := noticeWith_keeping k .none s hk
  have hidle : ((s.setFaults f).setGate g).inHoming = false := hs
  rw [notice, e]
  split
  · exact ⟨rfl, rfl⟩
  · have hsame : endHomingByFault k ((s.setFaults f).setGate g) = (s.setFaults f).setGate g := by
      rw [endHomingByFault, endHoming, hidle, if_neg Bool.false_ne_true, ite_self]
    rw [hsame]
    exact ⟨rfl, rfl⟩

/-- A kind whose condition's going is its departure is not active after it (R179). -/
theorem conditionGone_clears {k : FaultKind} (s : State) (h1 : k ≠ .motorEncoder) (h2 : k ≠ .addressClash)
    (he : eventKind k = false) : kindHas (conditionGone k s).faults.active k = false := by
  by_cases ha : s.active k = true
  · rw [conditionGone_departs ha h1 h2 he]
    simp [depart, departKind]
  · rw [Bool.not_eq_true] at ha
    rw [conditionGone_inactive ha]
    exact ha

/-! ### The load (O46) -/

/-- The load before the notices of bad records (R59). -/
def loadedState (s : State) : State :=
  let setup := judgeSetup s.ownAddress s.store.setupArea
  let cal := judgeCal s.store.calArea
  let s1 := (s.setSetup (loadedSetup setup.2)).setCal (loadedCal cal.2)
  let s2 := s1.setSelfCheck { s1.selfCheck with setupRecord := setup.1, calRecord := cal.1 }
  let s3 := (s2.setPeers (PeerTable.start s2.setup.latched.members)).setEpoch (EpochUnit.begin s.pins.smpHigh)
  s3.setPos { s3.pos with playKnown := s3.cal.h == 0 }

theorem loadedState_frame (s : State) : (loadedState s).node = s.node ∧ (loadedState s).faults = s.faults ∧
    (loadedState s).ret = s.ret ∧ (loadedState s).store = s.store ∧ (loadedState s).pos.p = s.pos.p := by
  simp [loadedState]

theorem loadStore_eq (s : State) : loadStore s = noticeIfBad .calInvalid (judgeCal s.store.calArea).1
    (noticeIfBad .setupInvalid (judgeSetup s.ownAddress s.store.setupArea).1 (loadedState s)) := rfl

theorem noticeIfBad_outside {k : FaultKind} {s : State} (c : RecordCheck) (hk : removingKind k = false)
    (hs : s.inHoming = false) : (noticeIfBad k c s).node = s.node ∧ (noticeIfBad k c s).pos = s.pos := by
  unfold noticeIfBad
  split
  · exact ⟨rfl, rfl⟩
  · exact notice_outside hk hs

theorem noticeIfBad_active {k : FaultKind} {s : State} {c : RecordCheck} (h : c ≠ .good) :
    (noticeIfBad k c s).active k = true := by
  rw [noticeIfBad, if_neg h]
  exact noticeWith_active k .none s

theorem noticeIfBad_keeps {k j : FaultKind} {s : State} (c : RecordCheck) (h : s.active j = true) :
    (noticeIfBad k c s).active j = true := by
  unfold noticeIfBad
  split
  · exact h
  · exact noticeWith_keeps .none h

theorem loadStore_spec {s : State} (hs : s.node.state = .startup) :
    (loadStore s).node = s.node ∧ (loadStore s).pos = (loadedState s).pos ∧
    ((judgeSetup s.ownAddress s.store.setupArea).1 ≠ .good → (loadStore s).active .setupInvalid = true) ∧
    ((judgeCal s.store.calArea).1 ≠ .good → (loadStore s).active .calInvalid = true) ∧
    ((judgeSetup s.ownAddress s.store.setupArea).1 = .good → (judgeCal s.store.calArea).1 = .good →
      (loadStore s).faults = s.faults) := by
  obtain ⟨lnode, lfaults, -⟩ := loadedState_frame s
  have hstart (u : State) (hu : u.node = s.node) : u.inHoming = false := by simp [State.inHoming, hu, hs]
  rw [loadStore_eq]
  obtain ⟨x, hx⟩ : ∃ x, x = (judgeSetup s.ownAddress s.store.setupArea).1 := ⟨_, rfl⟩
  obtain ⟨y, hy⟩ : ∃ y, y = (judgeCal s.store.calArea).1 := ⟨_, rfl⟩
  rw [← hx, ← hy]
  obtain ⟨hnode, hpos⟩ := noticeIfBad_outside (k := .setupInvalid) x rfl (hstart _ lnode)
  obtain ⟨hnode', hpos'⟩ := noticeIfBad_outside (k := .calInvalid) y rfl (hstart _ (hnode.trans lnode))
  refine ⟨hnode'.trans (hnode.trans lnode), hpos'.trans hpos, fun h => noticeIfBad_keeps _ (noticeIfBad_active h),
    fun h => noticeIfBad_active h, fun h1 h2 => ?_⟩
  rw [noticeIfBad, if_pos h2, noticeIfBad, if_pos h1, lfaults]

theorem storeLoadComplete_spec {s : State} (hs : s.node.state = .startup) (ha : s.straps.address ≠ 15#4)
    (hx : s.straps.axis ≠ 0#3) (hr : s.epoch.running = false) :
    ∃ t, exec .storeLoadComplete s = .next t ∧ Settles s (loadStore s) t :=
  ⟨_, congrArg (fun t => Host.Outcome.next (conclude s t)) (if_pos ⟨hs, by simp [strapsValid, ha, hx], hr⟩),
    conclude_settles _ _⟩

theorem loadStore_records (s : State) :
    (loadStore s).setup = (match (judgeSetup s.ownAddress s.store.setupArea).2 with
      | some x => ⟨x, x, false⟩
      | none => ⟨Setup.defaults, Setup.defaults, false⟩) ∧
    (loadStore s).cal = (match (judgeCal s.store.calArea).2 with
      | some x => ⟨x, true, false⟩
      | none => ⟨CalRecord.blank, false, false⟩) ∧
    (loadStore s).selfCheck = (loadedState s).selfCheck ∧ (loadStore s).peers = (loadedState s).peers ∧
    (loadStore s).epoch = EpochUnit.begin s.pins.smpHigh ∧ (loadStore s).ret.record = s.ret.record ∧
    (loadStore s).store = s.store ∧ (loadStore s).setup = (loadedState s).setup := by
  have hsetup : (loadStore s).setup = (loadedState s).setup := by rw [loadStore_eq]; simp
  have hcal : (loadStore s).cal = (loadedState s).cal := by rw [loadStore_eq]; simp
  refine ⟨?_, ?_, ?_, ?_, ?_, ?_, ?_, hsetup⟩
  · rw [hsetup]
    simp only [loadedState, loadedSetup]
    cases (judgeSetup s.ownAddress s.store.setupArea).2 <;> rfl
  · rw [hcal]
    simp only [loadedState, loadedCal]
    cases (judgeCal s.store.calArea).2 <;> rfl
  all_goals
    rw [loadStore_eq]
    simp [loadedState]

theorem selfCheckReadback_spec (setupMatch calMatch : Bool) {s : State} (hs : s.node.state = .startup)
    (hr : s.epoch.running = true) (hw : s.link.watching = false) :
    exec (.selfCheckReadback setupMatch calMatch) s = .next { s with
      selfCheck := readBackResults setupMatch calMatch s.selfCheck
      link := { s.link with watching := true } } := by
  have h : (if s.node.state = .startup ∧ s.epoch.running = true ∧ s.link.watching = false then
      (s.setSelfCheck (readBackResults setupMatch calMatch s.selfCheck)).setLink { s.link with watching := true } else s) =
      (s.setSelfCheck (readBackResults setupMatch calMatch s.selfCheck)).setLink { s.link with watching := true } :=
    if_pos ⟨hs, hr, hw⟩
  exact (congrArg (fun t => Host.Outcome.next (conclude s t)) h).trans (next_quiet (.inl ⟨rfl, rfl⟩) rfl rfl)

theorem copyCheck_eq (record : RecordCheck) (same : Bool) : copyCheck record same =
    if record = .good then (if same then CopyCheck.isMatch else .mismatch) else .notApplicable := by
  cases record <;> rfl

theorem judgeCal_written (c : CalRecord) (crc : BitVec 16) :
    (crc ≠ crc16 (calRecordBytes c) → judgeCal (.written c crc) = (.badCrc, none)) ∧
    (crc = crc16 (calRecordBytes c) → calRecordOk c = false → judgeCal (.written c crc) = (.badContent, none)) ∧
    (crc = crc16 (calRecordBytes c) → calRecordOk c = true → judgeCal (.written c crc) = (.good, some c)) := by
  refine ⟨fun h => ?_, fun h hok => ?_, fun h hok => ?_⟩
  · rw [judgeCal, if_neg h]
  · rw [judgeCal, if_pos h, if_neg (by simp [hok])]
  · rw [judgeCal, if_pos h, if_pos hok]

theorem judgeSetup_written (own : Address) (x : Setup) (crc : BitVec 16) :
    (crc ≠ crc16 (setupRecordBytes x) → judgeSetup own (.written x crc) = (.badCrc, none)) ∧
    (crc = crc16 (setupRecordBytes x) → setupRecordOk own x = false → judgeSetup own (.written x crc) = (.badContent, none)) ∧
    (crc = crc16 (setupRecordBytes x) → setupRecordOk own x = true → judgeSetup own (.written x crc) = (.good, some x)) := by
  refine ⟨fun h => ?_, fun h hok => ?_, fun h hok => ?_⟩
  · rw [judgeSetup, if_neg h]
  · rw [judgeSetup, if_pos h, if_neg (by simp [hok])]
  · rw [judgeSetup, if_pos h, if_pos hok]

/-- Settles O46: the load, the read-back and the judgement of an area. -/
theorem loadAndJudgeRecords : Obligations.LoadAndJudgeRecords := by
  unfold Obligations.LoadAndJudgeRecords
  refine ⟨⟨fun s hs ha hx hr => ?_, fun setupMatch calMatch s hs hr hw => ?_⟩, ⟨rfl, judgeCal_written⟩,
    fun own => ⟨rfl, judgeSetup_written own⟩⟩
  · obtain ⟨t, he, ht⟩ := storeLoadComplete_spec hs ha hx hr
    obtain ⟨-, -, hepoch, -, hpos, -, -, hpeers, hrecord, hnode, -, hcal, hsetup, hstore, hself, hfaults, -⟩ := ht.frame
    obtain ⟨rsetup, rcal, rself, rpeers, repoch, rrecord, rstore, rsame⟩ := loadStore_records s
    obtain ⟨lnode, lpos, lsetup, lcal, lgood⟩ := loadStore_spec hs
    rw [repoch] at hepoch
    refine ⟨t, he, hsetup.trans rsetup, hcal.trans rcal, hself.trans rself, ?_, ?_⟩
    · rw [hpeers, rpeers, hsetup, rsame]
      rfl
    · rw [hepoch, hnode, lnode, hpos, lpos, hrecord, rrecord, hstore, rstore, hfaults]
      exact ⟨rfl, rfl, rfl, rfl, rfl, rfl, rfl, hs, rfl, rfl, rfl, lsetup, lcal, lgood⟩
  · intro found
    rw [selfCheckReadback_spec setupMatch calMatch hs hr hw, readBackResults, copyCheck_eq, copyCheck_eq]

/-! ### The end of a write (O47) -/

section
variable {s : State}

theorem storeCrcWritten_spec {a : StoreTarget} (hc : s.store.crcWritten = false) (hw : s.store.writing = some a) :
    exec .storeCrcWritten s = .next { s with store := writeCrc a s.store } := by
  have h : (match s.store.writing with
      | some t => if s.store.crcWritten then s else s.setStore (writeCrc t s.store)
      | none => s) = s.setStore (writeCrc a s.store) := by
    rw [hw]
    exact if_neg (by simp [hc])
  refine (congrArg (fun t => Host.Outcome.next (conclude s t)) h).trans (next_quiet (.inl ⟨rfl, rfl⟩) rfl ?_)
  cases a <;> rfl

theorem exec_storeVerify {a : StoreTarget} {found : ReadBack} (hc : s.store.crcWritten = true)
    (hw : s.store.writing = some a) :
    ∃ t, exec (.storeVerify found) s = .next t ∧ Settles s (verifyStore a found s) t := by
  have h : (match s.store.writing with
      | some t => if s.store.crcWritten then verifyStore t found s else s
      | none => s) = verifyStore a found s := by
    rw [hw]
    exact if_pos hc
  exact ⟨_, congrArg (fun t => Host.Outcome.next (conclude s t)) h, conclude_settles _ _⟩

theorem validateCal_spec (p : State) : (validateCal p).cal = { p.cal with valid := true } ∧
    (validateCal p).store = p.store ∧ (validateCal p).node = p.node ∧ (validateCal p).setup = p.setup ∧
    (p.cal.valid = true → (validateCal p).pos = p.pos) ∧
    (p.cal.valid = false →
      (validateCal p).pos = { p.pos with s := 0, acc := 0, playKnown := p.cal.data.lm / 2 == 0 }) := by
  cases hv : p.cal.valid with
  | true =>
    have hsame : validateCal p = p := if_pos hv
    rw [hsame, ← hv]
    exact ⟨rfl, rfl, rfl, rfl, fun _ => rfl, fun h => absurd (hv.symm.trans h) (by decide)⟩
  | false =>
    have hset : validateCal p = (p.setCal { p.cal with valid := true }).setPos
        (playUnknown (p.setCal { p.cal with valid := true }).cal.h p.pos) := if_neg (by simp [hv])
    rw [hset]
    refine ⟨rfl, rfl, rfl, rfl, fun h => absurd h (by decide), fun _ => ?_⟩
    have hh : ((p.cal.data.lm : Int) / 2 == 0) = (p.cal.data.lm / 2 == 0) := by
      rw [Bool.eq_iff_iff, beq_iff_eq, beq_iff_eq]
      omega
    rw [← hh]
    rfl

theorem calVerified_spec (p : State) : (calVerified p).store = storeIdle { p.store with calOutcome := .verified } ∧
    (calVerified p).cal = { p.cal with valid := true, dirty := p.cal.dirty && p.store.calMarked } ∧
    kindHas (calVerified p).faults.active .calInvalid = false ∧ (calVerified p).node = p.node ∧
    (calVerified p).setup = p.setup ∧ (p.cal.valid = true → (calVerified p).pos = p.pos) ∧
    (p.cal.valid = false →
      (calVerified p).pos = { p.pos with s := 0, acc := 0, playKnown := p.cal.data.lm / 2 == 0 }) := by
  obtain ⟨hcal, -, -, -, hvalid, hinvalid⟩ := validateCal_spec
    ((p.setCal { p.cal with dirty := p.cal.dirty && p.store.calMarked }).setStore
      (storeIdle { p.store with calOutcome := .verified }))
  refine ⟨?_, ?_, conditionGone_clears _ (by decide) (by decide) rfl, ?_, ?_, fun h => ?_, fun h => ?_⟩
  · simp [calVerified]
  · simpa [calVerified] using hcal
  · simp [calVerified]
  · simp [calVerified]
  · simpa [calVerified] using hvalid h
  · simpa [calVerified] using hinvalid h

theorem setupVerified_spec (p : State) : (setupVerified p).store = storeIdle { p.store with setupOutcome := .verified } ∧
    (setupVerified p).setup = { p.setup with dirty := p.setup.dirty && p.store.setupMarked } ∧
    kindHas (setupVerified p).faults.active .setupInvalid = false ∧ (setupVerified p).node = p.node ∧
    (setupVerified p).cal = p.cal ∧ (setupVerified p).pos = p.pos := by
  refine ⟨?_, ?_, conditionGone_clears _ (by decide) (by decide) rfl, ?_, ?_, ?_⟩
  all_goals simp [setupVerified]

theorem storeFailed_spec (p : State) :
    (notice .storeFailed p).store = p.store ∧ (notice .storeFailed p).cal = p.cal ∧ (notice .storeFailed p).setup = p.setup ∧
    kindHas (notice .storeFailed p).faults.active .storeFailed = true ∧
    kindHas (notice .storeFailed p).faults.present .storeFailed = false ∧
    kindHas (notice .storeFailed p).faults.active .calInvalid = p.active .calInvalid := by
  refine ⟨by simp, by simp, by simp, noticeWith_active _ _ _, ?_, (noticeWith_other .none p (by decide)).1⟩
  rw [notice, noticeWith_present]
  simp [notedPresent, eventKind]

theorem verify_cal (hc : s.store.crcWritten = true) (hw : s.store.writing = some .cal) :
    ∃ t, exec (.storeVerify .asWritten) s = .next t ∧ t.store.writing = none ∧ t.store.calOutcome = .verified ∧
      t.store.setupOutcome = s.store.setupOutcome ∧ t.store.calArea = s.store.calArea ∧
      t.cal = { s.cal with valid := true, dirty := s.cal.dirty && s.store.calMarked } ∧
      kindHas t.faults.active .calInvalid = false ∧ t.node = s.node ∧ t.setup = s.setup ∧
      (s.cal.valid = true → t.pos = s.pos) ∧
      (s.cal.valid = false → t.pos = { s.pos with s := 0, acc := 0, playKnown := s.cal.data.lm / 2 == 0 }) := by
  obtain ⟨t, he, ht⟩ := exec_storeVerify (found := .asWritten) hc hw
  obtain ⟨-, -, -, -, hpos, -, -, -, -, hnode, -, hcal, hsetup, hstore, -, hfaults, -⟩ := ht.frame
  obtain ⟨vstore, vcal, vkind, vnode, vsetup, vvalid, vinvalid⟩ := calVerified_spec s
  refine ⟨t, he, ?_⟩
  rw [hpos, hnode, hcal, hsetup, hstore, hfaults]
  simp only [verifyStore]
  rw [vstore]
  exact ⟨rfl, rfl, rfl, rfl, vcal, vkind, vnode, vsetup, vvalid, vinvalid⟩

theorem verify_setup (hc : s.store.crcWritten = true) (hw : s.store.writing = some .setup) :
    ∃ t, exec (.storeVerify .asWritten) s = .next t ∧ t.store.writing = none ∧ t.store.setupOutcome = .verified ∧
      t.store.calOutcome = s.store.calOutcome ∧ t.store.setupArea = s.store.setupArea ∧
      t.setup = { s.setup with dirty := s.setup.dirty && s.store.setupMarked } ∧
      kindHas t.faults.active .setupInvalid = false ∧ t.node = s.node ∧ t.cal = s.cal ∧ t.pos = s.pos := by
  obtain ⟨t, he, ht⟩ := exec_storeVerify (found := .asWritten) hc hw
  obtain ⟨-, -, -, -, hpos, -, -, -, -, hnode, -, hcal, hsetup, hstore, -, hfaults, -⟩ := ht.frame
  obtain ⟨vstore, vsetup, vkind, vnode, vcal, vpos⟩ := setupVerified_spec s
  refine ⟨t, he, ?_⟩
  rw [hpos, hnode, hcal, hsetup, hstore, hfaults]
  simp only [verifyStore]
  rw [vstore]
  exact ⟨rfl, rfl, rfl, rfl, vsetup, vkind, vnode, vcal, vpos⟩

theorem verify_cal_failed (hc : s.store.crcWritten = true) (hw : s.store.writing = some .cal) {found : Area CalRecord}
    (hf : found ≠ .written s.store.calSnapshot (crc16 (calRecordBytes s.store.calSnapshot))) :
    ∃ t, exec (.storeVerify (.cal found)) s = .next t ∧ t.store.writing = none ∧ t.store.calOutcome = .failed ∧
      t.store.calArea = found ∧ t.cal = s.cal ∧ kindHas t.faults.active .storeFailed = true ∧
      kindHas t.faults.present .storeFailed = false ∧ s.active .calInvalid = kindHas t.faults.active .calInvalid := by
  obtain ⟨t, he, ht⟩ := exec_storeVerify (found := .cal found) hc hw
  have hverify : verifyStore .cal (.cal found) s = calFailed found s := if_neg hf
  rw [hverify] at ht
  obtain ⟨-, -, -, -, -, -, -, -, -, -, -, hcal, -, hstore, -, hfaults, -⟩ := ht.frame
  obtain ⟨fstore, fcal, -, factive, fpresent, fother⟩ :=
    storeFailed_spec (s.setStore (storeIdle { s.store with calOutcome := .failed, calArea := found }))
  refine ⟨t, he, ?_⟩
  rw [hcal, hstore, hfaults, calFailed, fstore, fcal]
  exact ⟨rfl, rfl, rfl, rfl, factive, fpresent, fother.symm⟩

theorem verify_setup_failed (hc : s.store.crcWritten = true) (hw : s.store.writing = some .setup) {found : Area Setup}
    (hf : found ≠ .written s.store.setupSnapshot (crc16 (setupRecordBytes s.store.setupSnapshot))) :
    ∃ t, exec (.storeVerify (.setup found)) s = .next t ∧ t.store.writing = none ∧ t.store.setupOutcome = .failed ∧
      t.store.setupArea = found ∧ t.setup = s.setup ∧ kindHas t.faults.active .storeFailed = true := by
  obtain ⟨t, he, ht⟩ := exec_storeVerify (found := .setup found) hc hw
  have hverify : verifyStore .setup (.setup found) s = setupFailed found s := if_neg hf
  rw [hverify] at ht
  obtain ⟨-, -, -, -, -, -, -, -, -, -, -, -, hsetup, hstore, -, hfaults, -⟩ := ht.frame
  obtain ⟨fstore, -, fsetup, factive, -⟩ :=
    storeFailed_spec (s.setStore (storeIdle { s.store with setupOutcome := .failed, setupArea := found }))
  refine ⟨t, he, ?_⟩
  rw [hsetup, hstore, hfaults, setupFailed, fstore, fsetup]
  exact ⟨rfl, rfl, rfl, rfl, factive⟩

end

/-- Settles O47, by the target and what the verify read. -/
theorem storeWriteEnds : Obligations.StoreWriteEnds := by
  unfold Obligations.StoreWriteEnds
  exact fun s => ⟨storeCrcWritten_spec, storeCrcWritten_spec, verify_cal, verify_setup,
    fun hc hw found hf => verify_cal_failed hc hw hf, fun hc hw found hf => verify_setup_failed hc hw hf⟩

end Sys2Proof.Machine
end

section
/-! The line's marks and the health counter (O48). -/

namespace Sys2Proof.Machine

/-! ### The health states (R154, R155) -/

theorem healthState_iff (n : Nat) : (healthState n = .engaged ↔ n ≤ 95) ∧ (healthState n = .caution ↔ 96 ≤ n ∧ n ≤ 159) ∧
    (healthState n = .listen ↔ 160 ≤ n ∧ n ≤ 223) ∧ (healthState n = .detached ↔ 224 ≤ n) := by
  unfold healthState
  split
  · simp; omega
  · split
    · simp; omega
    · split
      · simp; omega
      · simp; omega

theorem placing_iff (l : LinkController) : l.placing = true ↔ l.joined = true ∧ l.health < 224 := by
  rw [LinkController.placing, Bool.and_eq_true, Bool.not_eq_true', not_detached_iff]

theorem easeHealth_of_detached {s : State} (h : s.link.detached = true) : easeHealth s = s := if_pos h

theorem easeHealth_of_attached {s : State} (h : s.link.health < 224) :
    easeHealth s = { s with link := { s.link with health := s.link.health - 1 } } :=
  if_neg (by rw [(not_detached_iff _).mpr h]; exact Bool.false_ne_true)

theorem worsenHealth_of_detached {s : State} (n : Nat) (low : Bool) (h : s.link.detached = true) :
    worsenHealth n low s = s := if_pos h

theorem worsenHealth_of_lt {s : State} {n : Nat} (low : Bool) (h : s.link.health + n < 224) :
    worsenHealth n low s = { s with link := { s.link with health := s.link.health + n } } := by
  have hattached : s.link.detached = false := (not_detached_iff _).mpr (by omega)
  have hmin : min 224 (s.link.health + n) = s.link.health + n := by omega
  have hstays : ({ s.link with health := s.link.health + n } : LinkController).detached = false :=
    (not_detached_iff _).mpr h
  rw [worsenHealth, hattached, if_neg Bool.false_ne_true, hmin]
  exact if_neg (by rw [State.setLink_link, hstays]; exact Bool.false_ne_true)

/-- The state in which a node enters DETACHED. -/
def atDetach (s : State) : State := s.setLink { s.link with health := 224 }

theorem worsenHealth_of_ge {s : State} {n : Nat} (low : Bool) (h : s.link.health < 224) (hn : 224 ≤ s.link.health + n) :
    worsenHealth n low s = detach low (atDetach s) := by
  have hattached : s.link.detached = false := (not_detached_iff _).mpr h
  have hmin : min 224 (s.link.health + n) = 224 := by omega
  rw [worsenHealth, hattached, if_neg Bool.false_ne_true, hmin]
  exact if_pos ((detached_iff _).mpr (Nat.le_refl 224))

/-! ### The entry to DETACHED (R155, R198) -/

/-- Without a RESTART reply the entry raises its kind and empties the link. -/
theorem detach_of_none {s : State} (low : Bool) (h : ∀ r ∈ s.link.replies, r.restart = false) :
    detach low s = (notice .linkDetached s).setLink (flushLink s.link) := by
  have hlink : (notice .linkDetached s).link = s.link := by simp
  have hany : s.link.replies.any (fun r => r.restart) = false := by
    rw [List.any_eq_false]
    exact fun r hr => by simp [h r hr]
  unfold detach
  simp only [hlink, hany]
  exact if_neg Bool.false_ne_true

theorem detach_of_restart {s : State} (low : Bool) (h : ∃ r ∈ s.link.replies, r.restart = true) :
    detach low s = restartEntry low ((notice .linkDetached s).setLink (flushLink s.link)) := by
  have hlink : (notice .linkDetached s).link = s.link := by simp
  have hany : s.link.replies.any (fun r => r.restart) = true := List.any_eq_true.mpr h
  unfold detach
  simp only [hlink, hany]
  exact if_pos trivial

/-- What the RESTART entry leaves (R45 to R47, R198). -/
theorem restartEntry_spec (low : Bool) (v : State) :
    (restartEntry low v).ret.record.cause = .restart ∧ (restartEntry low v).ret.dwellMet = false ∧
    (restartEntry low v).link = LinkController.start ∧ (restartEntry low v).ret.mirror = v.ret.mirror ∧
    (restartEntry low v).pins.vmainGood = v.pins.vmainGood ∧
    (v.pins.vmainGood = true → (restartEntry low v).node.state = .retain) ∧
    (low = true → (restartEntry low v).ret.record.validity = .lost) ∧
    (low = false → v.ret.mirror.held = false →
      (restartEntry low v).ret.record.validity = if v.ret.mirror.abs then .valid else .unanchored) ∧
    (low = false → v.ret.mirror.held = true → (restartEntry low v).ret.record.validity = v.ret.record.validity) := by
  have hrecord : (restartEntry low v).ret.record = entryRecord .restart low v.ret := rfl
  have hlose (r : RetainedRecord) : (loseBackup r).cause = r.cause ∧ (loseBackup r).validity = .lost := by
    unfold loseBackup
    split
    · next h => exact ⟨rfl, h⟩
    · exact ⟨rfl, rfl⟩
  rw [hrecord]
  refine ⟨?_, rfl, rfl, rfl, ?_, fun hv => ?_, fun hl => ?_, fun hl hh => ?_, fun hl hh => ?_⟩
  · unfold entryRecord
    simp only
    split
    · rw [(hlose _).1]
      split <;> rfl
    · split <;> rfl
  · show (v.pins.vmainGood && RetainedCause.restart != .powerLoss) = v.pins.vmainGood
    simp
  · show downState (entryPins .restart low v.pins) = .retain
    simp [downState, entryPins, hv]
  · rw [entryRecord, if_pos hl, (hlose _).2]
  · rw [entryRecord, if_neg (by simp [hl]), if_neg (by simp [hh])]
    rfl
  · rw [entryRecord, if_neg (by simp [hl]), if_pos hh]

/-- The health counter's moves (R154, R155, R198). -/
theorem worsenHealth_spec (n : Nat) (low : Bool) (s : State) :
    (s.link.health = 224 → worsenHealth n low s = s) ∧
    (s.link.health + n < 224 → worsenHealth n low s = { s with link := { s.link with health := s.link.health + n } }) ∧
    (s.link.health < 224 → 224 ≤ s.link.health + n → (∀ r ∈ s.link.replies, r.restart = false) →
      kindHas (worsenHealth n low s).faults.active .linkDetached = true ∧
      (worsenHealth n low s).link = { s.link with
        health := 224, positionSlot := none, statusSlot := none, replies := [], requests := [], idlePeriods := 0 }) ∧
    (s.link.health < 224 → 224 ≤ s.link.health + n → (∃ r ∈ s.link.replies, r.restart = true) →
      (worsenHealth n low s).ret.record.cause = .restart ∧ (worsenHealth n low s).link = LinkController.start ∧
      (low = true → (worsenHealth n low s).ret.record.validity = .lost)) := by
  refine ⟨fun h => worsenHealth_of_detached n low ((detached_iff _).mpr (by omega)), worsenHealth_of_lt low,
    fun h hn hr => ?_, fun h hn hr => ?_⟩
  · rw [worsenHealth_of_ge low h hn, detach_of_none low (s := atDetach s) hr]
    exact ⟨noticeWith_active .linkDetached .none (atDetach s), rfl⟩
  · rw [worsenHealth_of_ge low h hn, detach_of_restart low (s := atDetach s) hr]
    obtain ⟨hcause, -, hlink, -, -, -, hlost, -⟩ := restartEntry_spec low
      ((notice .linkDetached (atDetach s)).setLink (flushLink (atDetach s).link))
    exact ⟨hcause, hlink, hlost⟩

/-! ### The marks of the line (R144, R145, R148, R156, R157) -/

section
variable {s : State}

/-- A command that moves the link alone, and no trigger of STATUS with it. -/
theorem next_link {l : LinkController} (h : healthState l.health = healthState s.link.health) :
    Host.Outcome.next (conclude s (s.setLink l)) = (.next { s with link := l } : Host.Outcome State Fault Refusal) :=
  next_quiet (.inl ⟨rfl, rfl⟩) rfl (by
    simp only [State.statusTriggers, State.setLink, h]
    rfl)

theorem exec_linkJoin (hw : s.link.watching = true) (hj : s.link.joined = false) (hh : s.link.health < 224) :
    exec .linkJoin s = .next { s with link := { lineIdle s.link with
      joined := true, beaconCount := 0, statusSlot := some ⟨kindStatus, s.straps.address, 15#4, s.statusPayload⟩ } } := by
  have hplacing : ({ lineIdle s.link with joined := true } : LinkController).placing = true :=
    (placing_iff _).mpr ⟨rfl, hh⟩
  have h : (if s.link.watching && !s.link.joined then placeStatus (s.setLink { lineIdle s.link with joined := true }) else s) =
      s.setLink { lineIdle s.link with
        joined := true, beaconCount := 0, statusSlot := some ⟨kindStatus, s.straps.address, 15#4, s.statusPayload⟩ } :=
    (if_pos (by simp [hw, hj])).trans (if_pos hplacing)
  exact (congrArg (fun t => Host.Outcome.next (conclude s t)) h).trans (next_link rfl)

theorem exec_lineIdle_attached (hj : s.link.joined = true) (hh : s.link.health < 224) :
    exec .lineIdle s = .next { s with link := lineIdle s.link } := by
  have hattached : (lineIdle s.link).detached = false := (not_detached_iff _).mpr hh
  have h : (if s.link.joined then countIdle (s.setLink (lineIdle s.link)) else s) = s.setLink (lineIdle s.link) :=
    (if_pos hj).trans (if_neg (by rw [State.setLink_link, hattached]; exact Bool.false_ne_true))
  exact (congrArg (fun t => Host.Outcome.next (conclude s t)) h).trans (next_link rfl)

/-- An idle of a DETACHED node, before its rejoin. -/
theorem countIdle_of_detached (hh : s.link.health = 224) : countIdle (s.setLink (lineIdle s.link)) =
    linkRejoin (s.setLink { lineIdle s.link with idlePeriods := satSucc 64 s.link.idlePeriods }) := by
  have hdetached : (lineIdle s.link).detached = true := (detached_iff _).mpr (show 224 ≤ s.link.health by omega)
  exact if_pos (by rw [State.setLink_link, hdetached])

theorem exec_lineIdle_counts (hj : s.link.joined = true) (hh : s.link.health = 224) (hi : s.link.idlePeriods < 63) :
    exec .lineIdle s = .next { s with link := { lineIdle s.link with idlePeriods := s.link.idlePeriods + 1 } } := by
  have hcount : satSucc 64 s.link.idlePeriods = s.link.idlePeriods + 1 := by
    unfold satSucc
    split <;> omega
  have hstays : linkRejoin (s.setLink { lineIdle s.link with idlePeriods := s.link.idlePeriods + 1 }) =
      s.setLink { lineIdle s.link with idlePeriods := s.link.idlePeriods + 1 } :=
    if_neg (by simp; omega)
  have h : (if s.link.joined then countIdle (s.setLink (lineIdle s.link)) else s) =
      s.setLink { lineIdle s.link with idlePeriods := s.link.idlePeriods + 1 } := by
    rw [if_pos hj, countIdle_of_detached hh, hcount, hstays]
  exact (congrArg (fun t => Host.Outcome.next (conclude s t)) h).trans (next_link rfl)

/-- The link of a node that rejoins, before its STATUS frame (R156). -/
def rejoinedLink (l : LinkController) : LinkController := { l with health := 0, intact := 0, idlePeriods := 0 }

theorem linkRejoin_of {v : State} (hh : v.link.health = 224) (hi : 64 ≤ v.link.idlePeriods) :
    linkRejoin v = placeStatus (conditionGone .linkDetached (v.setLink (rejoinedLink v.link))) :=
  if_pos (by rw [(detached_iff _).mpr (by omega : 224 ≤ v.link.health)]; simpa using hi)

/-- Where the gate stands judged, the STATUS payload after the event is that of its effects. -/
theorem Settles.statusPayload_of_gate {x t : State} (h : Settles s x t) (hg : gateAfter s x = x.gate) :
    t.statusPayload = x.statusPayload := by
  have hgate := h.gate.trans hg
  rw [h.rest, hgate]
  rfl

/-- A STATUS frame placed at a rejoin stands as the event ends. -/
theorem rejoin_settles {v t : State} (hl : v.link.joined = true) (hp : v.permission = s.permission)
    (ht : Settles s (placeStatus (conditionGone .linkDetached (v.setLink (rejoinedLink v.link)))) t) :
    t.link.health = 0 ∧ t.link.intact = 0 ∧ t.link.idlePeriods = 0 ∧ kindHas t.faults.active .linkDetached = false ∧
      t.link.statusSlot = some (t.ownFrame kindStatus t.statusPayload) ∧ t.link.beaconCount = 0 ∧ t.node = v.node := by
  obtain ⟨y, hy⟩ : ∃ y, y = conditionGone .linkDetached (v.setLink (rejoinedLink v.link)) := ⟨_, rfl⟩
  have hlink : y.link = rejoinedLink v.link := by rw [hy]; simp
  have hplacing : y.link.placing = true := by
    rw [hlink]
    exact (placing_iff _).mpr ⟨hl, Nat.zero_lt_succ _⟩
  have hgate : gateAfter s y = y.gate := by
    rw [hy]
    by_cases ha : (v.setLink (rejoinedLink v.link)).active .linkDetached = true
    · rw [conditionGone_departs ha (by decide) (by decide) rfl, depart, moveFaults, judgeGate_eq]
      have hsame (x : State) : gateAfter (v.setLink (rejoinedLink v.link)) x = gateAfter s x := by
        rw [gateAfter, gateAfter, show (v.setLink (rejoinedLink v.link)).permission = s.permission from hp]
      rw [hsame]
      exact gateAfter_judged s _
    · rw [Bool.not_eq_true] at ha
      rw [conditionGone_inactive ha]
      exact gateAfter_of_same hp
  have hclear : kindHas y.faults.active .linkDetached = false := by
    rw [hy]
    exact conditionGone_clears _ (by decide) (by decide) rfl
  have hnode : y.node = v.node := by rw [hy]; simp
  rw [← hy, placeStatus, if_pos hplacing] at ht
  have hpayload := ht.statusPayload_of_gate hgate
  obtain ⟨-, hstraps, -, -, -, -, -, -, -, htnode, -, -, -, -, -, hfaults, -⟩ := ht.frame
  have hslot : t.link.statusSlot = some (t.ownFrame kindStatus t.statusPayload) ∧ t.link.beaconCount = 0 := by
    by_cases hchange : s.statusTriggers = t.statusTriggers
    · obtain ⟨hkept, hcount⟩ := ht.kept (.inl hchange)
      have hown : t.ownFrame kindStatus t.statusPayload = y.ownFrame kindStatus y.statusPayload := by
        unfold State.ownFrame State.ownAddress
        rw [hpayload, hstraps]
        rfl
      exact ⟨hkept.trans (congrArg some hown.symm), hcount⟩
    · exact ht.placed hchange hplacing
  have hkept : t.link.health = y.link.health ∧ t.link.intact = y.link.intact ∧ t.link.idlePeriods = y.link.idlePeriods := by
    rw [ht.rest]
    exact ⟨rfl, rfl, rfl⟩
  rw [hlink] at hkept
  obtain ⟨hhealth, hintact, hidle⟩ := hkept
  exact ⟨hhealth, hintact, hidle, by rw [hfaults]; exact hclear, hslot.1, hslot.2, htnode.trans hnode⟩

theorem exec_lineIdle_rejoins (hj : s.link.joined = true) (hh : s.link.health = 224) (hi : s.link.idlePeriods = 63) :
    ∃ t, exec .lineIdle s = .next t ∧ t.link.health = 0 ∧ t.link.intact = 0 ∧ t.link.idlePeriods = 0 ∧
      kindHas t.faults.active .linkDetached = false ∧
      t.link.statusSlot = some (t.ownFrame kindStatus t.statusPayload) ∧ t.link.beaconCount = 0 := by
  have hcount : satSucc 64 s.link.idlePeriods = 64 := by rw [hi]; rfl
  obtain ⟨v, hv⟩ : ∃ v, v = s.setLink { lineIdle s.link with idlePeriods := 64 } := ⟨_, rfl⟩
  have h : (if s.link.joined then countIdle (s.setLink (lineIdle s.link)) else s) =
      placeStatus (conditionGone .linkDetached (v.setLink (rejoinedLink v.link))) := by
    rw [if_pos hj, countIdle_of_detached hh, hcount, ← hv]
    exact linkRejoin_of (by rw [hv]; exact hh) (by rw [hv]; exact Nat.le_refl 64)
  refine ⟨_, congrArg (fun t => Host.Outcome.next (conclude s t)) h, ?_⟩
  obtain ⟨h1, h2, h3, h4, h5, h6, -⟩ := rejoin_settles (v := v) (by rw [hv]; exact hj) (by rw [hv]; rfl)
    (conclude_settles s _)
  exact ⟨h1, h2, h3, h4, h5, h6⟩

theorem exec_linkRejoin (hj : s.link.joined = true) (hh : s.link.health = 224) (hi : 64 ≤ s.link.idlePeriods) :
    ∃ t, exec .linkRejoin s = .next t ∧ t.link.health = 0 ∧ t.link.intact = 0 ∧ t.link.idlePeriods = 0 ∧
      kindHas t.faults.active .linkDetached = false ∧
      t.link.statusSlot = some (t.ownFrame kindStatus t.statusPayload) ∧ t.link.beaconCount = 0 ∧ t.node = s.node :=
  ⟨_, congrArg (fun t => Host.Outcome.next (conclude s t)) (linkRejoin_of hh hi),
    rejoin_settles (v := s) hj rfl (conclude_settles s _)⟩

theorem exec_lineStuck (hw : s.link.watching = true) : exec .lineStuck s = .next { s with link := { s.link with
    stuck := true, dominantRun := 41, recessiveRun := 0, stuckCount := satSucc 255 s.link.stuckCount } } := by
  have h : (if s.link.watching then s.setLink { s.link with
      dominantRun := 41, recessiveRun := 0, stuck := true, stuckCount := satSucc 255 s.link.stuckCount } else s) =
      s.setLink { s.link with
        stuck := true, dominantRun := 41, recessiveRun := 0, stuckCount := satSucc 255 s.link.stuckCount } := if_pos hw
  exact (congrArg (fun t => Host.Outcome.next (conclude s t)) h).trans (next_link rfl)

theorem intactCount32_of {v : State} (hi : v.link.intact = 32) (hh : v.link.health < 224) :
    intactCount32 v = { v with link := { v.link with intact := 0, health := v.link.health - 1 } } :=
  (if_pos hi).trans (easeHealth_of_attached (s := v.setLink { v.link with intact := 0 }) hh)

theorem exec_intactCount32 (hi : s.link.intact = 32) (hh : s.link.health < 224) :
    ∃ t, exec .intactCount32 s = .next t ∧
      Settles s { s with link := { s.link with intact := 0, health := s.link.health - 1 } } t :=
  ⟨_, congrArg (fun t => Host.Outcome.next (conclude s t)) (intactCount32_of hi hh), conclude_settles s _⟩

end

/-- Settles O48: the marks of the line, then the health counter. -/
theorem lineMarksAndHealth : Obligations.LineMarksAndHealth := by
  unfold Obligations.LineMarksAndHealth
  refine ⟨fun s => ?_, healthState_iff, fun s => ⟨fun h => easeHealth_of_detached ((detached_iff _).mpr (by omega)),
    easeHealth_of_attached⟩, worsenHealth_spec⟩
  intro run idle
  exact ⟨exec_linkJoin, exec_lineIdle_attached, exec_lineIdle_counts, exec_lineIdle_rejoins, exec_linkRejoin,
    exec_lineStuck, exec_intactCount32⟩

end Sys2Proof.Machine
end

section
/-! The transmitter: what begins, what a lost arbitration gives back, what completion and a bit error cost (O49). -/

namespace Sys2Proof.Machine

/-! ### The runs of the line after a misread bit -/

theorem trailingDominant_append (l : List Bool) (b : Bool) :
    trailingDominant (l ++ [b]) = if b then 0 else trailingDominant l + 1 := by
  cases b <;> simp [trailingDominant]

theorem trailingRecessive_append (l : List Bool) (b : Bool) :
    trailingRecessive (l ++ [b]) = if b then trailingRecessive l + 1 else 0 := by
  cases b <;> simp [trailingRecessive]

theorem lineAfter_misread (x : Transmission) (sent : Nat) (l : LinkController) : lineAfter (x.readBack sent) l =
    { l with
      recessiveRun := if x.bits.getD sent true then 0 else trailingRecessive (x.bits.take sent) + 1
      dominantRun := if x.bits.getD sent true then trailingDominant (x.bits.take sent) + 1 else 0 } := by
  rw [lineAfter, Transmission.readBack, trailingRecessive_append, trailingDominant_append]
  cases x.bits.getD sent true <;> rfl

/-- A bit that is sent recessive is one of the frame's. -/
theorem getD_true_of_getD_false {l : List Bool} {i : Nat} (h : l.getD i false = true) : l.getD i true = true := by
  by_cases hi : i < l.length
  · rw [List.getD_eq_getElem _ _ hi] at h ⊢
    exact h
  · rw [List.getD_eq_default _ _ (by omega)] at h
    exact absurd h Bool.false_ne_true

/-! ### The beginning of a frame (R144, R149) -/

section
variable {s : State}

theorem mayBegin_of (hj : s.link.joined = true) (ht : s.link.tx = none) (hs : s.link.stuck = false)
    (hr : 11 ≤ s.link.recessiveRun) (hh : s.link.health ≤ 159) : s.link.mayBegin = true := by
  have hstate : healthState s.link.health = .engaged ∨ healthState s.link.health = .caution := by
    obtain ⟨he, hc, -⟩ := healthState_iff s.link.health
    rw [he, hc]
    omega
  simp only [LinkController.mayBegin, hj, ht, hs, Option.isNone_none, decide_eq_true hr, Bool.not_false, Bool.and_true,
    Bool.true_and, Bool.or_eq_true, beq_iff_eq]
  exact hstate

theorem exec_frameTxStart {f : Frame} {o : TxOrigin} (hm : s.link.mayBegin = true) (hn : s.link.nextFrame = some (f, o)) :
    exec .frameTxStart s = .next { s with link := beginFrame f o s.link } := by
  have h : (if s.link.mayBegin then
      match s.link.nextFrame with
      | some (f, o) => s.setLink (beginFrame f o s.link)
      | none => s
    else s) = s.setLink (beginFrame f o s.link) := by
    rw [if_pos hm, hn]
  refine (congrArg (fun t => Host.Outcome.next (conclude s t)) h).trans (next_link ?_)
  cases o <;> rfl

/-! ### A lost arbitration (R146, R149) -/

theorem exec_arbitrationLost {x : Transmission} (ht : s.link.tx = some x) {sent : Nat} (hs : sent ≤ 8)
    (hb : x.bits.getD sent false = true) :
    exec (.arbitrationLost sent) s = .next { s with link := loseArbitration x { s.link with
      recessiveRun := 0, dominantRun := trailingDominant (x.bits.take sent) + 1 } } := by
  have hline : lineAfter (x.readBack sent) s.link =
      { s.link with recessiveRun := 0, dominantRun := trailingDominant (x.bits.take sent) + 1 } := by
    rw [lineAfter_misread, getD_true_of_getD_false hb]
    rfl
  have h : (match s.link.tx with
      | some x => if x.losesAt sent then s.setLink (loseArbitration x (lineAfter (x.readBack sent) s.link)) else s
      | none => s) = s.setLink (loseArbitration x { s.link with
        recessiveRun := 0, dominantRun := trailingDominant (x.bits.take sent) + 1 }) := by
    rw [ht, ← hline]
    exact if_pos (by rw [Transmission.losesAt, hb, decide_eq_true hs]; rfl)
  refine (congrArg (fun t => Host.Outcome.next (conclude s t)) h).trans (next_link ?_)
  unfold loseArbitration returnPosition returnStatus
  cases x.origin
  · simp only
    split <;> rfl
  · simp only
    split <;> rfl
  · rfl

theorem loseArbitration_position {x : Transmission} (l : LinkController) (h : x.origin = .position) :
    loseArbitration x l = returnPosition x.frame { l with tx := none } := by rw [loseArbitration, h]

theorem loseArbitration_status {x : Transmission} (l : LinkController) (h : x.origin = .status) :
    loseArbitration x l = returnStatus x.frame { l with tx := none } := by rw [loseArbitration, h]

theorem loseArbitration_reply {x : Transmission} (l : LinkController) (h : x.origin = .reply) :
    loseArbitration x l = { l with tx := none, replies := markHead false l.replies } := by rw [loseArbitration, h]

/-! ### The end of a frame (R147, R149, R153, R198) -/

/-- The replies that a frame which has ended leaves. -/
def leftReplies (x : Transmission) (l : LinkController) : List Reply :=
  if x.origin = .reply then l.replies.tail else l.replies

theorem finishTx_eq (x : Transmission) (l : LinkController) :
    finishTx x l = { l with tx := none, replies := leftReplies x l } := by
  unfold finishTx leftReplies
  cases x.origin <;> rfl

theorem sendsRestart_iff (x : Transmission) (l : LinkController) : sendsRestart x l = true ↔
    x.origin = .reply ∧ ∃ r, l.replies.head? = some r ∧ r.restart = true := by
  rw [sendsRestart, Bool.and_eq_true, beq_iff_eq, Option.any_eq_true]

/-- The link as the bits of a frame leave it. -/
def completedLink (x : Transmission) (l : LinkController) : LinkController :=
  { l with tx := none, recessiveRun := trailingRecessive x.bits, dominantRun := trailingDominant x.bits
           replies := leftReplies x l }

/-- The link as a bit error leaves it, the health counter apart. -/
def abortedLink (x : Transmission) (sent : Nat) (l : LinkController) : LinkController :=
  { l with tx := none, awaitIdle := true, replies := leftReplies x l
           recessiveRun := if x.bits.getD sent true then 0 else trailingRecessive (x.bits.take sent) + 1
           dominantRun := if x.bits.getD sent true then trailingDominant (x.bits.take sent) + 1 else 0 }

theorem completeTx_eq (x : Transmission) (low : Bool) (hh : s.link.health < 224) : completeTx x low s =
    restartAfter x s.link low (s.setLink { completedLink x s.link with health := s.link.health - 1 }) := by
  have hfinish : finishTx x (lineAfter x.bits s.link) = completedLink x s.link := by
    rw [finishTx_eq]
    rfl
  rw [completeTx, hfinish]
  exact congrArg _ (easeHealth_of_attached (s := s.setLink (completedLink x s.link)) hh)

theorem abortTx_eq (x : Transmission) (sent : Nat) (low : Bool) : abortTx x sent low s =
    restartAfter x s.link low (worsenHealth 4 low (s.setLink (abortedLink x sent s.link))) := by
  rw [abortTx, finishTx_eq, lineAfter_misread]
  rfl

theorem restartAfter_of_not {x : Transmission} {l : LinkController} (low : Bool) (v : State)
    (h : ¬(x.origin = .reply ∧ ∃ r, l.replies.head? = some r ∧ r.restart = true)) : restartAfter x l low v = v :=
  if_neg fun hs => h ((sendsRestart_iff x l).mp hs)

theorem restartAfter_of {x : Transmission} {l : LinkController} (low : Bool) (v : State)
    (h : x.origin = .reply ∧ ∃ r, l.replies.head? = some r ∧ r.restart = true) :
    restartAfter x l low v = restartEntry low v := if_pos ((sendsRestart_iff x l).mpr h)

theorem exec_frameTxComplete {x : Transmission} (ht : s.link.tx = some x) (low : Bool) :
    exec (.frameTxComplete low) s = .next (conclude s (completeTx x low s)) := by
  have h : (match s.link.tx with
      | some x => completeTx x low s
      | none => s) = completeTx x low s := by rw [ht]
  exact congrArg (fun t => Host.Outcome.next (conclude s t)) h

theorem exec_bitError {x : Transmission} (ht : s.link.tx = some x) (low : Bool) {sent : Nat} (hs : sent < x.bits.length)
    (hb : 9 ≤ sent ∨ x.bits.getD sent true = false) :
    exec (.bitError low sent) s = .next (conclude s (abortTx x sent low s)) := by
  have herr : x.errsAt sent = true := by
    rw [Transmission.errsAt, decide_eq_true hs, Bool.true_and, Bool.or_eq_true, decide_eq_true_iff, Bool.not_eq_true']
    exact hb
  have h : (match s.link.tx with
      | some x => if x.errsAt sent then abortTx x sent low s else s
      | none => s) = abortTx x sent low s := by
    rw [ht]
    exact if_pos herr
  exact congrArg (fun t => Host.Outcome.next (conclude s t)) h

/-- A bit error that detaches the node, with no RESTART reply in its queue (R155). -/
theorem bitError_detaches {x : Transmission} (ht : s.link.tx = some x) (low : Bool) {sent : Nat} (hs : sent < x.bits.length)
    (hb : 9 ≤ sent ∨ x.bits.getD sent true = false)
    (hn : ¬(x.origin = .reply ∧ ∃ r, s.link.replies.head? = some r ∧ r.restart = true))
    (hh : s.link.health < 224) (h220 : 220 ≤ s.link.health) (hr : ∀ r ∈ s.link.replies, r.restart = false) :
    ∃ t, exec (.bitError low sent) s = .next t ∧ t.link.health = 224 ∧ t.link.tx = none ∧ t.link.positionSlot = none ∧
      t.link.statusSlot = none ∧ t.link.replies = [] ∧ t.link.requests = [] ∧ kindHas t.faults.active .linkDetached = true := by
  obtain ⟨u, hu⟩ : ∃ u, u = s.setLink (abortedLink x sent s.link) := ⟨_, rfl⟩
  have hul : u.link = abortedLink x sent s.link := by rw [hu]; rfl
  have hleft : ∀ r ∈ u.link.replies, r.restart = false := by
    rw [hul]
    intro r hmem
    have hmem' : r ∈ leftReplies x s.link := hmem
    unfold leftReplies at hmem'
    split at hmem'
    · exact hr r (List.mem_of_mem_tail hmem')
    · exact hr r hmem'
  obtain ⟨-, -, hdetach, -⟩ := worsenHealth_spec 4 low u
  have hhealth : u.link.health = s.link.health := by rw [hul]; rfl
  obtain ⟨hactive, hlink⟩ := hdetach (by omega) (by omega) hleft
  have hexec := exec_bitError ht low hs hb
  rw [abortTx_eq, restartAfter_of_not low _ hn, ← hu] at hexec
  have hset := conclude_settles s (worsenHealth 4 low u)
  obtain ⟨-, -, -, -, -, -, -, -, -, -, -, -, -, -, -, hfaults, -⟩ := hset.frame
  have hsilent : (worsenHealth 4 low u).link.placing = false := by
    rw [hlink, ← Bool.not_eq_true, placing_iff]
    exact fun h => absurd h.2 (Nat.lt_irrefl 224)
  have hkept := hset.link_of_silent hsilent
  refine ⟨_, hexec, ?_⟩
  rw [hkept, hfaults, hlink, hul]
  exact ⟨rfl, rfl, rfl, rfl, rfl, rfl, hactive⟩

/-- What the entry to DETACHED leaves of the record, a RESTART reply among the flushed ones or not (R46, R47). -/
theorem worsenHealth_ret (n : Nat) (low : Bool) (u : State) :
    (worsenHealth n low u).ret.mirror = u.ret.mirror ∧ (worsenHealth n low u).pins.vmainGood = u.pins.vmainGood ∧
    (low = false → u.ret.mirror.held = true → (worsenHealth n low u).ret.record.validity = u.ret.record.validity) := by
  by_cases hd : u.link.detached = true
  · rw [worsenHealth_of_detached n low hd]
    exact ⟨rfl, rfl, fun _ _ => rfl⟩
  · rw [Bool.not_eq_true, not_detached_iff] at hd
    by_cases hn : u.link.health + n < 224
    · rw [worsenHealth_of_lt low hn]
      exact ⟨rfl, rfl, fun _ _ => rfl⟩
    · rw [worsenHealth_of_ge low hd (by omega)]
      by_cases hr : ∃ r ∈ (atDetach u).link.replies, r.restart = true
      · rw [detach_of_restart low hr]
        obtain ⟨-, -, -, hmirror, hvmain, -, -, -, hheld⟩ := restartEntry_spec low
          ((notice .linkDetached (atDetach u)).setLink (flushLink (atDetach u).link))
        refine ⟨hmirror.trans (by simp [atDetach]), hvmain.trans (by simp [atDetach]), fun hl hh => ?_⟩
        exact (hheld hl (by simpa [atDetach] using hh)).trans (by simp [atDetach])
      · have hnone : ∀ r ∈ (atDetach u).link.replies, r.restart = false := fun r hmem => by
          simpa using fun h => hr ⟨r, hmem, h⟩
        rw [detach_of_none low hnone]
        exact ⟨by simp [atDetach], by simp [atDetach], fun _ _ => by simp [atDetach]⟩

/-- What a node shows that a RESTART reply has taken into RETAIN, with VBAK as the command reports it (R46, R47, R198). -/
def RestartsAgain (s : State) (low : Bool) (t : State) : Prop :=
  t.node.state = .retain ∧ t.ret.record.cause = .restart ∧ t.ret.dwellMet = false ∧ t.link = LinkController.start ∧
  (low = true → t.ret.record.validity = .lost) ∧
  (low = false → s.ret.mirror.held = false → t.ret.record.validity = if s.ret.mirror.abs then .valid else .unanchored) ∧
  (low = false → s.ret.mirror.held = true → t.ret.record.validity = s.ret.record.validity)

theorem restartsAgain_of_settles {v t : State} {low : Bool} (hm : v.ret.mirror = s.ret.mirror)
    (hv : v.pins.vmainGood = true)
    (hr : low = false → s.ret.mirror.held = true → v.ret.record.validity = s.ret.record.validity)
    (ht : Settles s (restartEntry low v) t) : RestartsAgain s low t := by
  obtain ⟨hcause, hdwell, hlink, -, -, hstate, hlost, hformed, hheld⟩ := restartEntry_spec low v
  obtain ⟨-, -, -, -, -, -, -, -, hrecord, hnode, -⟩ := ht.frame
  have htdwell : t.ret.dwellMet = (restartEntry low v).ret.dwellMet := by rw [ht.rest]
  have hsilent : (restartEntry low v).link.placing = false := by rw [hlink]; rfl
  rw [hm] at hformed hheld
  unfold RestartsAgain
  rw [hnode, hrecord, htdwell, ht.link_of_silent hsilent]
  exact ⟨hstate hv, hcause, hdwell, hlink, hlost, hformed, fun hl hh => (hheld hl hh).trans (hr hl hh)⟩

theorem transmission_restarts {x : Transmission} (ht : s.link.tx = some x) (hh : s.link.health < 224) {sent : Nat}
    (hs : sent < x.bits.length) (hb : 9 ≤ sent ∨ x.bits.getD sent true = false)
    (hrestart : x.origin = .reply ∧ ∃ r, s.link.replies.head? = some r ∧ r.restart = true)
    (hv : s.pins.vmainGood = true) (low : Bool) :
    (∃ t, exec (.frameTxComplete low) s = .next t ∧ RestartsAgain s low t) ∧
      ∃ t, exec (.bitError low sent) s = .next t ∧ RestartsAgain s low t := by
  refine ⟨⟨_, exec_frameTxComplete ht low, ?_⟩, ⟨_, exec_bitError ht low hs hb, ?_⟩⟩
  · rw [completeTx_eq x low hh, restartAfter_of low _ hrestart]
    exact restartsAgain_of_settles (v := s.setLink _) rfl hv (fun _ _ => rfl) (conclude_settles s _)
  · rw [abortTx_eq, restartAfter_of low _ hrestart]
    obtain ⟨hmirror, hvmain, hheld⟩ := worsenHealth_ret 4 low (s.setLink (abortedLink x sent s.link))
    exact restartsAgain_of_settles hmirror (hvmain.trans hv) hheld (conclude_settles s _)

end

theorem transmission_begins {s : State} (hj : s.link.joined = true) (ht : s.link.tx = none) (hs : s.link.stuck = false)
    (hr : 11 ≤ s.link.recessiveRun) (hh : s.link.health ≤ 159) :
    (∀ f, s.link.positionSlot = some f → exec .frameTxStart s = .next { s with link := { s.link with
      tx := some ⟨f, .position, f.wire⟩, recessiveRun := 0, dominantRun := 1, positionSlot := none } }) ∧
    (∀ f, s.link.positionSlot = none → s.link.statusSlot = some f →
      exec .frameTxStart s = .next { s with link := { s.link with
        tx := some ⟨f, .status, f.wire⟩, recessiveRun := 0, dominantRun := 1, statusSlot := none } }) ∧
    (∀ (r : Reply) (rest : List Reply), s.link.positionSlot = none → s.link.statusSlot = none → s.link.replies = r :: rest →
      exec .frameTxStart s = .next { s with link := { s.link with
        tx := some ⟨r.frame, .reply, r.frame.wire⟩, recessiveRun := 0, dominantRun := 1
        replies := { r with inTx := true } :: rest } }) := by
  have hm := mayBegin_of hj ht hs hr hh
  refine ⟨fun f hp => ?_, fun f hp hst => ?_, fun r rest hp hst hq => ?_⟩
  · exact exec_frameTxStart hm (by rw [LinkController.nextFrame, hp])
  · exact exec_frameTxStart hm (by rw [LinkController.nextFrame, hp, hst])
  · have hnext : s.link.nextFrame = some (r.frame, .reply) := by rw [LinkController.nextFrame, hp, hst, hq]; rfl
    rw [exec_frameTxStart hm hnext, beginFrame]
    simp only [hq, markHead]

theorem arbitration_gives_back {x : Transmission} {s : State} (ht : s.link.tx = some x) {sent : Nat} (hs : sent ≤ 8)
    (hb : x.bits.getD sent false = true) {off : LinkController}
    (ho : off = { s.link with tx := none, recessiveRun := 0, dominantRun := trailingDominant (x.bits.take sent) + 1 }) :
    (x.origin = .position → s.link.positionSlot = none →
      exec (.arbitrationLost sent) s = .next { s with link := { off with positionSlot := some x.frame } }) ∧
    (x.origin = .position → s.link.positionSlot.isSome = true →
      exec (.arbitrationLost sent) s = .next { s with link := { off with
        publishOverrun := if s.link.publishOverrun < 255 then s.link.publishOverrun + 1 else 255 } }) ∧
    (x.origin = .status → s.link.statusSlot = none →
      exec (.arbitrationLost sent) s = .next { s with link := { off with statusSlot := some x.frame } }) ∧
    (x.origin = .status → s.link.statusSlot.isSome = true → exec (.arbitrationLost sent) s = .next { s with link := off }) ∧
    (∀ (r : Reply) (rest : List Reply), x.origin = .reply → s.link.replies = r :: rest →
      exec (.arbitrationLost sent) s = .next { s with link := { off with replies := { r with inTx := false } :: rest } }) := by
  subst ho
  have hexec := exec_arbitrationLost ht hs hb
  refine ⟨fun h hslot => ?_, fun h hslot => ?_, fun h hslot => ?_, fun h hslot => ?_, fun r rest h hq => ?_⟩
  · rw [hexec, loseArbitration_position _ h, returnPosition, if_neg (by simp [hslot])]
  · rw [hexec, loseArbitration_position _ h, returnPosition, if_pos hslot]
    rfl
  · rw [hexec, loseArbitration_status _ h, returnStatus, if_neg (by simp [hslot])]
  · rw [hexec, loseArbitration_status _ h, returnStatus, if_pos hslot]
  · rw [hexec, loseArbitration_reply _ h]
    simp only [hq, markHead]

/-- Settles O49: the beginning of a frame, a lost arbitration, and the frame's end. -/
theorem transmissionBeginsAndEnds : Obligations.TransmissionBeginsAndEnds := by
  unfold Obligations.TransmissionBeginsAndEnds
  refine ⟨fun s hj ht hs hr hh => transmission_begins hj ht hs hr hh,
    fun x s ht sent hs hb => arbitration_gives_back ht hs hb rfl, fun x s ht hh => ?_⟩
  intro left restarts
  refine ⟨fun hn low => ?_, fun sent hs hb => ?_⟩
  · have hset := conclude_settles s (completeTx x low s)
    rw [completeTx_eq x low hh, restartAfter_of_not low _ hn] at hset
    refine ⟨_, (exec_frameTxComplete ht low).trans ?_, hset⟩
    rw [completeTx_eq x low hh, restartAfter_of_not low _ hn]
  · refine ⟨fun hn h220 low => ?_, fun hn h220 hr low => bitError_detaches ht low hs hb hn hh h220 hr,
      fun hr _ hv low => transmission_restarts ht hh hs hb hr hv low⟩
    have hexec := exec_bitError ht low hs hb
    rw [abortTx_eq, restartAfter_of_not low _ hn,
      worsenHealth_of_lt low (s := s.setLink (abortedLink x sent s.link)) (show s.link.health + 4 < 224 by omega)] at hexec
    exact ⟨_, hexec, conclude_settles s _⟩

end Sys2Proof.Machine
end

section
/-! The receiver: an intact frame by its kind, and a discard (O50). -/

namespace Sys2Proof.Machine

section
variable {s : State} {bits : List Bool} {f : Frame}

/-- The state in which an intact frame is handled, the intact count still below 32 (R148). -/
def heardState (bits : List Bool) (s : State) : State :=
  s.setLink { s.link with
    intact := s.link.intact + 1, recessiveRun := trailingRecessive bits, dominantRun := trailingDominant bits }

theorem receiveIntact_of_lt (h : s.link.intact < 31) : receiveIntact f bits s = deliver f (heardState bits s) := by
  have hno : ¬(heardState bits s).link.intact = 32 := by
    show ¬s.link.intact + 1 = 32
    omega
  exact congrArg (deliver f) (if_neg hno)

theorem exec_frameReceived (hr : receive bits = .intact f) (hl : s.link.receiving = true) :
    exec (.frameReceived bits) s = .next (conclude s (receiveIntact f bits s)) := by
  have h : (match receive bits with
      | .intact f => if s.link.receiving then receiveIntact f bits s else watchLine bits s
      | _ => s) = receiveIntact f bits s := by
    rw [hr]
    exact if_pos hl
  exact congrArg (fun t => Host.Outcome.next (conclude s t)) h

theorem exec_frameDiscard {why : Discard} (low : Bool) (hr : receive bits = .discard why) (hl : s.link.receiving = true) :
    exec (.frameDiscard bits low) s = .next (conclude s (discardFrame bits low s)) := by
  have h : (match receive bits with
      | .discard _ => if s.link.receiving then discardFrame bits low s else watchLine bits s
      | _ => s) = discardFrame bits low s := by
    rw [hr]
    exact if_pos hl
  exact congrArg (fun t => Host.Outcome.next (conclude s t)) h

/-! ### What is delivered (R123 to R125, R128, R148, R152) -/

theorem deliver_peer {u : State} (hk : f.kind = kindPosition ∨ f.kind = kindStatus) : deliver f u = deliverPeer f u := if_pos hk

theorem deliver_request {u : State} (hk : f.kind = kindRequest) : deliver f u = takeRequest f u := by
  have hnot : ¬(f.kind = kindPosition ∨ f.kind = kindStatus) := by
    rw [hk]
    decide
  rw [deliver, if_neg hnot, if_pos hk]

theorem deliver_other {u : State} (h1 : f.kind ≠ kindPosition) (h2 : f.kind ≠ kindStatus)
    (h3 : f.kind = kindRequest → ¬((f.dest = u.straps.address ∨ f.dest = 15#4) ∧ 1 ≤ f.payload.length)) :
    deliver f u = u := by
  rw [deliver, if_neg (not_or.mpr ⟨h1, h2⟩)]
  split
  · next hk => exact if_neg (h3 hk)
  · rfl

theorem deliver_member {u : State} (hs : f.source ≠ u.straps.address)
    (hm : u.setup.latched.members.contains f.source = true) :
    (f.kind = kindPosition → deliver f u = takePosition f.source (readPosition f.payload) u) ∧
    (f.kind = kindStatus → deliver f u = takeStatus f.source (readStatusFields f.payload) u) := by
  have hmember : deliverPeer f u = if f.kind = kindPosition then takePosition f.source (readPosition f.payload) u
      else takeStatus f.source (readStatusFields f.payload) u := (if_neg hs).trans (if_pos hm)
  refine ⟨fun hk => ?_, fun hk => ?_⟩
  · rw [deliver_peer (.inl hk), hmember, if_pos hk]
  · rw [deliver_peer (.inr hk), hmember, if_neg (by rw [hk]; decide)]

theorem deliver_stranger {u : State} (hk : f.kind = kindPosition ∨ f.kind = kindStatus) (hs : f.source ≠ u.straps.address)
    (hm : u.setup.latched.members.contains f.source = false) : deliver f u = u := by
  rw [deliver_peer hk]
  exact (if_neg hs).trans (if_neg (by rw [hm]; exact Bool.false_ne_true))

theorem deliver_clash {u : State} (hk : f.kind = kindPosition ∨ f.kind = kindStatus) (hs : f.source = u.straps.address) :
    deliver f u = takeClash u := by
  rw [deliver_peer hk]
  exact if_pos hs

/-! ### An intact frame below the 32nd -/

section
variable (hr : receive bits = .intact f) (hl : s.link.receiving = true) (hi : s.link.intact < 31)
include hr hl hi

theorem received_settles : ∃ t, exec (.frameReceived bits) s = .next t ∧ Settles s (deliver f (heardState bits s)) t := by
  have he := exec_frameReceived hr hl
  rw [receiveIntact_of_lt hi] at he
  exact ⟨_, he, conclude_settles s _⟩

/-- A frame that moves the link alone. -/
theorem received_link {l : LinkController} (hd : deliver f (heardState bits s) = s.setLink l)
    (hh : healthState l.health = healthState s.link.health) : exec (.frameReceived bits) s = .next { s with link := l } := by
  rw [exec_frameReceived hr hl, receiveIntact_of_lt hi, hd]
  exact next_link hh

theorem received_request (hk : f.kind = kindRequest)
    (hm : (f.dest = s.straps.address ∨ f.dest = 15#4) ∧ 1 ≤ f.payload.length) :
    (s.link.requests.length < 4 → exec (.frameReceived bits) s = .next { s with link := { (heardState bits s).link with
      requests := s.link.requests ++ [⟨f.source, f.dest == 15#4, f.payload⟩] } }) ∧
    (4 ≤ s.link.requests.length → exec (.frameReceived bits) s = .next { s with link := { (heardState bits s).link with
      requestOverrun := satSucc 255 s.link.requestOverrun } }) := by
  refine ⟨fun h => received_link hr hl hi ?_ rfl, fun h => received_link hr hl hi ?_ rfl⟩
  · rw [deliver_request hk]
    exact (if_pos hm).trans (if_pos h)
  · rw [deliver_request hk]
    exact (if_pos hm).trans (if_neg h.not_gt)

theorem received_clash (hk : f.kind = kindPosition ∨ f.kind = kindStatus) (hs : f.source = s.straps.address) :
    ∃ t, exec (.frameReceived bits) s = .next t ∧ t.peers = { s.peers with quietRun := some 0 } ∧
      kindHas t.faults.active .addressClash = true ∧ kindHas t.faults.present .addressClash = true ∧ t.pos.p = s.pos.p := by
  obtain ⟨t, he, ht⟩ := received_settles hr hl hi
  rw [deliver_clash (u := heardState bits s) hk hs] at ht
  obtain ⟨-, -, -, -, hpos, -, -, hpeers, -, -, -, -, -, -, -, hfaults, -⟩ := ht.frame
  refine ⟨t, he, ?_, ?_, ?_, ?_⟩
  · rw [hpeers, takeClash]
    simp [heardState]
  · rw [hfaults]
    exact noticeWith_active _ _ _
  · rw [hfaults, takeClash, notice, noticeWith_present]
    simp [notedPresent, eventKind]
  · rw [hpos, takeClash]
    simp [heardState]

omit hr hl hi in
theorem summarise_epoch (p : PositionFields) (cls : TagClass) (v : State) :
    ∃ frames, (summarise p cls v).epoch = { v.epoch with frames := frames } := by
  unfold summarise
  split
  · exact ⟨_, rfl⟩
  · exact ⟨v.epoch.frames, rfl⟩

/-- A member's POSITION frame: stored under the count that the alignment leaves (R33, R124). -/
theorem received_position (hk : f.kind = kindPosition) (hs : f.source ≠ s.straps.address)
    (hm : s.setup.latched.members.contains f.source = true) :
    ∃ t, exec (.frameReceived bits) s = .next t ∧
      t.peers = s.peers.modify f.source (storePosition (readPosition f.payload)
        (classOf (readPosition f.payload).tag (alignOn (readPosition f.payload) (heardState bits s)).epoch.count)) ∧
      ∃ frames, t.epoch = { (alignOn (readPosition f.payload) (heardState bits s)).epoch with frames := frames } := by
  obtain ⟨t, he, ht⟩ := received_settles hr hl hi
  rw [(deliver_member (u := heardState bits s) hs hm).1 hk] at ht
  obtain ⟨-, -, hepoch, -, -, -, -, hpeers, -⟩ := ht.frame
  refine ⟨t, he, hpeers.trans (takePosition_peers _ _ _), ?_⟩
  rw [hepoch]
  simp only [takePosition, peerNotice_frame, offerSource_frame]
  obtain ⟨frames, hframes⟩ := summarise_epoch (readPosition f.payload)
    (classOf (readPosition f.payload).tag (alignOn (readPosition f.payload) (heardState bits s)).epoch.count) _
  exact ⟨frames, hframes.trans (by simp)⟩

theorem received_position_aligned (hk : f.kind = kindPosition) (hs : f.source ≠ s.straps.address)
    (hm : s.setup.latched.members.contains f.source = true) (ha : s.epoch.alignment = .aligned) :
    ∃ t, exec (.frameReceived bits) s = .next t ∧
      t.peers = s.peers.modify f.source (storePosition (readPosition f.payload)
        (classOf (readPosition f.payload).tag s.epoch.count)) ∧
      t.epoch.count = s.epoch.count ∧ t.epoch.alignment = .aligned := by
  obtain ⟨t, he, hpeers, frames, hepoch⟩ := received_position hr hl hi hk hs hm
  rw [alignOn_of_aligned_or_unsynced (s := heardState bits s) (.inl ha)] at hpeers hepoch
  exact ⟨t, he, hpeers, by rw [hepoch]; rfl, by rw [hepoch]; exact ha⟩

theorem received_position_aligning (hj : s.link.joined = true) (hk : f.kind = kindPosition) (hs : f.source ≠ s.straps.address)
    (hm : s.setup.latched.members.contains f.source = true) (ha : s.epoch.alignment = .aligning)
    (hsync : (readPosition f.payload).synced = true) :
    ∃ t, exec (.frameReceived bits) s = .next t ∧ t.epoch.count = (readPosition f.payload).tag ∧
      t.epoch.alignment = .aligned ∧ t.epoch.realignCount = s.epoch.realignCount := by
  obtain ⟨t, he, -, frames, hepoch⟩ := received_position hr hl hi hk hs hm
  rw [alignOn_epoch_of_aligning (s := heardState bits s) ha hj hsync] at hepoch
  exact ⟨t, he, by rw [hepoch], by rw [hepoch], by rw [hepoch]; rfl⟩

theorem received_status (hk : f.kind = kindStatus) (hs : f.source ≠ s.straps.address)
    (hm : s.setup.latched.members.contains f.source = true) :
    ∃ t, exec (.frameReceived bits) s = .next t ∧
      t.peers = s.peers.modify f.source (storeStatus (readStatusFields f.payload)) ∧ t.epoch = s.epoch := by
  obtain ⟨t, he, ht⟩ := received_settles hr hl hi
  rw [(deliver_member (u := heardState bits s) hs hm).2 hk] at ht
  obtain ⟨-, -, hepoch, -, -, -, -, hpeers, -⟩ := ht.frame
  refine ⟨t, he, ?_, ?_⟩
  · rw [hpeers, takeStatus]
    simp [heardState]
  · rw [hepoch]
    simp [heardState]

end

end

/-- Settles O50: the frame by its kind, its source and its destination; then a discard. -/
theorem receptionByKind : Obligations.ReceptionByKind := by
  unfold Obligations.ReceptionByKind
  refine ⟨fun bits f s hr hj hh hs ht ha hi => ?_, fun bits why s hr hj hh hs ht ha low => ?_⟩
  · have hl : s.link.receiving = true := (receiving_iff _).mpr ⟨hj, hh, hs, ht, ha⟩
    intro heard mine
    exact ⟨fun h1 h2 h3 => received_link hr hl hi (deliver_other (u := heardState bits s) h1 h2 h3) rfl,
      fun hk hm => (received_request hr hl hi hk hm).1, fun hk hm => (received_request hr hl hi hk hm).2,
      fun hk hs hm => received_link hr hl hi (deliver_stranger (u := heardState bits s) hk hs hm) rfl,
      received_clash hr hl hi, received_position_aligned hr hl hi, received_position_aligning hr hl hi hj,
      received_status hr hl hi⟩
  · have hl : s.link.receiving = true := (receiving_iff _).mpr ⟨hj, by omega, hs, ht, ha⟩
    refine ⟨_, exec_frameDiscard low hr hl, ?_⟩
    have hlt : (waitIdle (lineAfter bits s.link)).health + 1 < 224 := show s.link.health + 1 < 224 by omega
    have hdiscard := worsenHealth_of_lt (s := s.setLink (waitIdle (lineAfter bits s.link))) low hlt
    rw [discardFrame, hdiscard]
    exact conclude_settles s _

end Sys2Proof.Machine
end

section
/-! The marks that a reception carries: the 32nd frame, the last ABSENT entry, the source side of the match (O51). -/

namespace Sys2Proof.Machine

/-! ### Kinds that the match and the evaluation leave -/

/-- A kind that neither the match nor the evaluation raises (R21, R68, R186). -/
def unraised (k : FaultKind) : Bool := k != .vernierDrift && k != .restoreConflict && k != .travelLimit

/-- Whether a kind is active stays as it was. -/
def LeavesKind (k : FaultKind) (s t : State) : Prop := kindHas t.faults.active k = kindHas s.faults.active k

namespace LeavesKind

variable {k : FaultKind} {s t u : State}

theorem of_eq (h : t.faults = s.faults) : LeavesKind k s t := by rw [LeavesKind, h]

theorem after (b : LeavesKind k t u) (a : LeavesKind k s t) : LeavesKind k s u := Eq.trans b a

theorem ite {c : Prop} [Decidable c] {a b : State} (ha : LeavesKind k s a) (hb : LeavesKind k s b) :
    LeavesKind k s (if c then a else b) := by
  split
  · exact ha
  · exact hb

theorem orSelf {c : Prop} [Decidable c] {a : State} (ha : LeavesKind k s a) : LeavesKind k s (if c then a else s) :=
  ite ha (of_eq rfl)

theorem notice {j : FaultKind} (h : k ≠ j) (s : State) : LeavesKind k s (notice j s) := (noticeWith_other .none s h).1

theorem gone {j : FaultKind} (h : k ≠ j) (s : State) : LeavesKind k s (conditionGone j s) := conditionGone_other s h

section
variable (hk : unraised k = true)
include hk

theorem ne_of_unraised : k ≠ .vernierDrift ∧ k ≠ .restoreConflict ∧ k ≠ .travelLimit := by
  simpa [unraised, and_assoc] using hk

theorem judgeTravel (j : Int) (s : State) : LeavesKind k s (judgeTravel j s) := by
  obtain ⟨-, -, htravel⟩ := ne_of_unraised hk
  unfold Machine.judgeTravel
  split
  · exact of_eq rfl
  · refine ite (of_eq rfl) ?_
    split
    · exact of_eq rfl
    · exact (notice htravel _).after (of_eq rfl)

theorem handover (joint : Joint) (src : Option SourceFrame) (s : State) : LeavesKind k s (handover joint src s) := by
  obtain ⟨-, -, -, hfaults, -⟩ := handedOver_frame joint src s
  have hplaced : LeavesKind k s (handedOver joint src s) := of_eq hfaults
  unfold Machine.handover
  exact orSelf (ite ((judgeTravel hk _ _).after hplaced) hplaced)

theorem computeJoint (n : Int) (src : Option SourceFrame) (s : State) : LeavesKind k s (computeJoint n src s) :=
  (handover hk _ _ _).after (of_eq rfl)

theorem restoreDecide (joint : Joint) (base : Int) (usable : Bool) (s : State) :
    LeavesKind k s (restoreDecide joint base usable s) := by
  obtain ⟨-, hconflict, -⟩ := ne_of_unraised hk
  have hraise (d : RestoreDecision) (v : State) : LeavesKind k v (raiseConflict d v) := orSelf (notice hconflict v)
  have hmove (n : NodeRecord) (v : State) : LeavesKind k v (moveNode n v) := of_eq (by simp)
  unfold Machine.restoreDecide
  split
  · exact (hmove _ _).after ((hraise _ _).after (of_eq rfl))
  · exact (hmove _ _).after ((hraise _ _).after (of_eq rfl))

theorem homingSuccess (shift : Int) (s : State) : LeavesKind k s (homingSuccess shift s) := by
  obtain ⟨-, hconflict, -⟩ := ne_of_unraised hk
  have hfaults : (Machine.homingSuccess shift s).faults = (resolveConflict
      (setAbsolute (s.setPos { s.pos with p := s.pos.p + 16384 * shift }))).faults := by simp [Machine.homingSuccess]
  refine (of_eq hfaults).after ((gone hconflict _).after (of_eq rfl))

theorem completeCapture (n : Int) (usable : Bool) (s : State) : LeavesKind k s (completeCapture n usable s) := by
  have hend (o : HomingOutcome) (why : HomingReason) (v : State) : LeavesKind k v (endHoming o why v) := of_eq (by simp)
  have hlearn (e : Int) (g : Sixteenths) (v : State) : LeavesKind k v (homingLearned e g v) :=
    of_eq (by simp [homingLearned])
  unfold Machine.completeCapture
  simp only
  split
  · unfold finishLearn
    rw [recordCoarse_eq]
    exact ite ((hlearn _ _ _).after (of_eq rfl)) ((hend _ _ _).after (of_eq rfl))
  · unfold finishHome
    rw [recordCoarse_eq]
    refine ite ((hend _ _ _).after (of_eq rfl)) (ite ((hend _ _ _).after (of_eq rfl)) ?_)
    exact ite ((hend _ _ _).after (of_eq rfl)) ((homingSuccess hk _ _).after (of_eq rfl))

theorem driftMonitor (joint : Joint) (base : Int) (usable : Bool) (s : State) :
    LeavesKind k s (driftMonitor joint base usable s) := by
  obtain ⟨hdrift, -, -⟩ := ne_of_unraised hk
  have hrun (v : State) : LeavesKind k v (driftRun3 v) := orSelf ((notice hdrift _).after (of_eq rfl))
  unfold Machine.driftMonitor driftCount
  exact orSelf (ite ((hrun _).after (of_eq rfl)) (of_eq rfl))

theorem evaluate (joint : Joint) (e : Int) (s : State) : LeavesKind k s (evaluate joint e s) := by
  have hcarries (joint : Joint) (base sj : Int) (usable : Bool) (v : State) :
      LeavesKind k v (evaluationCarries joint base sj usable v) := by
    unfold Machine.evaluationCarries
    split
    · exact restoreDecide hk _ _ _ _
    · exact orSelf (completeCapture hk _ _ _)
    · exact orSelf (of_eq (by simp))
    · exact of_eq rfl
  have hplay : LeavesKind k s (setRestorePlay s) := of_eq (by simp)
  have hresult (v : State) (u : PositionUnit) (w : EpochWork) : LeavesKind k v ((v.setPos u).setWork w) := of_eq rfl
  exact (hcarries _ _ _ _ _).after ((driftMonitor hk _ _ _ _).after ((hresult _ _ _).after hplay))

theorem coarseEvaluate (s : State) : LeavesKind k s (coarseEvaluate s) := by
  refine orSelf ?_
  split
  · exact of_eq rfl
  · unfold evaluateJoint
    split
    · exact evaluate hk _ _ _
    · exact (evaluate hk _ _ _).after (of_eq rfl)

omit hk in
theorem referenceOnMatch (a : Bool) (s : State) : LeavesKind k s (referenceOnMatch a s) :=
  of_eq (by simp)

theorem makeMatch (hc : k ≠ .couplingLost) (f : SourceFrame) (s : State) : LeavesKind k s (makeMatch f s) := by
  have hset (c : CouplingRecord) (v : State) : LeavesKind k v (v.setCoupling c) := of_eq rfl
  refine (coarseEvaluate hk _).after ((referenceOnMatch _ _).after ((gone hc _).after ?_))
  exact (hset _ _).after ((computeJoint hk _ _ _).after (hset _ _))

theorem tryMatch (hc : k ≠ .couplingLost) (s : State) : LeavesKind k s (tryMatch s) := by
  refine orSelf ?_
  split
  · exact of_eq rfl
  · exact makeMatch hk hc _ _

theorem offerSource (hc : k ≠ .couplingLost) (a : Address) (p : PositionFields) (cls : TagClass) (s : State) :
    LeavesKind k s (offerSource a p cls s) := orSelf ((tryMatch hk hc _).after (of_eq rfl))

end

end LeavesKind

/-! ### The match (R131 to R133) -/

/-- The match made leaves the coupling record and COUPLING_LOST as R133 has them. -/
theorem makeMatch_spec (f : SourceFrame) (s : State) :
    (makeMatch f s).coupling = { s.coupling with matched := true, lastAbsolute := some f.absolute, missCount := 0 } ∧
      kindHas (makeMatch f s).faults.active .couplingLost = false := by
  refine ⟨by simp [makeMatch], ?_⟩
  have hclear (v : State) : kindHas (conditionGone .couplingLost v).faults.active .couplingLost = false :=
    conditionGone_clears v (by decide) (by decide) rfl
  unfold makeMatch
  exact (LeavesKind.coarseEvaluate rfl _).trans ((LeavesKind.referenceOnMatch _ _).trans (hclear _))

theorem tryMatch_of_unready {v : State} (h : v.coupling.opened = false ∨ v.coupling.own = false ∨ v.coupling.matched = true) :
    tryMatch v = v := by
  refine if_neg ?_
  rcases h with h | h | h <;> simp [h]

theorem tryMatch_of_ready {v : State} {f : SourceFrame} (hc : v.coupled = true) (ho : v.coupling.opened = true)
    (hown : v.coupling.own = true) (hm : v.coupling.matched = false) (hf : v.coupling.source = some f) :
    tryMatch v = makeMatch f v := by
  have h : tryMatch v = match v.coupling.source with
      | none => v
      | some f => makeMatch f v := if_pos (by simp [hc, ho, hown, hm])
  rw [h, hf]

/-! ### An intact frame at any count -/

section
variable {s : State} {bits : List Bool} {f : Frame}

/-- The count of 32 moves the link alone, its requests and its slots apart (R148). -/
theorem receiveIntact_link (f : Frame) (bits : List Bool) (s : State) :
    ∃ l, receiveIntact f bits s = deliver f (s.setLink l) ∧ l.joined = s.link.joined := by
  by_cases h : s.link.intact + 1 = 32
  · by_cases hd : s.link.detached = true
    · refine ⟨_, congrArg (deliver f) ((if_pos h).trans (easeHealth_of_detached hd)), rfl⟩
    · rw [Bool.not_eq_true, not_detached_iff] at hd
      refine ⟨_, congrArg (deliver f) (intactCount32_of h hd), rfl⟩
  · exact ⟨_, congrArg (deliver f) (if_neg h), rfl⟩

theorem frameReceived_settles (hr : receive bits = .intact f) (hl : s.link.receiving = true) :
    ∃ l t, exec (.frameReceived bits) s = .next t ∧ Settles s (deliver f (s.setLink l)) t ∧ l.joined = s.link.joined := by
  obtain ⟨l, hd, hj⟩ := receiveIntact_link f bits s
  have he := exec_frameReceived hr hl
  rw [hd] at he
  exact ⟨l, _, he, conclude_settles s _, hj⟩

/-- Whatever is delivered, the health counter and the intact count stay. -/
theorem deliver_counts (f : Frame) (u : State) :
    (deliver f u).link.health = u.link.health ∧ (deliver f u).link.intact = u.link.intact := by
  unfold deliver
  split
  · unfold deliverPeer
    split
    · simp
    · split
      · split <;> simp
      · exact ⟨rfl, rfl⟩
  · split
    · unfold takeRequest
      split
      · split <;> exact ⟨rfl, rfl⟩
      · exact ⟨rfl, rfl⟩
    · exact ⟨rfl, rfl⟩

theorem received_32nd (hr : receive bits = .intact f) (hl : s.link.receiving = true) (hh : s.link.health < 224)
    (hi : s.link.intact = 31) :
    ∃ t, exec (.frameReceived bits) s = .next t ∧ t.link.intact = 0 ∧ t.link.health = s.link.health - 1 ∧
      (f.kind ≠ kindPosition → f.kind ≠ kindStatus → f.kind ≠ kindRequest → Settles s { s with link := { s.link with
        intact := 0, health := s.link.health - 1, recessiveRun := trailingRecessive bits
        dominantRun := trailingDominant bits } } t) := by
  have hcount := intactCount32_of (v := heardState bits s) (show s.link.intact + 1 = 32 by omega) hh
  have hd : receiveIntact f bits s = deliver f { heardState bits s with link := { (heardState bits s).link with
      intact := 0, health := (heardState bits s).link.health - 1 } } := congrArg (deliver f) hcount
  have ht := conclude_settles s (receiveIntact f bits s)
  rw [hd] at ht
  obtain ⟨hhealth, hintact⟩ := deliver_counts f { heardState bits s with link := { (heardState bits s).link with
    intact := 0, health := (heardState bits s).link.health - 1 } }
  refine ⟨_, exec_frameReceived hr hl, ?_⟩
  rw [hd]
  refine ⟨?_, ?_, fun h1 h2 h3 => ?_⟩
  · rw [ht.rest]
    exact hintact
  · rw [ht.rest]
    exact hhealth
  · rw [deliver_other h1 h2 (fun hk => absurd hk h3)] at ht ⊢
    exact ht

/-! ### A node that receives nothing (R140, R145, R155 to R157) -/

theorem passed_by (hw : s.link.watching = true) (ht : s.link.tx = none)
    (hno : s.link.joined = false ∨ s.link.health = 224 ∨ s.link.stuck = true ∨ s.link.awaitIdle = true) :
    (∀ f, receive bits = .intact f → exec (.frameReceived bits) s = .next { s with link := lineAfter bits s.link }) ∧
    ∀ (why : Discard) (low : Bool), receive bits = .discard why →
      exec (.frameDiscard bits low) s = .next { s with link := lineAfter bits s.link } := by
  have hdeaf : ¬s.link.receiving = true := by
    rw [receiving_iff]
    rintro ⟨hj, hh, hs, -, ha⟩
    rcases hno with h | h | h | h
    · exact absurd (h.symm.trans hj) Bool.false_ne_true
    · omega
    · exact absurd (hs.symm.trans h) Bool.false_ne_true
    · exact absurd (ha.symm.trans h) Bool.false_ne_true
  have hwatch : watchLine bits s = s.setLink (lineAfter bits s.link) := if_pos (by simp [hw, ht])
  refine ⟨fun f hr => ?_, fun why low hr => ?_⟩
  · have h : (match receive bits with
        | .intact f => if s.link.receiving then receiveIntact f bits s else watchLine bits s
        | _ => s) = s.setLink (lineAfter bits s.link) := by
      rw [hr]
      exact (if_neg hdeaf).trans hwatch
    exact (congrArg (fun t => Host.Outcome.next (conclude s t)) h).trans (next_link rfl)
  · have h : (match receive bits with
        | .discard _ => if s.link.receiving then discardFrame bits low s else watchLine bits s
        | _ => s) = s.setLink (lineAfter bits s.link) := by
      rw [hr]
      exact (if_neg hdeaf).trans hwatch
    exact (congrArg (fun t => Host.Outcome.next (conclude s t)) h).trans (next_link rfl)

/-! ### The discard that detaches (R155, R198) -/

theorem discard_detaches {why : Discard} (low : Bool) (hr : receive bits = .discard why) (hl : s.link.receiving = true)
    (hh : s.link.health = 223) :
    ((∀ r ∈ s.link.replies, r.restart = false) →
      ∃ t, exec (.frameDiscard bits low) s = .next t ∧ t.link.health = 224 ∧ t.link.positionSlot = none ∧
        t.link.statusSlot = none ∧ t.link.replies = [] ∧ t.link.requests = [] ∧ t.link.idlePeriods = 0 ∧
        kindHas t.faults.active .linkDetached = true ∧ kindHas t.faults.present .linkDetached = true) ∧
    ((∃ r ∈ s.link.replies, r.restart = true) → s.pins.vmainGood = true →
      ∃ t, exec (.frameDiscard bits low) s = .next t ∧ t.node.state = .retain ∧ t.ret.record.cause = .restart ∧
        (low = true → t.ret.record.validity = .lost)) := by
  obtain ⟨u, hu⟩ : ∃ u, u = s.setLink (waitIdle (lineAfter bits s.link)) := ⟨_, rfl⟩
  have hhealth : u.link.health = 223 := by rw [hu]; exact hh
  have hreplies : u.link.replies = s.link.replies := by rw [hu]; rfl
  have hworse : discardFrame bits low s = detach low (atDetach u) := by
    rw [discardFrame, ← hu]
    exact worsenHealth_of_ge low (by omega) (by omega)
  have hexec := exec_frameDiscard low hr hl
  rw [hworse] at hexec
  have hset := conclude_settles s (detach low (atDetach u))
  refine ⟨fun hnone => ⟨_, hexec, ?_⟩, fun hsome hv => ⟨_, hexec, ?_⟩⟩
  · rw [detach_of_none (s := atDetach u) low (by rw [← hreplies] at hnone; exact hnone)] at hset ⊢
    have hsilent : ((notice .linkDetached (atDetach u)).setLink (flushLink (atDetach u).link)).link.placing = false := by
      rw [← Bool.not_eq_true, placing_iff]
      exact fun h => absurd h.2 (Nat.lt_irrefl 224)
    obtain ⟨-, -, -, -, -, -, -, -, -, -, -, -, -, -, -, hfaults, -⟩ := hset.frame
    rw [hset.link_of_silent hsilent, hfaults]
    refine ⟨rfl, rfl, rfl, rfl, rfl, rfl, noticeWith_active _ _ _, ?_⟩
    have hpresent : kindHas (notice .linkDetached (atDetach u)).faults.present .linkDetached = true := by
      rw [notice, noticeWith_present]
      simp [notedPresent, eventKind]
    exact hpresent
  · rw [detach_of_restart (s := atDetach u) low (by rw [← hreplies] at hsome; exact hsome)] at hset ⊢
    obtain ⟨hstate, hcause, -, -, hlost, -⟩ := restartsAgain_of_settles (by simp [atDetach, hu])
      (by simpa [atDetach, hu] using hv) (fun _ _ => by simp [atDetach, hu]) hset
    exact ⟨hstate, hcause, hlost⟩

/-! ### The last ABSENT entry (R127) -/

theorem anyAbsent_modify (t : PeerTable) (a : Address) (g : PeerEntry → PeerEntry) (hg : ∀ e, (g e).absent = false) :
    (t.modify a g).anyAbsent = true ↔ ∃ e ∈ t.entries, e.absent = true ∧ e.address ≠ a := by
  simp only [PeerTable.anyAbsent, PeerTable.modify, List.any_map, List.any_eq_true, Function.comp_apply]
  refine exists_congr fun e => and_congr_right fun _ => ?_
  by_cases h : e.address = a
  · simp [h, hg]
  · simp [h]

/-- MEMBER_ABSENT once an entry is stored. -/
theorem absentCleared_memberAbsent (s0 v : State) :
    kindHas (absentCleared s0 v).faults.active .memberAbsent =
      if s0.peers.anyAbsent = true ∧ v.peers.anyAbsent = false then false else v.active .memberAbsent := by
  unfold absentCleared
  by_cases h : s0.peers.anyAbsent = true ∧ v.peers.anyAbsent = false
  · rw [if_pos h, if_pos (by simp [h.1, h.2])]
    exact conditionGone_clears v (by decide) (by decide) rfl
  · rw [if_neg h, if_neg (by simpa using h)]
    rfl

/-- What a stored frame of member `a` leaves of the ABSENT entries and of MEMBER_ABSENT. -/
def AbsenceMarked (a : Address) (s v : State) : Prop :=
  kindHas v.faults.active .memberAbsent =
      (if s.peers.anyAbsent = true ∧ v.peers.anyAbsent = false then false else s.active .memberAbsent) ∧
    (v.peers.anyAbsent = true ↔ ∃ e ∈ s.peers.entries, e.absent = true ∧ e.address ≠ a)

theorem takePosition_marks (a : Address) (p : PositionFields) (u : State) : AbsenceMarked a u (takePosition a p u) := by
  have hpeers := takePosition_peers a p u
  refine ⟨?_, by rw [hpeers]; exact anyAbsent_modify _ _ _ fun _ => rfl⟩
  have hpeer (w : State) : (peerNotice a w).faults = w.faults := by simp
  have hoffer (cls : TagClass) (v : State) : kindHas (peerNotice a (offerSource a p cls (summarise p cls v))).faults.active
      .memberAbsent = kindHas v.faults.active .memberAbsent := by
    rw [hpeer]
    exact (LeavesKind.offerSource rfl (by decide) a p cls _).trans (LeavesKind.of_eq (by simp))
  rw [hpeers]
  exact (hoffer _ _).trans ((absentCleared_memberAbsent _ _).trans (by simp [State.active]))

theorem takeStatus_marks (a : Address) (p : StatusFields) (u : State) : AbsenceMarked a u (takeStatus a p u) := by
  have hpeers : (takeStatus a p u).peers = u.peers.modify a (storeStatus p) := by simp [takeStatus]
  refine ⟨?_, by rw [hpeers]; exact anyAbsent_modify _ _ _ fun _ => rfl⟩
  have hpeer (w : State) : (peerNotice a w).faults = w.faults := by simp
  rw [hpeers, takeStatus, hpeer]
  exact (absentCleared_memberAbsent _ _).trans rfl

/-! ### A member's frame at any count -/

section
variable (hr : receive bits = .intact f) (hl : s.link.receiving = true) (hs : f.source ≠ s.straps.address)
  (hm : s.setup.latched.members.contains f.source = true)
include hr hl hs hm

theorem positionReceived (hk : f.kind = kindPosition) :
    ∃ l t, exec (.frameReceived bits) s = .next t ∧
      Settles s (takePosition f.source (readPosition f.payload) (s.setLink l)) t := by
  obtain ⟨l, t, he, ht, -⟩ := frameReceived_settles hr hl
  rw [(deliver_member (u := s.setLink l) hs hm).1 hk] at ht
  exact ⟨l, t, he, ht⟩

theorem statusReceived (hk : f.kind = kindStatus) :
    ∃ l t, exec (.frameReceived bits) s = .next t ∧
      Settles s (takeStatus f.source (readStatusFields f.payload) (s.setLink l)) t := by
  obtain ⟨l, t, he, ht, -⟩ := frameReceived_settles hr hl
  rw [(deliver_member (u := s.setLink l) hs hm).2 hk] at ht
  exact ⟨l, t, he, ht⟩

theorem memberReceived (hk : f.kind = kindPosition ∨ f.kind = kindStatus) :
    ∃ t, exec (.frameReceived bits) s = .next t ∧ AbsenceMarked f.source s t := by
  have hmarked {u : State} {l : LinkController} (t : State) (hu : AbsenceMarked f.source (s.setLink l) u)
      (ht : Settles s u t) : AbsenceMarked f.source s t := by
    obtain ⟨-, -, -, -, -, -, -, hpeers, -, -, -, -, -, -, -, hfaults, -⟩ := ht.frame
    rw [AbsenceMarked, hpeers, hfaults]
    exact hu
  rcases hk with hk | hk
  · obtain ⟨l, t, he, ht⟩ := positionReceived hr hl hs hm hk
    exact ⟨t, he, hmarked t (takePosition_marks _ _ _) ht⟩
  · obtain ⟨l, t, he, ht⟩ := statusReceived hr hl hs hm hk
    exact ⟨t, he, hmarked t (takeStatus_marks _ _ _) ht⟩

end

/-! ### The source side (R132, R133) -/

/-- An evaluation of the match sees what the frame had before it. -/
def sourced (p : PositionFields) (v : State) : State :=
  v.setCoupling { v.coupling with source := some ⟨p.p, p.absolute, p.extrapolated⟩ }

theorem qualifies_iff (u : State) (a : Address) (p : PositionFields) :
    u.qualifies a p (classOf p.tag u.epoch.count) = true ↔
      u.setup.latched.source = some a ∧ p.tag = u.epoch.count ∧ p.synced = true ∧ u.epoch.epochSynced = true ∧
        u.coupling.source = none := by
  have hcls : classOf p.tag u.epoch.count = .current ↔ p.tag = u.epoch.count := by
    rw [classOf_eq]
    split
    · next h => simp [h]
    · next h => split <;> simp [h]
  simp [State.qualifies, hcls, and_assoc]

/-- A stored frame that aligns nothing reaches the match with the coupling and the setup it met. -/
theorem takePosition_offers (a : Address) (p : PositionFields) {u : State}
    (hal : u.epoch.alignment = .aligned ∨ p.synced = false) :
    ∃ v, takePosition a p u = peerNotice a (offerSource a p (classOf p.tag u.epoch.count) v) ∧
      v.coupling = u.coupling ∧ v.setup = u.setup ∧
      v.qualifies a p (classOf p.tag u.epoch.count) = u.qualifies a p (classOf p.tag u.epoch.count) := by
  have hcommon (c : TagClass) (w : State) (hc : w.coupling = u.coupling) (hset : w.setup = u.setup) (he : w.epoch = u.epoch) :
      (summarise p c w).coupling = u.coupling ∧ (summarise p c w).setup = u.setup ∧
        (summarise p c w).qualifies a p c = u.qualifies a p c := by
    obtain ⟨fr, hfr⟩ := summarise_epoch p c w
    have h1 : (summarise p c w).coupling = u.coupling := by simp [hc]
    have h2 : (summarise p c w).setup = u.setup := by simp [hset]
    have h3 : (summarise p c w).epoch.epochSynced = u.epoch.epochSynced := by rw [hfr, he]
    exact ⟨h1, h2, by rw [State.qualifies, State.qualifies, h1, h2, h3]⟩
  have halign := alignOn_of_aligned_or_unsynced hal
  refine ⟨_, by rw [takePosition, halign], ?_⟩
  exact hcommon _ _ (by simp) (by simp) (by simp)

section
variable {a : Address} {p : PositionFields} {u : State} (hal : u.epoch.alignment = .aligned ∨ p.synced = false)
include hal

theorem takePosition_unqualified (hq : ¬u.qualifies a p (classOf p.tag u.epoch.count) = true) :
    (takePosition a p u).coupling = u.coupling := by
  obtain ⟨v, htake, hc, -, hqual⟩ := takePosition_offers a p hal
  have hoffer : offerSource a p (classOf p.tag u.epoch.count) v = v := if_neg (by rw [hqual]; exact hq)
  rw [htake, hoffer]
  simpa using hc

variable (hq : u.qualifies a p (classOf p.tag u.epoch.count) = true)
include hq

theorem takePosition_unready
    (h : u.coupling.opened = false ∨ u.coupling.own = false ∨ u.coupling.matched = true) :
    (takePosition a p u).coupling = { u.coupling with source := some ⟨p.p, p.absolute, p.extrapolated⟩ } := by
  obtain ⟨v, htake, hc, -, hqual⟩ := takePosition_offers a p hal
  have hoffer : offerSource a p (classOf p.tag u.epoch.count) v = tryMatch (sourced p v) := if_pos (hqual.trans hq)
  rw [← hc] at h
  rw [htake, hoffer, tryMatch_of_unready (v := sourced p v) h, ← hc]
  simp [sourced]

theorem takePosition_matches (ho : u.coupling.opened = true) (hown : u.coupling.own = true)
    (hmt : u.coupling.matched = false) :
    (takePosition a p u).coupling = { u.coupling with
        source := some ⟨p.p, p.absolute, p.extrapolated⟩, matched := true
        lastAbsolute := some p.absolute, missCount := 0 } ∧
      kindHas (takePosition a p u).faults.active .couplingLost = false := by
  obtain ⟨v, htake, hc, hset, hqual⟩ := takePosition_offers a p hal
  obtain ⟨hsrc, -⟩ := (qualifies_iff u a p).mp hq
  have hcoupled : (sourced p v).coupled = true := by
    show v.setup.latched.source.isSome = true
    rw [hset, hsrc]
    rfl
  have hoffer : offerSource a p (classOf p.tag u.epoch.count) v = tryMatch (sourced p v) := if_pos (hqual.trans hq)
  rw [← hc] at ho hown hmt
  have hmatch := tryMatch_of_ready (v := sourced p v) hcoupled ho hown hmt rfl
  obtain ⟨hcoupling, hlost⟩ := makeMatch_spec ⟨p.p, p.absolute, p.extrapolated⟩ (sourced p v)
  have hpeer (w : State) : (peerNotice a w).faults = w.faults ∧ (peerNotice a w).coupling = w.coupling := by simp
  rw [htake, hoffer, hmatch, (hpeer _).1, (hpeer _).2, hcoupling, ← hc]
  exact ⟨rfl, hlost⟩

end

/-- A frame that is not synchronised leaves the Epoch Unit of an aligning node, and its entry keeps what it says. -/
theorem takePosition_unsynced (a : Address) {p : PositionFields} {u : State} (hp : p.synced = false) :
    (takePosition a p u).epoch = u.epoch ∧
      (takePosition a p u).peers = u.peers.modify a (storePosition p (classOf p.tag u.epoch.count)) := by
  have halign : alignOn p u = u := alignOn_of_aligned_or_unsynced (.inr hp)
  refine ⟨?_, by rw [takePosition_peers, halign]⟩
  have hnotice (w : State) : (peerNotice a w).epoch = w.epoch := by simp
  have hoffer (c : TagClass) (w : State) : offerSource a p c w = w := if_neg (by simp [State.qualifies, hp])
  rw [takePosition, hnotice, hoffer, summarise_of_unsynced _ _ hp, halign]
  simp

end

/-- Settles O51. -/
theorem receptionEffects : Obligations.ReceptionEffects := by
  have hrec (s : State) (hj : s.link.joined = true) (hh : s.link.health < 224) (hs : s.link.stuck = false)
      (ht : s.link.tx = none) (ha : s.link.awaitIdle = false) : s.link.receiving = true :=
    (receiving_iff s.link).mpr ⟨hj, hh, hs, ht, ha⟩
  refine ⟨fun bits f s hr hj hh hs ht ha hi => received_32nd hr (hrec s hj hh hs ht ha) hh hi,
    fun bits s hw ht hno => passed_by hw ht hno, fun bits why low s hr hj hh hs ht ha => ?_,
    fun bits f s hr hj hh hs ht ha hsrc hm => ?_⟩
  · obtain ⟨hnone, hsome⟩ := discard_detaches low hr (hrec s hj (by omega) hs ht ha) hh
    exact ⟨hnone, fun hr' _ hv => hsome hr' hv⟩
  · have hl := hrec s hj hh hs ht ha
    have hposition (hk : f.kind = kindPosition) := positionReceived hr hl hsrc hm hk
    refine ⟨fun hk hany hall => ?_, fun hk hsome => ?_, fun hk hal hp => ?_, fun hk hal hq => ?_, fun hk hal hq h => ?_,
      fun hk hal hq ho hown hmt => ?_⟩
    · obtain ⟨t, he, hmark, habs⟩ := memberReceived hr hl hsrc hm hk
      have hnone : t.peers.anyAbsent = false := by
        rw [← Bool.not_eq_true, habs]
        rintro ⟨e, hmem, hab, hne⟩
        exact hne (hall e hmem hab)
      exact ⟨t, he, hmark.trans (if_pos ⟨hany, hnone⟩), hnone⟩
    · obtain ⟨t, he, hmark, habs⟩ := memberReceived hr hl hsrc hm hk
      have hstill := habs.mpr hsome
      exact ⟨t, he, hmark.trans (if_neg (by simp [hstill])), hstill⟩
    · obtain ⟨l, t, he, ht⟩ := hposition hk
      obtain ⟨-, -, hepoch, -, -, -, -, hpeers, -⟩ := ht.frame
      obtain ⟨hep, hpe⟩ := takePosition_unsynced f.source (u := s.setLink l) hp
      refine ⟨t, he, hepoch.trans hep, (hpeers.trans hpe).trans ?_⟩
      simp only [PeerTable.modify, storePosition, hp]
      rfl
    · obtain ⟨l, t, he, ht⟩ := hposition hk
      obtain ⟨-, -, -, -, -, -, hcoupling, -⟩ := ht.frame
      exact ⟨t, he, hcoupling.trans (takePosition_unqualified (u := s.setLink l) hal (mt (qualifies_iff _ _ _).mp hq))⟩
    · obtain ⟨l, t, he, ht⟩ := hposition hk
      obtain ⟨-, -, -, -, -, -, hcoupling, -⟩ := ht.frame
      exact ⟨t, he, hcoupling.trans (takePosition_unready (u := s.setLink l) hal ((qualifies_iff _ _ _).mpr hq) h)⟩
    · obtain ⟨l, t, he, ht⟩ := hposition hk
      obtain ⟨-, -, -, -, -, -, hcoupling, -, -, -, -, -, -, -, -, hfaults, -⟩ := ht.frame
      obtain ⟨hc, hf⟩ := takePosition_matches (u := s.setLink l) hal ((qualifies_iff _ _ _).mpr hq) ho hown hmt
      exact ⟨t, he, hcoupling.trans hc, by rw [hfaults]; exact hf⟩

end Sys2Proof.Machine
end

section
/-! The Retention Domain's commands: the entry, the tracker, the supplies and the starts (O42 to O45). -/

namespace Sys2Proof.Machine

/-! ### A stopped main domain ends an event as it is -/

theorem State.Stopped.conclude {u : State} (h : u.Stopped) (hm : u.mainUp = false ∨ u.ret.mirror.held = true) (s : State) :
    conclude s u = u := by
  obtain ⟨hrest, hmirror, -⟩ := conclude_settles s u
  have ht := h.settled s
  have hkept : (Machine.conclude s u).ret.mirror = u.ret.mirror := by
    rw [hmirror]
    rcases hm with hd | hh
    · exact mirrorAfter_down hd
    · exact if_neg (by simp [hh])
  rw [hkept, ht.gate, ht.link] at hrest
  rw [hrest, ← h.gate]
  show { u with link := { u.link with statusSlot := _, beaconCount := _ } } = u
  have hlink : u.link = LinkController.start := h.link
  rw [hlink, ← hlink]

theorem mainUp_of_retain {s : State} (h : s.node.state = .retain) : s.mainUp = false := by simp [State.mainUp, h]

theorem mainUp_of_off {s : State} (h : s.node.state = .off) : s.mainUp = false := by simp [State.mainUp, h]

/-! ### The entry to RETAIN (R45 to R48) -/

theorem entryRecord_eq (cause : RetainedCause) (low : Bool) (d : RetentionDomain) :
    entryRecord cause low d = if low then loseBackup (entryRecord cause false d) else entryRecord cause false d := by
  cases low <;> rfl

theorem loseBackup_eq (r : RetainedRecord) :
    loseBackup r = if r.validity = .lost then r else { r with validity := .lost, reason := .backup } := rfl

/-- Settles O42. -/
theorem retainEntry : Obligations.RetainEntry := by
  intro cause low s hup why m formed keptRec base record off
  have hexec : exec (.retainEntry cause low) s = .next (enterRetain why low s) := by
    refine congrArg Host.Outcome.next ?_
    rw [if_pos hup]
    exact (enterRetain_stopped why low s).conclude (.inl (enterRetain_down why low s)) s
  have hrecord : (enterRetain why low s).ret.record = record := by
    show entryRecord why low s.ret = record
    have hbase : entryRecord why false s.ret = base := rfl
    rw [entryRecord_eq, hbase, loseBackup_eq]
    by_cases hl : low = true
    · by_cases hv : base.validity = .lost <;> simp [record, hl, hv]
    · simp [record, hl]
  have htracker : (enterRetain why low s).ret.tracker = Tracker.atEntry (enterRetain why low s).ret.record := rfl
  have hstate : (enterRetain why low s).node.state = downState (entryPins why low s.pins) := rfl
  refine ⟨_, hexec, hrecord, rfl, ?_, ?_, rfl, fun ho => ?_, fun ho => ?_, ?_⟩
  · rw [htracker, hrecord]
    rfl
  · cases cause <;> rfl
  · rw [hstate]
    obtain ⟨hl, hv⟩ := ho
    refine if_pos ?_
    rcases hv with hc | hv
    · simp [entryPins, hl, why, hc]
    · simp [entryPins, hl, hv]
  · rw [hstate]
    refine if_neg fun h => ho ?_
    simp only [entryPins, Bool.and_eq_true, Bool.not_eq_true', Bool.and_eq_false_iff] at h
    obtain ⟨hv, hl⟩ := h
    refine ⟨hl, hv.symm.imp_left fun hc => ?_⟩
    cases cause
    · rfl
    · cases hc
  · exact ⟨rfl, rfl, rfl, rfl, rfl, rfl, rfl, rfl, rfl, rfl, rfl, rfl, rfl, rfl, rfl, rfl, rfl, rfl, rfl, rfl, rfl, rfl,
      rfl, rfl, rfl, rfl, rfl, rfl, rfl⟩

/-! ### The tracker (R48 to R51) -/

section
variable {s : State}

/-- A command in RETAIN that moves the Retention Domain alone. -/
theorem next_ret (h : s.node.state = .retain) (d : RetentionDomain) :
    Host.Outcome.next (conclude s (s.setRet d)) = (.next { s with ret := d } : Host.Outcome State Fault Refusal) :=
  next_quiet (.inr (mainUp_of_retain (s := s.setRet d) h)) rfl rfl

theorem trackerEnding_good_iff (w : TrackerWord) :
    trackerEnding w = .good ↔ checkBitsRight w.angle w.error w.c1 w.c0 = true ∧ w.error = false := by
  unfold trackerEnding wordEnding
  cases checkBitsRight w.angle w.error w.c1 w.c0 <;> cases w.error <;> simp

theorem trackerFails_iff (e : TrackerFailure) :
    trackerFails e = true ↔ e = .timeout ∨ ∃ w : TrackerWord, e = .word w ∧
      (w.error = true ∨ checkBitsRight w.angle w.error w.c1 w.c0 = false) := by
  cases e with
  | timeout => simp [trackerFails]
  | word w =>
    have h : trackerFails (.word w) = true ↔ ¬trackerEnding w = .good := bne_iff_ne
    rw [h, trackerEnding_good_iff]
    simp [or_comm, imp_iff_not_or]

/-- The step between two quadrants, as the manual writes it (R50). -/
theorem quadrantStep_toNat (q r : Quadrant) : (quadrantStep q r).toNat = (q.toNat + 4 - r.toNat) % 4 := by
  have hr := r.isLt
  rw [quadrantStep, BitVec.toNat_sub]
  congr 1
  omega

theorem quadrantStep_eq_iff (q r : Quadrant) (n : Nat) (hn : n < 4) :
    quadrantStep q r = BitVec.ofNat 2 n ↔ (q.toNat + 4 - r.toNat) % 4 = n := by
  rw [← quadrantStep_toNat, ← BitVec.toNat_inj, BitVec.toNat_ofNat, Nat.mod_eq_of_lt (show n < 2 ^ 2 by omega)]

theorem downgrade_of_valid {r : RetainedRecord} (why : RetainedReason) (h : r.validity = .valid) :
    downgrade why r = { r with validity := .doubtful, reason := why } := if_pos h

theorem downgrade_of_not_valid {r : RetainedRecord} (why : RetainedReason) (h : r.validity ≠ .valid) :
    downgrade why r = r := if_neg h

theorem downgrade_kept (why : RetainedReason) (r : RetainedRecord) :
    (downgrade why r).tRet = r.tRet ∧ (downgrade why r).cause = r.cause ∧ (downgrade why r).anchored = r.anchored ∧
      (downgrade why r).reentries = r.reentries := by
  unfold downgrade
  split <;> exact ⟨rfl, rfl, rfl, rfl⟩

theorem changeTurn_inside {d : Int} {r : RetainedRecord}
    (h : d = 0 ∨ -32768 ≤ r.tRet + d ∧ r.tRet + d ≤ 32767) :
    (changeTurn d r).tRet = r.tRet + d ∧ (changeTurn d r).netTurns = r.netTurns + d ∧
      (changeTurn d r).validity = r.validity ∧ (changeTurn d r).reason = r.reason := by
  by_cases hd : d = 0
  · rw [changeTurn, if_pos hd]
    exact ⟨by omega, by omega, rfl, rfl⟩
  · have hin : inRange turnMin turnMax (r.tRet + d) = true := inRange_iff.mpr (h.resolve_left hd)
    rw [changeTurn, if_neg hd, if_pos hin]
    exact ⟨rfl, rfl, rfl, rfl⟩

theorem changeTurn_outside {d : Int} {r : RetainedRecord} (hd : d ≠ 0)
    (h : ¬(-32768 ≤ r.tRet + d ∧ r.tRet + d ≤ 32767)) : changeTurn d r = downgrade .range r := by
  have hout : ¬inRange turnMin turnMax (r.tRet + d) = true := mt inRange_iff.mp h
  rw [changeTurn, if_neg hd, if_neg hout]

theorem changeTurn_kept (d : Int) (r : RetainedRecord) :
    (changeTurn d r).cause = r.cause ∧ (changeTurn d r).anchored = r.anchored ∧ (changeTurn d r).reentries = r.reentries := by
  obtain ⟨-, hcause, hanchored, hre⟩ := downgrade_kept .range r
  unfold changeTurn
  split
  · exact ⟨rfl, rfl, rfl⟩
  · split
    · exact ⟨rfl, rfl, rfl⟩
    · exact ⟨hcause, hanchored, hre⟩

section
variable {q : Quadrant} {r : RetainedRecord}

theorem trackRecord_same (h : quadrantStep q r.qRet = 0#2) : trackRecord q r = r := if_pos h

theorem trackRecord_opposite (h : quadrantStep q r.qRet = 2#2) :
    trackRecord q r = { downgrade .step r with qRet := q, playKnown := false, s := 0, lastDir := r.lastDir } := by
  have hd : stepDirection (2#2) r.lastDir = r.lastDir := rfl
  simp [trackRecord, h, hd]

theorem trackRecord_next (h0 : quadrantStep q r.qRet ≠ 0#2) (h2 : quadrantStep q r.qRet ≠ 2#2) :
    trackRecord q r = { changeTurn (turnChange r.qRet q) r with
      qRet := q, playKnown := false, s := 0, lastDir := stepDirection (quadrantStep q r.qRet) r.lastDir } := by
  rw [trackRecord, if_neg h0, if_neg h2]

/-- What a changed quadrant does to the record (R50). -/
theorem trackRecord_changed (h : quadrantStep q r.qRet ≠ 0#2) :
    (trackRecord q r).qRet = q ∧ (trackRecord q r).playKnown = false ∧ (trackRecord q r).s = 0 ∧
      (trackRecord q r).cause = r.cause ∧ (trackRecord q r).anchored = r.anchored ∧
      (trackRecord q r).reentries = r.reentries ∧
      (trackRecord q r).lastDir = stepDirection (quadrantStep q r.qRet) r.lastDir := by
  by_cases h2 : quadrantStep q r.qRet = 2#2
  · obtain ⟨-, hcause, hanchored, hre⟩ := downgrade_kept .step r
    rw [trackRecord_opposite h2, h2]
    exact ⟨rfl, rfl, rfl, hcause, hanchored, hre, rfl⟩
  · obtain ⟨hcause, hanchored, hre⟩ := changeTurn_kept (turnChange r.qRet q) r
    rw [trackRecord_next h h2]
    exact ⟨rfl, rfl, rfl, hcause, hanchored, hre, rfl⟩

end

theorem exec_trackerReadGood {θ : Theta} {c1 c0 : Bool} (h : s.node.state = .retain) (hk : s.ret.tracker.reading = true)
    (hc : checkBitsRight θ false c1 c0 = true) :
    exec (.trackerReadGood ⟨θ, false, c1, c0⟩) s = .next { s with ret := { s.ret with
      record := trackRecord (quadrantOf θ) s.ret.record
      tracker := trackGood (quadrantOf θ != s.ret.record.qRet) s.ret.tracker } } := by
  have hgood : trackerEnding ⟨θ, false, c1, c0⟩ = .good := (trackerEnding_good_iff _).mpr ⟨hc, rfl⟩
  refine Eq.trans ?_ (next_ret h _)
  exact congrArg (fun t => Host.Outcome.next (conclude s t)) (if_pos ⟨h, hk, hgood⟩)

/-- The tracker's reads one by one (R48 to R51). -/
theorem trackerRead_good (h : s.node.state = .retain) (hk : s.ret.tracker.reading = true) (θ : Theta) (c1 c0 : Bool)
    (hc : checkBitsRight θ false c1 c0 = true) :
    let r := s.ret.record
    let k := s.ret.tracker
    let q := quadrantOf θ
    let step := (q.toNat + 4 - r.qRet.toNat) % 4
    let run := if k.unchangedRun < 64 then k.unchangedRun + 1 else 64
    let turn : Int := if r.qRet = 3#2 ∧ q = 0#2 then 1 else if r.qRet = 0#2 ∧ q = 3#2 then -1 else 0
    let inside := -32768 ≤ r.tRet + turn ∧ r.tRet + turn ≤ 32767
    ∃ t, exec (.trackerReadGood ⟨θ, false, c1, c0⟩) s = .next t ∧ t = { s with ret := t.ret } ∧
      t.ret = { s.ret with record := t.ret.record, tracker := t.ret.tracker } ∧
      (step = 0 → t.ret.record = r ∧ t.ret.tracker =
        { k with reading := false, failedRun := 0, unchangedRun := run, interval := if run = 64 then .slow else k.interval }) ∧
      (step ≠ 0 → t.ret.tracker = { k with reading := false, failedRun := 0, unchangedRun := 0, interval := .fast } ∧
        t.ret.record.qRet = q ∧ t.ret.record.playKnown = false ∧ t.ret.record.s = 0 ∧ t.ret.record.cause = r.cause ∧
        t.ret.record.anchored = r.anchored ∧ t.ret.record.reentries = r.reentries) ∧
      (step = 1 → t.ret.record.lastDir = .forward) ∧ (step = 3 → t.ret.record.lastDir = .backward) ∧
      (step = 2 → t.ret.record.lastDir = r.lastDir ∧ t.ret.record.tRet = r.tRet ∧
        (r.validity = .valid → t.ret.record.validity = .doubtful ∧ t.ret.record.reason = .step) ∧
        (r.validity ≠ .valid → t.ret.record.validity = r.validity ∧ t.ret.record.reason = r.reason)) ∧
      (step = 1 ∨ step = 3 → turn = 0 ∨ inside →
        t.ret.record.tRet = r.tRet + turn ∧ t.ret.record.netTurns = r.netTurns + turn ∧
        t.ret.record.validity = r.validity ∧ t.ret.record.reason = r.reason) ∧
      (step = 1 ∨ step = 3 → turn ≠ 0 → ¬inside → t.ret.record.tRet = r.tRet ∧
        (r.validity = .valid → t.ret.record.validity = .doubtful ∧ t.ret.record.reason = .range) ∧
        (r.validity ≠ .valid → t.ret.record.validity = r.validity)) := by
  intro r k q step run turn inside
  have hstep (n : Nat) (hn : n < 4) : quadrantStep q r.qRet = BitVec.ofNat 2 n ↔ step = n := quadrantStep_eq_iff q r.qRet n hn
  have hzero : quadrantStep q r.qRet = 0#2 ↔ q = r.qRet := sub_eq_zero
  have hside (h13 : step = 1 ∨ step = 3) : quadrantStep q r.qRet ≠ 0#2 ∧ quadrantStep q r.qRet ≠ 2#2 := by
    rw [ne_eq, ne_eq, hstep 0 (by decide), hstep 2 (by decide)]
    omega
  refine ⟨_, exec_trackerReadGood h hk hc, rfl, rfl, fun h0 => ?_, fun h0 => ?_, fun h1 => ?_, fun h3 => ?_, fun h2 => ?_,
    fun h13 ht => ?_, fun h13 ht hi => ?_⟩
  · have hz := (hstep 0 (by decide)).mpr h0
    have hq : (q != r.qRet) = false := by simp [hzero.mp hz]
    refine ⟨trackRecord_same hz, ?_⟩
    show trackGood (q != r.qRet) k = _
    rw [hq]
    show trackerSlow { k with reading := false, failedRun := 0, unchangedRun := run } = _
    unfold trackerSlow
    by_cases hr : run = 64
    · simp only [hr, if_true]
    · simp only [hr, if_false]
  · have hz := mt (hstep 0 (by decide)).mp h0
    have hq : (q != r.qRet) = true := bne_iff_ne.mpr (mt hzero.mpr hz)
    obtain ⟨hqr, hp, hs, hcause, ha, hre, -⟩ := trackRecord_changed hz
    refine ⟨?_, hqr, hp, hs, hcause, ha, hre⟩
    show trackGood (q != r.qRet) k = _
    rw [hq]
    rfl
  · obtain ⟨-, -, -, -, -, -, hd⟩ := trackRecord_changed (hside (.inl h1)).1
    rw [(hstep 1 (by decide)).mpr h1] at hd
    exact hd
  · obtain ⟨-, -, -, -, -, -, hd⟩ := trackRecord_changed (hside (.inr h3)).1
    rw [(hstep 3 (by decide)).mpr h3] at hd
    exact hd
  · have hopp : trackRecord q r = _ := trackRecord_opposite ((hstep 2 (by decide)).mpr h2)
    simp only [r, q] at hopp ⊢
    rw [hopp]
    refine ⟨rfl, (downgrade_kept .step _).1, fun hv => ?_, fun hv => ?_⟩
    · rw [downgrade_of_valid .step hv]
      exact ⟨rfl, rfl⟩
    · rw [downgrade_of_not_valid .step hv]
      exact ⟨rfl, rfl⟩
  · obtain ⟨hn0, hn2⟩ := hside h13
    have hnext : trackRecord q r = _ := trackRecord_next hn0 hn2
    simp only [r, q] at hnext ⊢
    rw [hnext]
    exact changeTurn_inside ht
  · obtain ⟨hn0, hn2⟩ := hside h13
    have hnext : trackRecord q r = _ := trackRecord_next hn0 hn2
    have hout : changeTurn (turnChange r.qRet q) r = downgrade .range r := changeTurn_outside ht hi
    simp only [r, q] at hnext hout ⊢
    rw [hnext, hout]
    refine ⟨(downgrade_kept .range _).1, fun hv => ?_, fun hv => ?_⟩
    · rw [downgrade_of_valid .range hv]
      exact ⟨rfl, rfl⟩
    · rw [downgrade_of_not_valid .range hv]

theorem trackerFailed3_eq (d : RetentionDomain) :
    trackerFailed3 d = { d with record :=
      if d.tracker.failedRun = 3 ∧ d.record.validity = .valid then { d.record with validity := .doubtful, reason := .encoder }
      else d.record } := by
  unfold trackerFailed3
  by_cases h3 : d.tracker.failedRun = 3
  · simp only [h3, if_true, true_and]
    rfl
  · simp only [h3, if_false, false_and]

theorem exec_trackerReadFailed {ending : TrackerFailure} (h : s.node.state = .retain) (hk : s.ret.tracker.reading = true)
    (he : trackerFails ending = true) :
    exec (.trackerReadFailed ending) s =
      .next { s with ret := trackerFailed3 { s.ret with tracker := trackFailed s.ret.tracker } } := by
  refine Eq.trans ?_ (next_ret h _)
  exact congrArg (fun t => Host.Outcome.next (conclude s t)) (if_pos ⟨h, hk, he⟩)

/-- Settles O43. -/
theorem trackerReads : Obligations.TrackerReads := by
  intro s h
  have hret (d : RetentionDomain) {u : State} (hu : u = s.setRet d) :
      Host.Outcome.next (conclude s u) = (.next { s with ret := d } : Host.Outcome State Fault Refusal) := by
    rw [hu]
    exact next_ret h d
  refine ⟨fun hr hk => hret _ (if_pos ⟨h, hr, hk⟩), fun hk θ c1 c0 hc => trackerRead_good h hk θ c1 c0 hc,
    fun hk ending he => ?_, fun hu => ?_, fun hf hv => ?_⟩
  · rw [exec_trackerReadFailed h hk ((trackerFails_iff ending).mpr he), trackerFailed3_eq]
    rfl
  · have hslow : trackerSlow s.ret.tracker = { s.ret.tracker with interval := .slow } := if_pos hu
    rw [← hslow]
    exact hret _ (if_pos h)
  · have hthree : trackerFailed3 s.ret =
        { s.ret with record := { s.ret.record with validity := .doubtful, reason := .encoder } } := by
      rw [trackerFailed3_eq, if_pos ⟨hf, hv⟩]
    rw [← hthree]
    exact hret _ (if_pos h)

end

/-! ### The supplies and the dwell (R41, R42, R53, R54) -/

theorem stateByte_down {n : NodeRecord} {x : NodeState} (hn : n.state = .retain) (hx : x = .retain ∨ x = .off) :
    stateByte { n with state := x } = stateByte n := by
  rcases hx with rfl | rfl <;> simp [stateByte, nodeStateCode, substateCode, hn]

theorem downState_cases (p : Pins) : downState p = .retain ∨ downState p = .off := by
  unfold downState
  split
  · exact .inr rfl
  · exact .inl rfl

/-- A supply change in RETAIN: the pins, the domain, and RETAIN or OFF. -/
theorem next_judgeDown {s : State} (h : s.node.state = .retain) (p : Pins) (d : RetentionDomain) :
    Host.Outcome.next (conclude s (judgeDown ((s.setPins p).setRet d))) =
      (.next { s with pins := p, ret := d, node := { s.node with state := downState p } } :
        Host.Outcome State Fault Refusal) := by
  have hdown : (judgeDown ((s.setPins p).setRet d)).mainUp = false := by
    rcases downState_cases p with hx | hx
    · exact mainUp_of_retain hx
    · exact mainUp_of_off hx
  refine next_quiet (.inr hdown) ?_ ?_
  · rw [permission_down hdown, permission_down (mainUp_of_retain h)]
  · have hbyte : stateByte { s.node with state := downState p } = stateByte s.node := stateByte_down h (downState_cases p)
    unfold State.statusTriggers
    rw [show (judgeDown ((s.setPins p).setRet d)).node = { s.node with state := downState p } from rfl, hbyte]
    rfl

/-- A notice of a kind that only reports: the supervisor's record, and the permission judged. -/
theorem notice_of_report {s : State} {k : FaultKind} (ha : s.active k = false) (hr : s.actionOf k = .report)
    (hk : removingKind k = false) :
    notice k s = judgeGate s (s.setFaults (enterKind k (s.recordOf k .none) s.faults)) := by
  have hm : k ≠ .motorEncoder := by
    rintro rfl
    cases hk
  have hretry (v : State) : startRetry k v = v := if_neg (by simp [hm])
  have hhoming (v : State) (hv : v.actionOf k = .report) : endHomingByFault k v = v := if_neg (by simp [hv])
  have hremove (v : State) : removeByKind k true v = v := if_neg (by simp [hk])
  rw [notice, noticeWith, if_neg (by simp [ha]), entryNotice, hretry, hremove, hhoming]
  · rfl
  · simpa [State.actionOf] using hr

/-- Settles O44. -/
theorem suppliesAndDwell : Obligations.SuppliesAndDwell := by
  intro s stopped lost
  have hnext {u v : State} (hu : u = v) : Host.Outcome.next (conclude s u) =
      (Host.Outcome.next (conclude s v) : Host.Outcome State Fault Refusal) := by rw [hu]
  refine ⟨fun h vmain => ?_, fun h => ⟨?_, ?_⟩, fun h => ?_, fun h => ?_, fun hrun ha hr => ?_, fun hrun ha => ?_⟩
  · refine ((hnext (if_pos h)).trans (next_judgeDown h _ _)).trans ?_
    cases vmain <;> rfl
  · exact (hnext (if_pos h)).trans (next_judgeDown h _ _)
  · refine ((hnext (if_pos h)).trans (next_judgeDown h _ _)).trans ?_
    show Host.Outcome.next { s with pins := _, ret := s.ret, node := { s.node with state := NodeState.retain } } = _
    rw [← h]
  · exact (hnext (if_pos h)).trans (next_ret h _)
  · refine (hnext (if_pos h)).trans ?_
    exact next_quiet (.inr (mainUp_of_off (s := s.setRet { s.ret with stateLost := true }) h)) rfl rfl
  · refine ⟨_, hnext (if_pos hrun), ?_⟩
    rw [notice_of_report ha hr rfl]
    exact settles_judged s _
  · have hgone : conditionGone .backupLow (s.setPins { s.pins with vbakLow := false }) =
        depart .backupLow (s.setPins { s.pins with vbakLow := false }) :=
      conditionGone_departs (s := s.setPins { s.pins with vbakLow := false }) ha (by decide) (by decide) rfl
    refine ⟨_, hnext (if_pos hrun), ?_⟩
    rw [hgone, depart, departKind_of_ne (by decide)]
    exact settles_judged s _

/-! ### The starts (R54 to R58) -/

/-- The main domain at a start from record r. -/
def MainStarted (t : State) (r : RetainedRecord) (straps : Straps) : Prop :=
  t.node = NodeRecord.start r ∧ t.straps = straps ∧ t.ret.record = r ∧ t.ret.mirror = TurnMirror.load r ∧
    t.ret.tracker.running = false ∧ t.ret.tracker.reading = false ∧ t.pos = PositionUnit.start ∧ t.epoch = EpochUnit.start ∧
    t.link = LinkController.start ∧ t.faults = FaultSupervisor.start ∧ t.gate = MotionGate.start ∧
    t.homing = HomingRecord.start ∧ t.sweep = SweepRecord.start ∧ t.coupling = CouplingRecord.start ∧ t.rdyHeld = true

/-- Settles O45. -/
theorem startsOfTheMainDomain : Obligations.StartsOfTheMainDomain := by
  intro s r
  have hnext {u v : State} (hu : u = v) (hs : v.Stopped) (hm : v.mainUp = false ∨ v.ret.mirror.held = true) :
      Host.Outcome.next (conclude s u) = (.next v : Host.Outcome State Fault Refusal) := by rw [hu, hs.conclude hm]
  have hstart (straps : Straps) (v : State) : MainStarted (enterStartup straps v) v.ret.record straps :=
    ⟨rfl, rfl, rfl, rfl, rfl, rfl, rfl, rfl, rfl, rfl, rfl, rfl, rfl, rfl, rfl⟩
  have hdomain : (returnDomain s.ret).record = r ∧ (returnDomain s.ret).stateLost = false ∧
      (returnDomain s.ret).tracker.running = false ∧ (returnDomain s.ret).dwellMet = true := by
    unfold returnDomain
    by_cases hl : s.ret.stateLost = true
    · rw [if_pos hl]
      exact ⟨(if_pos hl).symm, rfl, rfl, rfl⟩
    · rw [if_neg hl]
      exact ⟨(if_neg hl).symm, by simpa using hl, rfl, rfl⟩
  obtain ⟨hrecord, hlost, hrunning, hdwell⟩ := hdomain
  refine ⟨fun h hd straps => ?_, fun h straps => ?_, fun h how hne => ?_⟩
  · refine ⟨_, hnext (if_pos ⟨h, hd⟩) (enterStartup_stopped straps s) (.inr rfl), hstart straps s, rfl, rfl, rfl, rfl⟩
  · refine ⟨_, hnext (if_pos h) (returnFromOff_stopped _ s) (.inr rfl), ?_, hlost, rfl, rfl, rfl⟩
    have hs := hstart straps
      (((mainStart (downNode (returnDomain s.ret).record .retain) s).setPins (returnPins (.startup straps) s.pins)).setRet
        (returnDomain s.ret))
    exact hrecord ▸ hs
  · have hback : (returnFromOff how s).ret = returnDomain s.ret ∧ (returnFromOff how s).node.state = .retain ∧
        (returnFromOff how s).store.calArea = s.store.calArea ∧ (returnFromOff how s).pending = s.pending := by
      cases how with
      | startup straps => exact absurd rfl (hne straps)
      | backup => exact ⟨rfl, rfl, rfl, rfl⟩
      | heldReset low => exact ⟨rfl, rfl, rfl, rfl⟩
    obtain ⟨hret, hstate, hcal, hpending⟩ := hback
    refine ⟨_, hnext (if_pos h) (returnFromOff_stopped how s) (.inl (mainUp_of_retain hstate)), hstate, ?_, ?_, ?_, ?_,
      hcal, hpending⟩
    · rw [hret, hrecord]
    · rw [hret, hlost]
    · rw [hret, hrunning]
    · rw [hret, hdwell]

end Sys2Proof.Machine
end

section
/-! The losses of the coupling and of members, the match and the miss (O40, O41). -/

namespace Sys2Proof.Machine

/-! ### The loss of trust through the source (R72, R81) -/

/-- COUPLING_LOST touches no homing at its entry: the Reference Controller ends it (R95). -/
theorem notice_couplingLost (s : State) : ∃ f g, notice .couplingLost s = (s.setFaults f).setGate g := by
  obtain ⟨f, g, e⟩ := noticeWith_keeping .couplingLost .none s rfl
  have hself (v : State) : endHomingByFault .couplingLost v = v := if_neg (by simp)
  exact ⟨f, g, by rw [notice, e, hself, ite_self]⟩

theorem enterConfirmation_node (s : State) :
    (enterConfirmation s).node = { s.node with state := .restoring .waitSource, phase := .confirmation } := moveNode_node _ _

section
variable {s : State}

theorem trustLoss_of_referenced (h : s.node.state = .referenced) : trustLoss s = enterConfirmation s := by
  simp [trustLoss, h]

theorem trustLoss_of_calibrating (h : s.node.state = .calibrating) :
    trustLoss s = enterConfirmation (dropSweep .discarded s) := by
  simp [trustLoss, h]

theorem trustLoss_of_unreferenced (h : s.node.state = .unreferenced) : trustLoss s = s := by
  simp [trustLoss, h]

theorem confirmIfReferenced_homing (s : State) : (confirmIfReferenced s).homing = s.homing := by
  unfold confirmIfReferenced enterConfirmation
  split
  · simp
  · rfl

theorem trustLoss_homing (h : s.inHoming = true) :
    (trustLoss s).homing = { s.homing with outcome := .failed, reason := .peerLost } := by
  rw [trustLoss_of_inHoming h, confirmIfReferenced_homing, endHoming_homing _ _ _ h]

/-- Outside a homing the loss of trust leaves the homing record. -/
theorem trustLoss_homing_of_not (h : s.inHoming = false) : (trustLoss s).homing = s.homing := by
  have hconfirm (v : State) : (enterConfirmation v).homing = v.homing := by simp [enterConfirmation]
  unfold trustLoss
  split
  · exact hconfirm s
  · exact hconfirm _
  · next hs => simp [State.inHoming, hs] at h
  · rfl

theorem trustLoss_trusted (s : State) : (trustLoss s).node.trusted = s.node.trusted := by
  have hconfirm (v : State) : (enterConfirmation v).node.trusted = v.node.trusted := by rw [enterConfirmation_node]
  unfold trustLoss
  split
  · exact hconfirm s
  · exact hconfirm _
  · have hend := endHoming_trusted .failed .peerLost s
    unfold confirmIfReferenced
    split
    · exact (hconfirm _).trans hend
    · exact hend
  · rfl

theorem referenceOnMatch_trusted (a : Bool) (s : State) : (referenceOnMatch a s).node.trusted = s.node.trusted := by
  unfold referenceOnMatch
  split
  · split
    · rw [moveNode_node]
    · rfl
  · exact trustLoss_trusted s

/-- The count under a loss of the coupling: P and ABS stay (R135). -/
theorem loseCoupling_count (s : State) :
    (loseCoupling s).pos.p = s.pos.p ∧ (loseCoupling s).pos.abs = s.pos.abs := by
  obtain ⟨f, g, e⟩ := notice_couplingLost s
  obtain ⟨hpos, -⟩ := trustLoss_undisturbed (notice .couplingLost s)
  have hsame : (notice .couplingLost s).pos = s.pos := by rw [e]; rfl
  rw [loseCoupling, hpos, hsame]
  exact ⟨rfl, rfl⟩

theorem loseCoupling_faults (s : State) : (loseCoupling s).faults = (notice .couplingLost s).faults := by
  simp [loseCoupling]

/-- The node under a loss of the coupling, by its state (R72, R81). -/
theorem loseCoupling_node (s : State) :
    (s.node.state = .referenced →
      (loseCoupling s).node = { s.node with state := .restoring .waitSource, phase := .confirmation }) ∧
    (s.node.state = .calibrating →
      (loseCoupling s).node = { s.node with state := .restoring .waitSource, phase := .confirmation } ∧
        (loseCoupling s).sweep.outcome = .discarded) ∧
    (s.inHoming = true → (loseCoupling s).homing.outcome = .failed ∧ (loseCoupling s).homing.reason = .peerLost) ∧
    (s.inHoming = false → (loseCoupling s).homing = s.homing) ∧
    (s.node.state = .unreferenced → (loseCoupling s).node = s.node) := by
  obtain ⟨f, g, e⟩ := notice_couplingLost s
  obtain ⟨v, hv⟩ : ∃ v, v = (s.setFaults f).setGate g := ⟨_, rfl⟩
  have hnode : v.node = s.node := by rw [hv]; rfl
  have hhoming : v.homing = s.homing := by rw [hv]; rfl
  have hin : v.inHoming = s.inHoming := by rw [State.inHoming, hnode]; rfl
  have hlose : loseCoupling s = trustLoss v := by rw [loseCoupling, e, hv]
  rw [hlose, ← hnode, ← hin, ← hhoming]
  refine ⟨fun h => ?_, fun h => ?_, fun h => ?_, trustLoss_homing_of_not, fun h => ?_⟩
  · rw [trustLoss_of_referenced h, enterConfirmation_node]
  · rw [trustLoss_of_calibrating h, enterConfirmation_node]
    exact ⟨rfl, by simp [enterConfirmation, dropSweep]⟩
  · rw [trustLoss_homing h]
    exact ⟨rfl, rfl⟩
  · rw [trustLoss_of_unreferenced h]

end

/-! ### Members that fall silent (R126, R127) -/

/-- The change of an entry leaves the count and the supervisor. -/
theorem peerNotice_leaves (a : Address) (s : State) :
    (peerNotice a s).pos.p = s.pos.p ∧ (peerNotice a s).pos.abs = s.pos.abs ∧ (peerNotice a s).faults = s.faults := by
  refine ⟨?_, ?_, by simp⟩
  · rw [(Undisturbed.peerNotice a s).pos]
  · rw [(Undisturbed.peerNotice a s).pos]

/-- The entry that becomes ABSENT, and what it raises (R127). -/
theorem markAbsent_spec (a : Address) (s : State) :
    (markAbsent a s).peers = s.peers.modify a (fun e => { e with absent := true }) ∧
      (s.peers.anyAbsent = false → kindHas (markAbsent a s).faults.active .memberAbsent = true) ∧
      (s.peers.anyAbsent = true → (markAbsent a s).faults = s.faults) ∧
      (markAbsent a s).pos.p = s.pos.p ∧ (markAbsent a s).pos.abs = s.pos.abs := by
  have hnotice (v : State) : (notice .memberAbsent v).pos.p = v.pos.p ∧ (notice .memberAbsent v).pos.abs = v.pos.abs := by
    rw [(Undisturbed.notice rfl v).pos]
    exact ⟨rfl, rfl⟩
  have hboth (v : State) : kindHas (absentNotices a v).faults.active .memberAbsent = true ∧
      (absentNotices a v).pos.p = v.pos.p ∧ (absentNotices a v).pos.abs = v.pos.abs := by
    unfold absentNotices
    simp only
    split
    · obtain ⟨hp, habs, hf⟩ := peerNotice_leaves a (notice .memberAbsent (v.setFree (v.free + 1)))
      rw [hp, habs, hf]
      exact ⟨noticeWith_active _ _ _, (hnotice _).1, (hnotice _).2⟩
    · obtain ⟨hp, habs, -⟩ := peerNotice_leaves a (v.setFree (v.free + 1))
      rw [(hnotice _).1, (hnotice _).2, hp, habs]
      exact ⟨noticeWith_active _ _ _, rfl, rfl⟩
  by_cases h : s.peers.anyAbsent = true
  · have hmark : markAbsent a s = peerNotice a (s.setPeers (s.peers.modify a fun e => { e with absent := true })) := if_pos h
    obtain ⟨hp, habs, hf⟩ := peerNotice_leaves a (s.setPeers (s.peers.modify a fun e => { e with absent := true }))
    rw [hmark, hp, habs, hf]
    refine ⟨by simp, fun hno => ?_, fun _ => rfl, rfl, rfl⟩
    rw [h] at hno
    cases hno
  · have hmark : markAbsent a s = absentNotices a (s.setPeers (s.peers.modify a fun e => { e with absent := true })) := if_neg h
    obtain ⟨hactive, hp, habs⟩ := hboth (s.setPeers (s.peers.modify a fun e => { e with absent := true }))
    rw [hmark, hp, habs]
    exact ⟨by simp, fun _ => hactive, fun hyes => absurd hyes h, rfl, rfl⟩

/-- Settles O40. -/
theorem couplingAndPeerLosses : Obligations.CouplingAndPeerLosses := by
  intro s
  refine ⟨fun hsrc hopen hmiss ha => ?_, fun a e he hab hage => ?_, fun hrun ha => ?_⟩
  · have hop : couplingLostOp s = loseCoupling s := if_pos (by simp [State.coupled, hsrc, hopen, hmiss, ha])
    have ht := conclude_settles s (couplingLostOp s)
    rw [hop] at ht
    obtain ⟨-, -, -, -, hpos, -, hcoupling, hpeers, -, hnode, hsweep, hcal, -, -, -, hfaults, -⟩ := ht.frame
    obtain ⟨hhoming, -⟩ := ht.homing_frame
    obtain ⟨hp, habs⟩ := loseCoupling_count s
    obtain ⟨href, hcalib, hhome, -, hunref⟩ := loseCoupling_node s
    have hlast : (loseCoupling s).faults.last = some ⟨.couplingLost, s.epoch.count, s.node.state, .none⟩ := by
      rw [loseCoupling_faults, notice, noticeWith_entry _ _ _ ha]
      rfl
    refine ⟨_, congrArg (fun t => Host.Outcome.next (conclude s t)) hop, ?_⟩
    rw [hpos, hcoupling, hpeers, hnode, hsweep, hcal, hfaults, hhoming]
    refine ⟨?_, hlast, hp, habs, by simp, by simp, by simp, href, hcalib, hhome, hunref⟩
    rw [loseCoupling_faults]
    exact noticeWith_active _ _ _
  · have hop : peerAbsentOp a s = markAbsent a s := if_pos (by rw [he]; simp [State.overdue, hab, hage])
    have ht := conclude_settles s (peerAbsentOp a s)
    rw [hop] at ht
    obtain ⟨-, -, hepoch, -, hpos, -, hcoupling, hpeers, -, -, -, hcal, -, -, -, hfaults, -⟩ := ht.frame
    obtain ⟨hentries, hraised, hkept, hp, habs⟩ := markAbsent_spec a s
    refine ⟨_, congrArg (fun t => Host.Outcome.next (conclude s t)) hop, ?_⟩
    rw [hpos, hcoupling, hpeers, hepoch, hcal, hfaults]
    exact ⟨hentries, hraised, hkept, hp, habs, by simp, by simp, by simp⟩
  · have hop : quietRun64Op s = conditionCleared .addressClash s := by
      rw [quietRun64Op, if_pos hrun, conditionGone_addressClash ha]
    exact (congrArg (fun t => Host.Outcome.next (conclude s t)) hop).trans (next_quiet (.inl ⟨rfl, rfl⟩) rfl rfl)

/-! ### The match (R71, R72, R133) -/

section
variable {s : State} (joint : Joint) (src : Option SourceFrame)

theorem judgeTravel_link (j : Int) (s : State) : (judgeTravel j s).link = s.link := by simp

/-- The travel judgement moves the node out of HOMING only (R95, R172). -/
theorem judgeTravel_state_of_not_homing (j : Int) (h : s.inHoming = false) : (judgeTravel j s).node.state = s.node.state := by
  unfold judgeTravel
  split
  · rfl
  · split
    · rfl
    · split
      · rfl
      · rw [(notice_outside (s := s.setGate { s.gate with travelSide := .outside }) rfl h).1]
        rfl

/-- What the handover leaves of the node, of the count and of the link. -/
theorem handover_keeps (s : State) :
    (handover joint src s).pos.p = s.pos.p ∧ (handover joint src s).pos.j = s.pos.j ∧
      (s.inHoming = false → (handover joint src s).node.state = s.node.state) := by
  obtain ⟨hnode, hpos, -⟩ := handedOver_frame joint src s
  have hplaced : (handedOver joint src s).inHoming = s.inHoming := by rw [State.inHoming, hnode]; rfl
  have htravel (v : State) : (judgeTravel joint.j v).pos.p = v.pos.p ∧ (judgeTravel joint.j v).pos.j = v.pos.j := by
    unfold judgeTravel
    split
    · exact ⟨rfl, rfl⟩
    · split
      · exact ⟨rfl, rfl⟩
      · split
        · exact ⟨rfl, rfl⟩
        · rw [(Undisturbed.notice rfl _).pos]
          exact ⟨rfl, rfl⟩
  cases ha : s.epoch.alignment with
  | aligning =>
    rw [handover_of_aligning joint src ha]
    exact ⟨rfl, rfl, fun _ => rfl⟩
  | aligned =>
    rw [handover_of_aligned joint src ha]
    split
    · rw [(htravel _).1, (htravel _).2, hpos]
      refine ⟨rfl, rfl, fun h => ?_⟩
      rw [judgeTravel_state_of_not_homing _ (hplaced.trans h), hnode]
    · rw [hpos, hnode]
      exact ⟨rfl, rfl, fun _ => rfl⟩

/-- What the handover keeps and places while ALIGNED (R14, R71, R150). -/
theorem handover_trusted (ha : s.epoch.alignment = .aligned) :
    (handover joint src s).node.trusted = s.trustedNow src ∧
      (s.link.placing = true → (handover joint src s).link.positionSlot =
        some ⟨kindPosition, s.straps.address, 15#4, s.positionPayload joint (s.trustedNow src)⟩) := by
  obtain ⟨hnode, -⟩ := handedOver_frame joint src s
  rw [handover_of_aligned joint src ha]
  split
  · rw [judgeTravel_trusted, judgeTravel_link, hnode]
    exact ⟨rfl, handedOver_positionSlot joint src⟩
  · rw [hnode]
    exact ⟨rfl, handedOver_positionSlot joint src⟩

end

/-- The trusted flag of a coupled node, as a match judges it (R71). -/
theorem trustedNow_coupled {s : State} (f : SourceFrame) (hc : s.coupled = true) :
    s.trustedNow (some f) = (s.pos.abs && (s.node.state == .referenced || s.inHoming || s.node.state == .calibrating) &&
      s.cal.valid && f.absolute && decide (s.coupling.missCount < s.setup.latched.missLimit)) := by
  have hsource : ¬s.setup.latched.source = none := by
    intro hnone
    simp [State.coupled, hnone] at hc
  rw [Bool.eq_iff_iff, trustedNow_iff]
  simp [hsource, or_assoc, and_assoc]

/-- The Reference Controller at a match, by what the source says (R63, R72, R73). -/
theorem referenceOnMatch_spec (v : State) :
    (v.node.state = .referenced → (referenceOnMatch false v).node.state = .restoring .waitSource ∧
      (referenceOnMatch false v).node.phase = .confirmation) ∧
    (v.node.state = .restoring .waitSource → (∃ d, v.work.motor = .counted d) →
      (referenceOnMatch true v).node.state = .restoring .decide) ∧
    ∀ px, v.node.state = .restoring .waitSource → v.work.motor = .extrapolated px →
      (referenceOnMatch true v).node.state = .restoring .waitSource := by
  refine ⟨fun h => ?_, fun h hd => ?_, fun px h hx => ?_⟩
  · have hlost : referenceOnMatch false v = trustLoss v := rfl
    rw [hlost, trustLoss_of_referenced h, enterConfirmation_node]
    exact ⟨rfl, rfl⟩
  · obtain ⟨d, hd⟩ := hd
    have hdecide : referenceOnMatch true v = moveNode { v.node with state := .restoring .decide } v := by
      rw [referenceOnMatch, if_pos rfl, if_pos ⟨h, by simp [State.ownReadGood, hd]⟩]
    rw [hdecide, moveNode_node]
  · have hwait : referenceOnMatch true v = v := by
      rw [referenceOnMatch, if_pos rfl, if_neg (by simp [State.ownReadGood, hx])]
    rw [hwait, h]

/-- The state handed over at a match, the match open and the misses forgotten. -/
def matchJudged (f : SourceFrame) (s : State) : State :=
  let s1 := s.setCoupling { s.coupling with matched := true, lastAbsolute := some f.absolute }
  let s2 := computeJoint (if s1.cal.valid then couplingTerm s1.cal.data f.p else 0) (some f) s1
  s2.setCoupling { s2.coupling with missCount := 0 }

theorem makeMatch_of_pending (f : SourceFrame) {s : State} (h : s.work.coarse = .pending) :
    makeMatch f s = referenceOnMatch f.absolute (conditionGone .couplingLost (matchJudged f s)) := by
  refine if_neg ?_
  simp [State.coarseEnded, computeJoint, h]

/-- The J of a match, its handover and what stays (R13, R14, R133). -/
theorem matchJudged_spec (f : SourceFrame) {s : State} (hc : s.coupled = true) :
    let k := if s.cal.valid then couplingTerm s.cal.data f.p else 0
    let joint := formJoint s.cal true (epochCount s.pos s.work.motor).1 k
    let trusted := s.pos.abs && (s.node.state == .referenced || s.inHoming || s.node.state == .calibrating) &&
      s.cal.valid && f.absolute && decide (s.coupling.missCount < s.setup.latched.missLimit)
    (matchJudged f s).work = { s.work with joint := some joint } ∧ (matchJudged f s).pos.j = joint.j ∧
      (matchJudged f s).pos.p = s.pos.p ∧ (s.inHoming = false → (matchJudged f s).node.state = s.node.state) ∧
      (s.epoch.alignment = .aligned → (matchJudged f s).node.trusted = trusted ∧
        (s.link.placing = true → (matchJudged f s).link.positionSlot =
          some ⟨kindPosition, s.straps.address, 15#4, s.positionPayload joint trusted⟩)) := by
  intro k joint trusted
  obtain ⟨v, hv⟩ : ∃ v, v = ((s.setCoupling { s.coupling with matched := true, lastAbsolute := some f.absolute }).setPos
    { s.pos with j := joint.j }).setWork { s.work with joint := some joint } := ⟨_, rfl⟩
  obtain ⟨w, hw⟩ : ∃ w, w = handover joint (some f) v := ⟨_, rfl⟩
  have hjudged : matchJudged f s = w.setCoupling { w.coupling with missCount := 0 } := by
    have hcoupled : formJoint s.cal s.coupled (epochCount s.pos s.work.motor).1 k = joint := by rw [hc]
    rw [hw, hv, ← hcoupled]
    rfl
  have hflag : v.trustedNow (some f) = trusted := by
    rw [trustedNow_coupled f (by rw [hv]; exact hc), hv]
    rfl
  obtain ⟨hp, hj, hstate⟩ := handover_keeps joint (some f) v
  have hwork : (handover joint (some f) v).work = v.work := by simp
  rw [hjudged]
  simp only [State.setCoupling_work, State.setCoupling_pos, State.setCoupling_node, State.setCoupling_link, hw]
  refine ⟨hwork.trans (by rw [hv]; rfl), hj.trans (by rw [hv]; rfl), hp.trans (by rw [hv]; rfl),
    fun h => (hstate (by rw [hv]; exact h)).trans (by rw [hv]; rfl), fun ha => ?_⟩
  obtain ⟨htrusted, hslot⟩ := handover_trusted joint (some f) (s := v) (by rw [hv]; exact ha)
  rw [hflag] at htrusted hslot
  exact ⟨htrusted, fun hpl => (hslot (by rw [hv]; exact hpl)).trans (by rw [hv]; rfl)⟩

/-- Settles O41. -/
theorem matchAndMiss : Obligations.MatchAndMiss := by
  refine ⟨fun f s hsrc hopen hown hmt hf hpend => ?_, fun s hsrc hopen hmt => ?_⟩
  · intro t k joint trusted
    have hmade : t = makeMatch f s := tryMatch_of_ready hsrc hopen hown hmt hf
    obtain ⟨hcoupling, hlost⟩ := makeMatch_spec f s
    obtain ⟨hwork, hj, hp, hstate, hhanded⟩ := matchJudged_spec f (s := s) hsrc
    obtain ⟨v, hv⟩ : ∃ v, v = conditionGone .couplingLost (matchJudged f s) := ⟨_, rfl⟩
    have hfinal : makeMatch f s = referenceOnMatch f.absolute v := by rw [makeMatch_of_pending f hpend, hv]
    have hnode : v.node = (matchJudged f s).node := by rw [hv]; simp
    have hvwork : v.work = (matchJudged f s).work := by rw [hv]; simp
    have hvpos : v.pos = (matchJudged f s).pos := by rw [hv]; simp
    have hvlink : v.link = (matchJudged f s).link := by rw [hv]; simp
    have hmotor : v.work.motor = s.work.motor := by rw [hvwork, hwork]
    have hpos : (referenceOnMatch f.absolute v).pos.p = v.pos.p ∧ (referenceOnMatch f.absolute v).pos.j = v.pos.j := by
      unfold referenceOnMatch
      split
      · split <;> simp
      · rw [(trustLoss_undisturbed v).1]
        exact ⟨rfl, rfl⟩
    obtain ⟨hwithdrawn, hdecide, hwait⟩ := referenceOnMatch_spec v
    have hoff (hs : s.inHoming = false) : v.node.state = s.node.state := by rw [hnode]; exact hstate hs
    rw [hmade]
    refine ⟨hcoupling, ?_, ?_, ?_, fun ha => ?_, hlost, fun habs hs => ?_, fun habs hs hd => ?_, fun px habs hs hx => ?_⟩
    · have hsame : (referenceOnMatch f.absolute v).work = v.work := by simp
      rw [hfinal, hsame, hvwork, hwork]
    · rw [hfinal, hpos.2, hvpos, hj]
    · rw [hfinal, hpos.1, hvpos, hp]
    · obtain ⟨htrusted, hslot⟩ := hhanded ha
      have hlink : (referenceOnMatch f.absolute v).link = v.link := by simp
      rw [hfinal, referenceOnMatch_trusted, hnode, hlink, hvlink]
      exact ⟨htrusted, hslot⟩
    · rw [hfinal, habs]
      exact hwithdrawn ((hoff (by simp [State.inHoming, hs])).trans hs)
    · rw [hfinal, habs]
      exact hdecide ((hoff (by simp [State.inHoming, hs])).trans hs) (by rw [hmotor]; exact hd)
    · rw [hfinal, habs]
      exact hwait px ((hoff (by simp [State.inHoming, hs])).trans hs) (hmotor.trans hx)
  · intro t
    obtain ⟨u, hu⟩ : ∃ u, u = s.setCoupling
      { s.coupling with prevMissed := true, missCount := satSucc 255 s.coupling.missCount } := ⟨_, rfl⟩
    have hclosed : t = judgeMissCount (missCapture u) := by
      have hcond : (s.coupled && s.coupling.opened) = true := by simp [State.coupled, hsrc, hopen]
      have hcount : t = if s.coupling.matched then s.setCoupling { s.coupling with prevMissed := false } else countMiss s :=
        if_pos hcond
      rw [hcount, hmt, hu]
      rfl
    obtain ⟨w, hw⟩ : ∃ w, w = missCapture u := ⟨_, rfl⟩
    have hwc : w.coupling = u.coupling := by rw [hw]; simp
    have hwf : w.faults = s.faults := by rw [hw, hu]; simp
    have hww : w.work = s.work := by rw [hw, hu]; simp
    have hws : w.setup = s.setup := by rw [hw, hu]; simp
    have hwp : w.pos.p = s.pos.p := by
      rw [hw, (Undisturbed.missCapture u).pos, hu]
      rfl
    have hcoupling : (judgeMissCount w).coupling = u.coupling := by simp [hwc]
    have hmisses : u.coupling.missCount = w.coupling.missCount := by rw [hwc]
    have hhomed : s.node.state = .homing .capture → s.homingOp.captured = true →
        w.homing.outcome = .failed ∧ w.homing.reason = .sourceMissed ∧ w.inHoming = false := by
      intro hs hcap
      have hin : u.inHoming = true := by rw [hu]; simp [State.inHoming, hs]
      have hend : w = endHoming .failed .sourceMissed u := by
        rw [hw]
        exact if_pos ⟨by rw [hu]; exact hs, by rw [hu]; exact hcap⟩
      obtain ⟨hrec, hstate⟩ := ending_of_eq_endHoming hin hend
      rw [hrec]
      refine ⟨rfl, rfl, ?_⟩
      rw [State.inHoming, hstate]
      by_cases hb : u.homing.before = some .referenced
      · rw [if_pos hb]
      · rw [if_neg hb]
    rw [hclosed, ← hw]
    refine ⟨by rw [hcoupling, hu]; rfl, ?_, by simp [hww], fun hs hcap => ?_, fun hl => ?_, fun hl => ?_⟩
    · unfold judgeMissCount
      split
      · rw [(loseCoupling_count w).1, hwp]
      · exact hwp
    · obtain ⟨ho, hr, hout⟩ := hhomed hs hcap
      have hkept : (judgeMissCount w).homing = w.homing := by
        unfold judgeMissCount
        split
        · exact (loseCoupling_node w).2.2.2.1 hout
        · rfl
      rw [hkept]
      exact ⟨ho, hr⟩
    · rw [hcoupling, hmisses, ← hws] at hl
      rw [judgeMissCount, if_pos hl, loseCoupling_faults]
      exact noticeWith_active _ _ _
    · rw [hcoupling, hmisses, ← hws] at hl
      rw [judgeMissCount, if_neg hl, hwf]

end Sys2Proof.Machine
end

section
/-! The ends of a motor read while the coarse read of the epoch is still to end, the timeouts and the marks
(O35, O37). -/

namespace Sys2Proof.Machine

/-! ### The check bits (R35) -/

theorem foldl_xor_eq (p : Nat → Bool) (l : List Nat) (a : Bool) :
    l.foldl (fun b i => b ^^ p i) a = (a ^^ decide ((l.filter p).length % 2 = 1)) := by
  induction l generalizing a with
  | nil => simp
  | cons i l ih =>
    rw [List.foldl_cons, ih]
    cases hp : p i with
    | false => simp [hp]
    | true =>
      rw [List.filter_cons_of_pos hp, List.length_cons, Bool.xor_assoc]
      congr 1
      rw [Bool.true_xor, ← decide_not, decide_eq_decide]
      omega

/-- A check bit is right when it makes the count of ones even. -/
theorem parityAt_xor_iff (l : List Nat) (x : BitVec 14) (c : Bool) :
    (parityAt l x ^^ c) = false ↔ ((l.filter x.getLsbD).length + (if c then 1 else 0)) % 2 = 0 := by
  have hpar : parityAt l x = decide ((l.filter x.getLsbD).length % 2 = 1) := by
    rw [parityAt, foldl_xor_eq, Bool.false_xor]
  rw [hpar]
  cases c
  · simp
  · simp
    omega

theorem checkBitsRight_iff (angle : BitVec 14) (error c1 c0 : Bool) : checkBitsRight angle error c1 c0 = true ↔
    (((List.range 14).filter fun i => i % 2 == 1 && angle.getLsbD i).length + (if c1 then 1 else 0)) % 2 = 0 ∧
    (((List.range 14).filter fun i => i % 2 == 0 && angle.getLsbD i).length + (if error then 1 else 0) +
      (if c0 then 1 else 0)) % 2 = 0 := by
  have hplaces (b : Nat) : (List.range 14).filter (fun i => i % 2 == b && angle.getLsbD i) =
      ((List.range 14).filter fun i => i % 2 == b).filter angle.getLsbD := by
    rw [List.filter_filter]
    exact List.filter_congr fun i _ => Bool.and_comm _ _
  have hodd : ((List.range 14).filter fun i => i % 2 == 1) = [1, 3, 5, 7, 9, 11, 13] := by decide
  have heven : ((List.range 14).filter fun i => i % 2 == 0) = [0, 2, 4, 6, 8, 10, 12] := by decide
  rw [hplaces, hplaces, hodd, heven, checkBitsRight, Bool.and_eq_true, beq_iff_eq, beq_iff_eq, Bool.xor_assoc,
    parityAt_xor_iff, parityAt_xor_iff]
  refine and_congr_right fun _ => ?_
  cases error <;> cases c0 <;> simp
  all_goals omega

theorem wordEnding_good {angle : BitVec 14} {c1 c0 : Bool} (h : checkBitsRight angle false c1 c0 = true) :
    wordEnding angle false c1 c0 = .good := by
  simp [wordEnding, h]

/-- A bad word fails with its cause (R36). -/
theorem wordEnding_failed {angle : BitVec 14} {error c1 c0 : Bool} {cause : ReadCause}
    (h : (checkBitsRight angle error c1 c0 = false ∧ cause = .check) ∨
      (checkBitsRight angle error c1 c0 = true ∧ error = true ∧ cause = .encoderError)) :
    wordEnding angle error c1 c0 = .failed cause := by
  rcases h with ⟨hc, rfl⟩ | ⟨hc, rfl, rfl⟩
  · simp [wordEnding, hc]
  · simp [wordEnding, hc]

theorem wordEnding_bad {angle : BitVec 14} {error c1 c0 : Bool}
    (h : checkBitsRight angle error c1 c0 = false ∨ error = true) :
    ∃ cause, wordEnding angle error c1 c0 = .failed cause := by
  cases hc : checkBitsRight angle error c1 c0 with
  | false => exact ⟨_, wordEnding_failed (.inl ⟨hc, rfl⟩)⟩
  | true =>
    rw [hc] at h
    exact ⟨_, wordEnding_failed (.inr ⟨hc, h.resolve_left Bool.noConfusion, rfl⟩)⟩

section
variable {θ : Theta} {g : CoarseAngle} {error c1 c0 : Bool} {s : State}

theorem readComplete_motor_good (hr : s.enc.motor.reading = true) (h : checkBitsRight θ false c1 c0 = true) :
    readComplete (.motor θ false c1 c0) s = motorGood θ (portResponded .motor s) := by
  rw [readComplete, motorWord, if_pos hr, wordEnding_good h]

theorem readComplete_motor_failed {cause : ReadCause} (hr : s.enc.motor.reading = true)
    (h : wordEnding θ error c1 c0 = .failed cause) :
    readComplete (.motor θ error c1 c0) s = motorFailed cause (portResponded .motor s) := by
  rw [readComplete, motorWord, if_pos hr, h]

theorem readComplete_coarse_good (hr : s.enc.coarse.reading = true)
    (h : checkBitsRight (g.zeroExtend 14) false c1 c0 = true) :
    readComplete (.coarse g false c1 c0) s = coarseGood g (portResponded .coarse s) := by
  rw [readComplete, coarseWord, if_pos hr, wordEnding_good h]

theorem readComplete_coarse_failed {cause : ReadCause} (hr : s.enc.coarse.reading = true)
    (h : wordEnding (g.zeroExtend 14) error c1 c0 = .failed cause) :
    readComplete (.coarse g error c1 c0) s = coarseFailed cause (portResponded .coarse s) := by
  rw [readComplete, coarseWord, if_pos hr, h]

end

/-! ### What a read leaves while the coarse read is pending -/

/-- The count but for J and the drift run, the calibration and the store stay. -/
structure CountHeld (s t : State) : Prop where
  pos : t.pos = { s.pos with j := t.pos.j, driftRun := t.pos.driftRun }
  cal : t.cal = s.cal
  store : t.store = s.store

namespace CountHeld

variable {s t u : State}

theorem of_eq (hp : t.pos = s.pos) (hc : t.cal = s.cal) (hs : t.store = s.store) : CountHeld s t := ⟨by rw [hp], hc, hs⟩

theorem refl (s : State) : CountHeld s s := of_eq rfl rfl rfl

theorem after (b : CountHeld t u) (a : CountHeld s t) : CountHeld s u :=
  ⟨b.pos.trans (by rw [a.pos]), b.cal.trans a.cal, b.store.trans a.store⟩

theorem orSelf {c : Prop} [Decidable c] {a : State} (ha : CountHeld s a) : CountHeld s (if c then a else s) := by
  split
  · exact ha
  · exact refl s

theorem ite {c : Prop} [Decidable c] {a b : State} (ha : CountHeld s a) (hb : CountHeld s b) :
    CountHeld s (if c then a else b) := by
  split
  · exact ha
  · exact hb

theorem judgeTravel (j : Int) (s : State) : CountHeld s (judgeTravel j s) := by
  refine ⟨?_, by simp, by simp⟩
  unfold Machine.judgeTravel
  split
  · rfl
  · split
    · rfl
    · split
      · rfl
      · rw [(Undisturbed.notice rfl _).pos]
        rfl

theorem handover (joint : Joint) (src : Option SourceFrame) (s : State) : CountHeld s (handover joint src s) := by
  obtain ⟨-, hpos, -⟩ := handedOver_frame joint src s
  have hplaced : CountHeld s (handedOver joint src s) := of_eq hpos (by simp [handedOver]) (by simp [handedOver])
  unfold Machine.handover
  exact orSelf (ite ((judgeTravel _ _).after hplaced) hplaced)

theorem computeJoint (k : Int) (src : Option SourceFrame) (s : State) : CountHeld s (computeJoint k src s) :=
  (handover _ _ _).after ⟨rfl, rfl, rfl⟩

theorem homingUncounted (s : State) : CountHeld s (homingUncounted s) := by
  refine ⟨?_, by simp, by simp⟩
  unfold Machine.homingUncounted
  split
  · split
    · rw [(Undisturbed.endHoming _ _ s).pos]
    · rfl
  · rfl

theorem referenceOnMatch (a : Bool) (s : State) : CountHeld s (referenceOnMatch a s) := by
  refine ⟨?_, by simp, by simp⟩
  unfold Machine.referenceOnMatch
  split
  · split <;> simp
  · rw [(trustLoss_undisturbed s).1]

theorem tryMatch (h : s.work.coarse = .pending) : CountHeld s (tryMatch s) := by
  refine orSelf ?_
  split
  · exact refl s
  · next f _ =>
    have hgone (v : State) : CountHeld v (conditionGone .couplingLost v) := of_eq (by simp) (by simp) (by simp)
    have hset (c : CouplingRecord) (v : State) : CountHeld v (v.setCoupling c) := of_eq rfl rfl rfl
    rw [makeMatch_of_pending f h]
    exact (referenceOnMatch _ _).after ((hgone _).after ((hset _ _).after ((computeJoint _ _ _).after (hset _ _))))

end CountHeld

theorem coarseEvaluate_of_pending {s : State} (h : s.work.coarse = .pending) : coarseEvaluate s = s :=
  if_neg (by simp [State.coarseEnded, h])

theorem afterCount_coupled {s : State} (h : s.coupled = true) :
    afterCount s = tryMatch (s.setCoupling { s.coupling with own := s.epoch.epochSynced }) := if_pos h

theorem afterCount_uncoupled {s : State} (h : s.coupled = false) :
    afterCount s = coarseEvaluate (computeJoint 0 none s) := if_neg (by simp [h])

section
variable {s : State}

theorem afterCount_held (h : s.work.coarse = .pending) : CountHeld s (afterCount s) := by
  have hset (c : CouplingRecord) (v : State) : CountHeld v (v.setCoupling c) := .of_eq rfl rfl rfl
  cases hc : s.coupled with
  | true =>
    rw [afterCount_coupled hc]
    exact (CountHeld.tryMatch (s := s.setCoupling { s.coupling with own := s.epoch.epochSynced }) h).after (hset _ _)
  | false =>
    rw [afterCount_uncoupled hc, coarseEvaluate_of_pending (by simpa using h)]
    exact .computeJoint _ _ _

/-- The J of an uncoupled node (R13). -/
theorem computeJoint_joint (k : Int) (src : Option SourceFrame) (s : State) :
    (computeJoint k src s).work.joint = some (formJoint s.cal s.coupled (epochCount s.pos s.work.motor).1 k) ∧
      (computeJoint k src s).pos.j = (formJoint s.cal s.coupled (epochCount s.pos s.work.motor).1 k).j := by
  obtain ⟨v, hv⟩ : ∃ v, v = (s.setPos { s.pos with j := (formJoint s.cal s.coupled (epochCount s.pos s.work.motor).1 k).j }).setWork
    { s.work with joint := some (formJoint s.cal s.coupled (epochCount s.pos s.work.motor).1 k) } := ⟨_, rfl⟩
  have hcompute : computeJoint k src s =
      handover (formJoint s.cal s.coupled (epochCount s.pos s.work.motor).1 k) src v := by rw [hv]; rfl
  obtain ⟨-, hj, -⟩ := handover_keeps (formJoint s.cal s.coupled (epochCount s.pos s.work.motor).1 k) src v
  have hwork : (handover (formJoint s.cal s.coupled (epochCount s.pos s.work.motor).1 k) src v).work = v.work := by simp
  rw [hcompute, hwork, hj, hv]
  exact ⟨rfl, rfl⟩

end

/-! ### A good motor word -/

/-- A kind that no good motor read takes away. -/
theorem LeavesKind.afterCount {k : FaultKind} (hk : unraised k = true) (hc : k ≠ .couplingLost) (s : State) :
    LeavesKind k s (afterCount s) := by
  unfold Machine.afterCount
  split
  · exact (LeavesKind.tryMatch hk hc _).after (of_eq rfl)
  · exact (LeavesKind.coarseEvaluate hk _).after (LeavesKind.computeJoint hk _ _ _)

/-- The count update of a good read, the jump's notice and the homing's examination. -/
def goodRead (θ : Theta) (s : State) : State :=
  let s1 := retryTest (motorGoodGone (s.setEnc { s.enc with motor := goodRuns s.enc.motor }))
  let r := countGood s1.cal.h s1.setup.latched.jumpLimit θ s1.pos
  jumpAndHoming r.jump r.delta (takeCount r s1)

theorem motorGood_enc (θ : Theta) (s : State) : (motorGood θ s).enc = { s.enc with motor := goodRuns s.enc.motor } := by
  simp

theorem motorGood_eq (θ : Theta) (s : State) : motorGood θ s = afterCount (exitStartup (openCoupling (goodRead θ s))) := rfl

/-- The read in its runs, and a retry departure with them, leave the count. -/
theorem motorGoodRuns_frame (s : State) :
    let v := retryTest (motorGoodGone (s.setEnc { s.enc with motor := goodRuns s.enc.motor }))
    v.pos = s.pos ∧ v.work = s.work ∧ v.cal = s.cal ∧ v.setup = s.setup ∧ v.node = s.node ∧ v.coupling = s.coupling ∧
      v.epoch = s.epoch ∧ v.link = s.link ∧ v.store = s.store := by
  simp

theorem jumpAndHoming_jump {r : JumpReason} (hr : r ≠ .none) (d : Int) (s : State) :
    (jumpAndHoming r d s).pos.abs = false ∧ kindHas (jumpAndHoming r d s).faults.active .trackJump = true := by
  have habs (v : State) : (noticeWith .trackJump r v).pos.abs = false := by
    rw [noticeWith_pos_removing rfl]
    split
    · rfl
    · next h => simpa using h
  have hexam : (homingCounted d (noticeWith .trackJump r (s.setFree (s.free + 1)))).pos.abs = false ∧
      kindHas (homingCounted d (noticeWith .trackJump r (s.setFree (s.free + 1)))).faults.active .trackJump = true := by
    have hkept (v : State) : (homingCounted d v).pos.abs = v.pos.abs ∧ (homingCounted d v).faults = v.faults := by simp
    rw [(hkept _).1, (hkept _).2]
    exact ⟨habs _, noticeWith_active _ _ _⟩
  unfold jumpAndHoming
  split
  · exact absurd rfl hr
  · simp only
    split
    · exact hexam
    · exact ⟨habs _, noticeWith_active _ _ _⟩

theorem jumpAndHoming_none_abs (d : Int) (s : State) : (jumpAndHoming .none d s).pos.abs = s.pos.abs := by
  simp [jumpAndHoming]

theorem countGood_always (h : Int) (jl : Nat) (θ : Theta) (u : PositionUnit) :
    (countGood h jl θ u).pos.abs = u.abs ∧ (countGood h jl θ u).pos.thetaLast = θ ∧
      (countGood h jl θ u).pos.failedRun = 0 := by
  have hplay (v : PositionUnit) : (playUnknown h v).abs = v.abs ∧ (playUnknown h v).thetaLast = v.thetaLast ∧
      (playUnknown h v).failedRun = v.failedRun := ⟨rfl, rfl, rfl⟩
  have hupdate (d : Int) (v : PositionUnit) : (playUpdate h d v).abs = v.abs ∧
      (playUpdate h d v).thetaLast = v.thetaLast ∧ (playUpdate h d v).failedRun = v.failedRun := by
    unfold playUpdate learnPlay
    split
    · exact ⟨rfl, rfl, rfl⟩
    · split <;> exact ⟨rfl, rfl, rfl⟩
  unfold countGood
  simp only
  split
  · exact ⟨rfl, rfl, rfl⟩
  · split
    · exact hplay _
    · split
      · exact hupdate _ _
      · exact hplay _

section
variable (θ : Theta) (s : State)

theorem goodRead_frame :
    let x := countGood s.cal.h s.setup.latched.jumpLimit θ s.pos
    (goodRead θ s).work = { s.work with motor := .counted x.delta } ∧ (goodRead θ s).cal = s.cal ∧
      (goodRead θ s).setup = s.setup ∧ (goodRead θ s).store = s.store ∧ (goodRead θ s).pos.p = x.pos.p ∧
      (goodRead θ s).pos.s = x.pos.s ∧ (goodRead θ s).pos.playKnown = x.pos.playKnown ∧
      (goodRead θ s).pos.acc = x.pos.acc ∧ (goodRead θ s).pos.deltaLast = x.pos.deltaLast ∧
      (goodRead θ s).pos.lastDir = x.pos.lastDir ∧ (goodRead θ s).pos.thetaLast = θ ∧
      (goodRead θ s).pos.failedRun = 0 := by
  obtain ⟨-, hθ, hf⟩ := countGood_always s.cal.h s.setup.latched.jumpLimit θ s.pos
  simp [goodRead, takeCount, hθ, hf]

theorem goodRead_jump :
    let x := countGood s.cal.h s.setup.latched.jumpLimit θ s.pos
    (x.jump = .none → (goodRead θ s).pos.abs = s.pos.abs) ∧
      (x.jump ≠ .none → (goodRead θ s).pos.abs = false ∧ kindHas (goodRead θ s).faults.active .trackJump = true) := by
  obtain ⟨hpos, -, hcal, hsetup, -⟩ := motorGoodRuns_frame s
  obtain ⟨habs, -, -⟩ := countGood_always s.cal.h s.setup.latched.jumpLimit θ s.pos
  unfold goodRead
  simp only
  rw [hpos, hcal, hsetup]
  refine ⟨fun h => ?_, fun h => jumpAndHoming_jump h _ _⟩
  rw [h, jumpAndHoming_none_abs]
  exact Eq.trans (by simp [takeCount]) habs

end

/-- The end of STARTUP and the opening of the match leave the count, its work and the supervisor. -/
theorem exitStartup_openCoupling_frame (v : State) :
    let w := exitStartup (openCoupling v)
    w.pos = v.pos ∧ w.work = v.work ∧ w.cal = v.cal ∧ w.setup = v.setup ∧ w.store = v.store ∧ w.faults = v.faults := by
  simp

/-- What every end of a motor read leaves (R35 to R37). -/
structure ReadEnded (s t : State) : Prop where
  pins : t.pins = s.pins
  straps : t.straps = s.straps
  epoch : t.epoch = s.epoch
  cal : t.cal = s.cal
  setup : t.setup = s.setup
  store : t.store = s.store
  peers : t.peers = s.peers
  selfCheck : t.selfCheck = s.selfCheck
  coarse : t.enc.coarse = s.enc.coarse
  restart : t.restartPending = s.restartPending
  pending : t.pending = s.pending

theorem ReadEnded.settled {s u v t : State} (h : ReadEnded u v) (ht : Settles s v t) : ReadEnded u t := by
  obtain ⟨hpins, hstraps, hepoch, henc, -, -, -, hpeers, -, -, -, hcal, hsetup, hstore, hself, -, hrestart, hpending⟩ :=
    ht.frame
  obtain ⟨h1, h2, h3, h4, h5, h6, h7, h8, h9, h10, h11⟩ := h
  exact ⟨hpins.trans h1, hstraps.trans h2, hepoch.trans h3, hcal.trans h4, hsetup.trans h5, hstore.trans h6,
    hpeers.trans h7, hself.trans h8, (congrArg EncoderInterface.coarse henc).trans h9, hrestart.trans h10, hpending.trans h11⟩

section
variable {θ : Theta} {u : State} (hp : u.work.coarse = .pending)
include hp

theorem motorGood_ends : ReadEnded u (motorGood θ u) := by
  obtain ⟨hwork, hcal, -, hstore, -⟩ := goodRead_frame θ u
  obtain ⟨-, hwork', hcal', -, hstore', -⟩ := exitStartup_openCoupling_frame (goodRead θ u)
  have hheld := afterCount_held (s := exitStartup (openCoupling (goodRead θ u))) (by rw [hwork', hwork]; exact hp)
  rw [← motorGood_eq] at hheld
  exact ⟨by simp, by simp, by simp, hheld.cal.trans (hcal'.trans hcal), by simp, hheld.store.trans (hstore'.trans hstore),
    by simp, by simp, by simp, by simp, by simp⟩

/-- The count that a good read leaves (R3 to R8, R37). -/
theorem motorGood_count :
    let x := countGood u.cal.h u.setup.latched.jumpLimit θ u.pos
    let t := motorGood θ u
    t.pos.p = x.pos.p ∧ t.pos.thetaLast = θ ∧ t.pos.deltaLast = x.pos.deltaLast ∧ t.pos.failedRun = 0 ∧
      t.pos.s = x.pos.s ∧ t.pos.playKnown = x.pos.playKnown ∧ t.pos.acc = x.pos.acc ∧ t.pos.lastDir = x.pos.lastDir ∧
      t.work.motor = .counted x.delta ∧ (x.jump = .none → t.pos.abs = u.pos.abs) ∧
      (x.jump ≠ .none → t.pos.abs = false ∧ kindHas t.faults.active .trackJump = true) ∧
      (u.setup.latched.source = none → t.work.joint = some (formJoint u.cal false x.pos.p 0) ∧
        t.pos.j = (formJoint u.cal false x.pos.p 0).j) := by
  intro x t
  obtain ⟨hwork, hcal, hsetup, -, h1, h2, h3, h4, h5, h6, h7, h8⟩ := goodRead_frame θ u
  obtain ⟨hnone, hjump⟩ := goodRead_jump θ u
  obtain ⟨hpos', hwork', hcal', hsetup', -, hfaults'⟩ := exitStartup_openCoupling_frame (goodRead θ u)
  obtain ⟨w, hw⟩ : ∃ w, w = exitStartup (openCoupling (goodRead θ u)) := ⟨_, rfl⟩
  have ht : t = afterCount w := by rw [hw]; exact motorGood_eq θ u
  rw [← hw] at hpos' hwork' hcal' hsetup' hfaults'
  have hpend : w.work.coarse = .pending := by rw [hwork', hwork]; exact hp
  have hpos := (afterCount_held hpend).pos
  rw [← ht] at hpos
  have hmotor : t.work.motor = .counted x.delta := by
    have hsame : (afterCount w).work.motor = w.work.motor := by simp
    rw [ht, hsame, hwork', hwork]
  have hkind : LeavesKind .trackJump w t := ht ▸ LeavesKind.afterCount rfl (by decide) w
  refine ⟨by rw [hpos, hpos']; exact h1, by rw [hpos, hpos']; exact h7, by rw [hpos, hpos']; exact h5,
    by rw [hpos, hpos']; exact h8, by rw [hpos, hpos']; exact h2, by rw [hpos, hpos']; exact h3,
    by rw [hpos, hpos']; exact h4, by rw [hpos, hpos']; exact h6, hmotor, fun h => ?_, fun h => ?_, fun hsrc => ?_⟩
  · rw [hpos, hpos']
    exact hnone h
  · obtain ⟨habs, hactive⟩ := hjump h
    rw [hkind, hpos, hpos', hfaults']
    exact ⟨habs, hactive⟩
  · have huncoupled : w.coupled = false := by simp [State.coupled, hsetup', hsetup, hsrc]
    have hjoint := computeJoint_joint 0 none w
    rw [huncoupled, hcal', hcal, hpos', hwork', hwork] at hjoint
    rw [ht, afterCount_uncoupled huncoupled, coarseEvaluate_of_pending (by simpa using hpend)]
    exact h1 ▸ hjoint

end

/-! ### A failed motor read -/

section
variable {cause : ReadCause} {u : State} (hp : u.work.coarse = .pending)
include hp

theorem afterFailed_held (m : EpochMotor) : CountHeld u (afterFailed m u) := by
  unfold afterFailed
  split
  · exact (afterCount_held (by simpa using hp)).after (.homingUncounted u)
  · exact .refl u

/-- What a failed read leaves of the count before its notice (R5, R7). -/
theorem motorFailed_spec :
    ReadEnded u (motorFailed cause u) ∧ (motorFailed cause u).pos.p = u.pos.p ∧
      (motorFailed cause u).pos.thetaLast = u.pos.thetaLast ∧ (motorFailed cause u).pos.deltaLast = u.pos.deltaLast ∧
      (motorFailed cause u).pos.failedRun = (countFailed u.pos).1.failedRun ∧
      (motorFailed cause u).work.motor = (countFailed u.pos).2 ∧
      (u.enc.motor.failRun = 2 → (motorFailed cause u).pos.abs = false) := by
  obtain ⟨v, hv⟩ : ∃ v, v = ((u.setEnc { u.enc with motor := failedRuns cause u.enc.motor }).setPos (countFailed u.pos).1).setWork
    { u.work with motor := (countFailed u.pos).2 } := ⟨_, rfl⟩
  obtain ⟨w, hw⟩ : ∃ w, w = afterFailed (countFailed u.pos).2 v := ⟨_, rfl⟩
  have hfinal : motorFailed cause u = motorFailureNotice w := by rw [hw, hv]; rfl
  have hheld : CountHeld v w := hw ▸ afterFailed_held (by rw [hv]; exact hp) _
  have hcount : (countFailed u.pos).1.p = u.pos.p ∧ (countFailed u.pos).1.thetaLast = u.pos.thetaLast ∧
      (countFailed u.pos).1.deltaLast = u.pos.deltaLast := by
    unfold countFailed
    split <;> exact ⟨rfl, rfl, rfl⟩
  obtain ⟨hcp, -⟩ := hcount
  have hvpos : v.pos = (countFailed u.pos).1 := by rw [hv]; rfl
  have hnotice : (motorFailureNotice w).pos.p = w.pos.p ∧ (motorFailureNotice w).pos.failedRun = w.pos.failedRun ∧
      (motorFailureNotice w).cal = w.cal ∧ (motorFailureNotice w).store = w.store ∧
      (motorFailureNotice w).work = w.work := by
    unfold motorFailureNotice
    split <;> simp
  obtain ⟨hnp, hnf, hnc, hns, hnw⟩ := hnotice
  refine ⟨⟨by simp, by simp, by simp, ?_, by simp, ?_, by simp, by simp, by simp, by simp, by simp⟩, ?_, by simp, by simp, ?_,
    ?_, fun hf => ?_⟩
  · rw [hfinal, hnc, hheld.cal, hv]
    rfl
  · rw [hfinal, hns, hheld.store, hv]
    rfl
  · rw [hfinal, hnp, hheld.pos, hvpos]
    exact hcp
  · rw [hfinal, hnf, hheld.pos, hvpos]
  · have hsame : w.work.motor = v.work.motor := by rw [hw]; simp
    rw [hfinal, hnw, hsame, hv]
    rfl
  · have hthree : w.enc.motor.failRun = 3 := by
      have hsame : w.enc = v.enc := by rw [hw]; simp
      rw [hsame, hv]
      simp [failedRuns, satSucc, hf]
    rw [hfinal, motorFailureNotice, if_pos hthree, notice, noticeWith_pos_removing rfl]
    split
    · rfl
    · next h => simpa using h

end

/-! ### O35 -/

/-- A complete motor word has shown its port (R35). -/
theorem ReadEnded.ofPort {s t : State} (h : ReadEnded (portResponded .motor s) t) :
    t.pins = s.pins ∧ t.straps = s.straps ∧ t.epoch = s.epoch ∧ t.cal = s.cal ∧ t.setup = s.setup ∧ t.store = s.store ∧
      t.peers = s.peers ∧ t.selfCheck = { s.selfCheck with motorPort := .present } ∧ t.enc.coarse = s.enc.coarse ∧
      t.restartPending = s.restartPending ∧ t.pending = s.pending := by
  obtain ⟨h1, h2, h3, h4, h5, h6, h7, h8, h9, h10, h11⟩ := h
  exact ⟨h1, h2, h3, h4, h5, h6, h7, h8, h9, h10, h11⟩

/-- Settles O35. -/
theorem motorWordAndCheckBits : Obligations.MotorWordAndCheckBits := by
  refine ⟨fun θ error c1 c0 s hr hp => ?_, checkBitsRight_iff⟩
  intro x kept
  have hp' : (portResponded .motor s).work.coarse = .pending := hp
  refine ⟨fun hc he => ?_, fun cause hcause => ?_⟩
  · subst he
    have ht := conclude_settles s (motorGood θ (portResponded .motor s))
    obtain ⟨-, -, -, henc, hpos, hwork, -, -, -, -, -, -, -, -, -, hfaults, -⟩ := ht.frame
    refine ⟨_, congrArg (fun t => Host.Outcome.next (conclude s t)) (readComplete_motor_good hr hc),
      ((motorGood_ends hp').settled ht).ofPort, ?_, ?_⟩
    · rw [henc, (motorGood_enc θ _)]
      rfl
    · rw [hpos, hwork, hfaults]
      exact motorGood_count hp'
  · have ht := conclude_settles s (motorFailed cause (portResponded .motor s))
    obtain ⟨-, -, -, henc, hpos, hwork, -, -, -, -, -, -, -, -, -, hfaults, -⟩ := ht.frame
    obtain ⟨hended, hcount, hθ, hd, hrun, hmotor, habs⟩ := motorFailed_spec (cause := cause) hp'
    refine ⟨_, congrArg (fun t => Host.Outcome.next (conclude s t))
      (readComplete_motor_failed hr (wordEnding_failed hcause)), (hended.settled ht).ofPort, ?_, ?_⟩
    · rw [henc, motorFailed_enc]
      rfl
    · rw [hpos, hwork, hfaults]
      exact ⟨hcount, hθ, hd, hrun, hmotor, fun hf => ⟨motorFailed_active hf, habs hf⟩⟩

end Sys2Proof.Machine
end

section
/-! The timeouts of the reads, the ports' presence and the runs at their marks (O37). -/

namespace Sys2Proof.Machine

section
variable {s : State}

/-! ### The timeouts (R35, R36, R115) -/

theorem noteResponse_shows (p : Port) (ack : Bool) (s : State) :
    (noteResponse p ack s).enc = s.enc ∧ (noteResponse p ack s).work = s.work ∧ (noteResponse p ack s).pos = s.pos ∧
      (noteResponse p ack s).epoch = s.epoch ∧ (noteResponse p ack s).store = s.store ∧
      (noteResponse p ack s).peers = s.peers ∧
      (noteResponse p ack s).selfCheck.motorPort = (if p = .motor ∧ ack then .present else s.selfCheck.motorPort) ∧
      (noteResponse p ack s).selfCheck.coarsePort = (if p = .coarse ∧ ack then .present else s.selfCheck.coarsePort) := by
  cases p <;> cases ack <;> exact ⟨rfl, rfl, rfl, rfl, rfl, rfl, rfl, rfl⟩

theorem motorTimeout (ack : Bool) (hr : s.enc.motor.reading = true) (hp : s.work.coarse = .pending) :
    ∃ t, exec (.encoderReadTimeout .motor ack) s = .next t ∧
      t.enc.motor = { reading := false, goodRun := 0, lastCause := .timeout
                      failRun := if s.enc.motor.failRun < 255 then s.enc.motor.failRun + 1 else 255 } ∧
      t.enc.coarse = s.enc.coarse ∧ t.pos.p = s.pos.p ∧ t.pos.thetaLast = s.pos.thetaLast ∧
      t.pos.failedRun = (countFailed s.pos).1.failedRun ∧ t.work.motor = (countFailed s.pos).2 ∧
      t.selfCheck.motorPort = (if ack then .present else s.selfCheck.motorPort) ∧ t.epoch = s.epoch ∧ t.store = s.store := by
  obtain ⟨henc, hwork, hpos, hepoch, hstore, -, hport, -⟩ := noteResponse_shows .motor ack s
  have hread : failReading .motor ack .timeout s = motorFailed .timeout (noteResponse .motor ack s) := if_pos hr
  obtain ⟨hended, hp', hθ, -, hrun, hmotor, -⟩ := motorFailed_spec (cause := .timeout) (u := noteResponse .motor ack s)
    (by rw [hwork]; exact hp)
  have ht := conclude_settles s (motorFailed .timeout (noteResponse .motor ack s))
  obtain ⟨-, -, htepoch, htenc, htpos, htwork, -, -, -, -, -, -, -, htstore, htself, -⟩ := ht.frame
  refine ⟨_, congrArg (fun t => Host.Outcome.next (conclude s t)) hread, ?_⟩
  rw [htepoch, htenc, htpos, htwork, htstore, htself, motorFailed_enc, hended.epoch, hended.store, hended.selfCheck, hp', hθ,
    hrun, hmotor, henc, hpos, hepoch, hstore, hport]
  refine ⟨rfl, rfl, rfl, rfl, rfl, rfl, ?_, rfl, rfl⟩
  simp

theorem coarseFailed_coarse (c : ReadCause) (s : State) : (coarseFailed c s).work.coarse = .failed := by
  simp [coarseFailed]

theorem coarseTimeout (ack : Bool) (hr : s.enc.coarse.reading = true) :
    ∃ t, exec (.encoderReadTimeout .coarse ack) s = .next t ∧
      t.enc.coarse = { reading := false, goodRun := 0, lastCause := .timeout
                       failRun := if s.enc.coarse.failRun < 255 then s.enc.coarse.failRun + 1 else 255 } ∧
      t.enc.motor = s.enc.motor ∧ t.work.coarse = .failed ∧
      (s.enc.coarse.failRun = 2 → kindHas t.faults.active .coarseEncoder = true) ∧
      t.selfCheck.coarsePort = (if ack then .present else s.selfCheck.coarsePort) ∧ t.epoch = s.epoch ∧
      t.peers = s.peers := by
  obtain ⟨henc, -, -, hepoch, -, hpeers, -, hport⟩ := noteResponse_shows .coarse ack s
  have hread : failReading .coarse ack .timeout s = coarseFailed .timeout (noteResponse .coarse ack s) := if_pos hr
  have hkept (v : State) : (coarseFailed .timeout v).epoch = v.epoch ∧ (coarseFailed .timeout v).peers = v.peers ∧
      (coarseFailed .timeout v).selfCheck = v.selfCheck := by simp
  obtain ⟨hcepoch, hcpeers, hcself⟩ := hkept (noteResponse .coarse ack s)
  have ht := conclude_settles s (coarseFailed .timeout (noteResponse .coarse ack s))
  obtain ⟨-, -, htepoch, htenc, -, htwork, -, htpeers, -, -, -, -, -, -, htself, htfaults, -⟩ := ht.frame
  refine ⟨_, congrArg (fun t => Host.Outcome.next (conclude s t)) hread, ?_⟩
  rw [htepoch, htenc, htwork, htpeers, htself, htfaults, coarseFailed_enc, coarseFailed_coarse, hcepoch, hcpeers, hcself,
    henc, hepoch, hpeers, hport]
  refine ⟨rfl, rfl, rfl, fun hf => ?_, ?_, rfl, rfl⟩
  · exact coarseFailed_active (by rw [henc]; exact hf)
  · simp

/-! ### The ports' presence (R115) -/

theorem portPresence_spec (h16 : s.epoch.instants = 16) :
    (s.selfCheck.motorPort = .pending →
      exec (.portPresenceTimeout .motor) s = .next { s with selfCheck := { s.selfCheck with motorPort := .notFound } }) ∧
    (s.selfCheck.coarsePort = .pending →
      exec (.portPresenceTimeout .coarse) s = .next { s with selfCheck := { s.selfCheck with coarsePort := .notFound } }) := by
  have hnext {u : State} (c : SelfCheck) (hu : u = s.setSelfCheck c) :
      Host.Outcome.next (conclude s u) = (.next { s with selfCheck := c } : Host.Outcome State Fault Refusal) := by
    rw [hu]
    exact next_quiet (.inl ⟨rfl, rfl⟩) rfl rfl
  exact ⟨fun hm => hnext _ ((if_pos h16).trans (if_pos hm)), fun hc => hnext _ ((if_pos h16).trans (if_pos hc))⟩

/-! ### The runs at their marks (R37, R38, R179, R180) -/

theorem motorFailureRun3_spec (hf : s.enc.motor.failRun = 3) (ha : s.active .motorEncoder = false) :
    ∃ t, exec .motorFailureRun3 s = .next t ∧ kindHas t.faults.active .motorEncoder = true ∧
      kindHas t.faults.present .motorEncoder = true ∧
      t.pos = (if s.pos.abs then { s.pos with abs := false, driftRun := 0 } else s.pos) ∧
      t.faults.last = some ⟨.motorEncoder, s.epoch.count, s.node.state, .none⟩ ∧
      t.enc = s.enc ∧ t.epoch = s.epoch ∧ t.cal = s.cal ∧ t.setup = s.setup ∧ t.coupling = s.coupling ∧ t.peers = s.peers := by
  have hop : (if s.noted .motorEncoder then s else motorFailureNotice s) = notice .motorEncoder s := by
    rw [if_neg (by simp [State.noted, ha]), motorFailureNotice, if_pos hf]
  have ht := conclude_settles s (notice .motorEncoder s)
  obtain ⟨-, -, hepoch, henc, hpos, -, hcoupling, hpeers, -, -, -, hcal, hsetup, -, -, hfaults, -⟩ := ht.frame
  have hkept : (notice .motorEncoder s).enc = s.enc ∧ (notice .motorEncoder s).epoch = s.epoch ∧
      (notice .motorEncoder s).cal = s.cal ∧ (notice .motorEncoder s).setup = s.setup ∧
      (notice .motorEncoder s).coupling = s.coupling ∧ (notice .motorEncoder s).peers = s.peers := by simp
  refine ⟨_, congrArg (fun t => Host.Outcome.next (conclude s t)) hop, ?_⟩
  rw [hepoch, henc, hpos, hcoupling, hpeers, hcal, hsetup, hfaults]
  refine ⟨noticeWith_active _ _ _, ?_, noticeWith_pos_removing rfl, ?_, hkept⟩
  · rw [notice, noticeWith_present]
    simp [notedPresent, eventKind]
  · rw [notice, noticeWith_entry _ _ _ ha]
    rfl

theorem motorGoodRun8_latched (hg : s.enc.motor.goodRun = 8) (ha : s.active .motorEncoder = true)
    (hr : s.setup.latched.recovery = .latched) :
    exec .motorGoodRun8 s = .next { s with faults := { s.faults with
      present := kindRemove s.faults.present .motorEncoder } } := by
  have hop : motorGoodGone s = conditionCleared .motorEncoder s := by
    rw [motorGoodGone, if_pos hg, conditionGone_motorEncoder ha, retryTest_latched (s := conditionCleared .motorEncoder s) hr]
  exact (congrArg (fun t => Host.Outcome.next (conclude s t)) hop).trans (next_quiet (.inl ⟨rfl, rfl⟩) rfl rfl)

theorem motorGoodRun8_retry (hg : s.enc.motor.goodRun = 8) (ha : s.active .motorEncoder = true)
    (hr : s.setup.latched.recovery = .retry) (hx : s.faults.retryTimer = .expired) :
    ∃ t, exec .motorGoodRun8 s = .next t ∧ Settles s { s with faults := { s.faults with
      active := kindRemove s.faults.active .motorEncoder, present := kindRemove s.faults.present .motorEncoder
      retryTimer := .stopped } } t := by
  have hop : motorGoodGone s = depart .motorEncoder (conditionCleared .motorEncoder s) := by
    rw [motorGoodGone, if_pos hg, conditionGone_motorEncoder ha]
    exact retryTest_departs (s := conditionCleared .motorEncoder s) hr ha hx (Nat.le_of_eq hg.symm)
  have hgone : departKind .motorEncoder (conditionCleared .motorEncoder s).faults = { s.faults with
      active := kindRemove s.faults.active .motorEncoder, present := kindRemove s.faults.present .motorEncoder
      retryTimer := .stopped } := by
    have htwice : kindRemove (kindRemove s.faults.present .motorEncoder) .motorEncoder =
        kindRemove s.faults.present .motorEncoder := by simp [kindRemove, BitVec.and_assoc]
    exact congrArg (fun p => { s.faults with
      active := kindRemove s.faults.active .motorEncoder, present := p, retryTimer := .stopped }) htwice
  have hdepart : depart .motorEncoder (conditionCleared .motorEncoder s) = judgeGate s (s.setFaults { s.faults with
      active := kindRemove s.faults.active .motorEncoder, present := kindRemove s.faults.present .motorEncoder
      retryTimer := .stopped }) := by
    rw [depart, hgone]
    rfl
  refine ⟨_, congrArg (fun t => Host.Outcome.next (conclude s t)) (hop.trans hdepart), settles_judged s _⟩

theorem coarseFailureRun3_spec (hf : s.enc.coarse.failRun = 3) (ha : s.active .coarseEncoder = false)
    (hr : s.actionOf .coarseEncoder = .report) :
    ∃ t, exec .coarseFailureRun3 s = .next t ∧ Settles s { s with faults := { s.faults with
      active := kindAdd s.faults.active .coarseEncoder, present := kindAdd s.faults.present .coarseEncoder
      latchedSet := kindAdd s.faults.latchedSet .coarseEncoder
      first := some (s.faults.first.getD ⟨.coarseEncoder, s.epoch.count, s.node.state, .none⟩)
      last := some ⟨.coarseEncoder, s.epoch.count, s.node.state, .none⟩ } } t := by
  have hop : (if s.noted .coarseEncoder then s else coarseFailureNotice s) = notice .coarseEncoder s := by
    rw [if_neg (by simp [State.noted, ha]), coarseFailureNotice, if_pos hf]
  refine ⟨_, congrArg (fun t => Host.Outcome.next (conclude s t)) hop, ?_⟩
  rw [notice_of_report ha hr rfl]
  exact settles_judged s _

theorem coarseGoodRun8_spec (hg : s.enc.coarse.goodRun = 8) (ha : s.active .coarseEncoder = true) :
    ∃ t, exec .coarseGoodRun8 s = .next t ∧ Settles s { s with faults := { s.faults with
      active := kindRemove s.faults.active .coarseEncoder
      present := kindRemove s.faults.present .coarseEncoder } } t := by
  have hop : coarseGoodGone s = depart .coarseEncoder s := by
    rw [coarseGoodGone, if_pos hg, conditionGone_departs ha (by decide) (by decide) rfl]
  exact ⟨_, congrArg (fun t => Host.Outcome.next (conclude s t)) hop, settles_depart (by decide)⟩

theorem driftRun3_spec (h3 : s.pos.driftRun = 3) :
    ∃ t, exec .driftRun3 s = .next t ∧ kindHas t.faults.active .vernierDrift = true ∧
      t.pos = { s.pos with abs := false, driftRun := 0 } ∧ t.enc = s.enc ∧ t.epoch = s.epoch ∧ t.cal = s.cal ∧
      (s.node.state = .referenced → s.pos.abs = true →
        t.node = { s.node with state := .unreferenced, reason := .fault, basis := .none, confirmed := false }) := by
  have hop : driftRun3 s = driftRaised s := if_pos h3
  have ht := conclude_settles s (driftRaised s)
  obtain ⟨-, -, hepoch, henc, hpos, -, -, -, -, hnode, -, hcal, -, -, -, hfaults, -⟩ := ht.frame
  obtain ⟨hactive, hrpos, hdem⟩ := driftRaised_spec s
  have hkept : (driftRaised s).enc = s.enc ∧ (driftRaised s).epoch = s.epoch ∧ (driftRaised s).cal = s.cal := by
    simp [driftRaised]
  obtain ⟨h1, h2, h3⟩ := hkept
  refine ⟨_, congrArg (fun t => Host.Outcome.next (conclude s t)) hop, ?_⟩
  rw [hepoch, henc, hpos, hnode, hcal, hfaults]
  exact ⟨hactive, hrpos, h1, h2, h3, hdem⟩

end

/-- Settles O37. -/
theorem readTimeoutsAndMarks : Obligations.ReadTimeoutsAndMarks :=
  ⟨⟨fun ack _ => motorTimeout ack, fun ack _ => coarseTimeout ack, fun _ => portPresence_spec⟩,
    fun _ => ⟨motorFailureRun3_spec, motorGoodRun8_latched, motorGoodRun8_retry, coarseFailureRun3_spec, coarseGoodRun8_spec,
      driftRun3_spec⟩⟩

end Sys2Proof.Machine
end

section
/-! A motor word outside HOMING: the coarse evaluation it runs, and the end of STARTUP (O36). -/

namespace Sys2Proof.Machine

/-! ### The coarse evaluation of a node that decides nothing (R16, R20, R21) -/

/-- The state in which the drift monitor of an evaluation is judged. -/
def evaluated (e : Int) (s : State) : State :=
  (s.setPos (coarseResult s.cal.data s.coarseUsable s.work.coarse e (playJoint s.cal.data s.pos.s) s.pos)).setWork
    { s.work with evaluated := true }

section
variable {s : State}

theorem coarseEvaluate_of {joint : Joint} {e : Int} (hv : s.cal.valid = true) (hc : s.coarseEnded = true)
    (he : s.work.evaluated = false) (hj : s.work.joint = some joint) (hje : joint.e = some e) :
    coarseEvaluate s = evaluate joint e s := by
  have hrun : coarseEvaluate s = match s.work.joint with
      | none => s
      | some joint => evaluateJoint joint s := if_pos (by simp [hv, hc, he])
  rw [hrun, hj]
  simp only [evaluateJoint, hje]

theorem coarseEvaluate_idle (h : s.work.joint = none ∨ s.cal.valid = false ∨ s.work.evaluated = true) :
    coarseEvaluate s = s := by
  unfold coarseEvaluate
  rcases h with h | h | h
  · split
    · rw [h]
    · rfl
  · exact if_neg (by simp [h])
  · exact if_neg (by simp [h])

/-- Whether the evaluation carries nothing but the drift monitor. -/
def settledNode (s : State) : Prop := s.node.state = .referenced ∨ s.node.state = .unreferenced

theorem settledNode.inHoming (h : settledNode s) : s.inHoming = false := by
  rcases h with h | h <;> simp [State.inHoming, h]

/-- VERNIER_DRIFT leaves a settled node settled (R74, R177). -/
theorem driftRaised_settled (h : settledNode s) : settledNode (driftRaised s) := by
  obtain ⟨v, hv⟩ : ∃ v, v = s.setPos { s.pos with driftRun := 0 } := ⟨_, rfl⟩
  have hvs : settledNode v := by rw [hv]; exact h
  have hb : v.beforeDecision = false := by rcases hvs with h | h <;> simp [State.beforeDecision, h]
  have hr : driftRaised s = noticeWith .vernierDrift .none v := by rw [hv]; rfl
  rw [hr]
  cases ha : v.pos.abs with
  | true =>
    obtain ⟨w, hn, -, -, e⟩ := noticeWith_of_abs (k := .vernierDrift) (why := .none) rfl hb ha
    rw [e]
    rw [settledNode, ← hn] at hvs
    rcases hvs with h | h
    · exact .inr (by simp [demoteByState, h, demote_node])
    · exact .inr (by simp [demoteByState, h])
  | false =>
    obtain ⟨w, hn, -, e⟩ := noticeWith_of_relative (k := .vernierDrift) (why := .none) rfl hb ha
    rw [e]
    rw [settledNode, ← hn] at hvs
    rcases hvs with h | h
    · exact .inl (by simp [reasonByState, reasonFault, h])
    · exact .inr (by simp [reasonByState, reasonFault, h])

theorem driftMonitor_settled (h : settledNode s) (joint : Joint) (base : Int) (usable : Bool) :
    settledNode (driftMonitor joint base usable s) := by
  unfold driftMonitor driftCount driftRun3
  split
  · split
    · split
      · exact driftRaised_settled (s := s.setPos { s.pos with driftRun := s.pos.driftRun + 1 }) h
      · exact h
    · exact h
  · exact h

theorem evaluationCarries_settled (h : settledNode s) (joint : Joint) (base sj : Int) (usable : Bool) :
    evaluationCarries joint base sj usable s = s := by
  rcases h with h | h <;> simp [evaluationCarries, h]

theorem setRestorePlay_of_not (h : s.node.state ≠ .restoring .decide ∨ s.node.phase ≠ .initial) : setRestorePlay s = s :=
  if_neg (by tauto)

theorem evaluate_of_settled (h : settledNode s) (joint : Joint) (e : Int) :
    evaluate joint e s = driftMonitor joint ((evaluated e s).pos.jg + playJoint s.cal.data s.pos.s) s.coarseUsable
      (evaluated e s) := by
  have hplay : setRestorePlay s = s := setRestorePlay_of_not (.inl (by rcases h with h | h <;> simp [h]))
  have heval : settledNode (evaluated e s) := h
  unfold evaluate
  simp only [hplay]
  exact evaluationCarries_settled (driftMonitor_settled heval _ _ _) _ _ _ _

/-- The Position Unit and the node after the evaluation of a settled node. -/
theorem evaluate_settled_spec (h : settledNode s) (joint : Joint) (e : Int) :
    let u := (evaluated e s).pos
    let drift := driftOf joint.j (u.jg + playJoint s.cal.data s.pos.s)
    let runs := s.coarseUsable = true ∧ (∀ px, s.work.motor ≠ .extrapolated px) ∧ s.node.state = .referenced
    let t := evaluate joint e s
    t.work = { s.work with evaluated := true } ∧
    (¬runs → t.pos = u ∧ t.node = s.node) ∧
    (runs → |drift| ≤ s.cal.data.driftLimit → t.pos = { u with driftRun := 0 } ∧ t.node = s.node) ∧
    (runs → s.cal.data.driftLimit < |drift| → u.driftRun ≠ 2 →
      t.pos = { u with driftRun := u.driftRun + 1 } ∧ t.node = s.node) ∧
    (runs → s.cal.data.driftLimit < |drift| → u.driftRun = 2 → t.pos = { u with driftRun := 0, abs := false } ∧
      kindHas t.faults.active .vernierDrift = true ∧ (u.abs = true → t.node =
        { s.node with state := .unreferenced, reason := .fault, basis := .none, confirmed := false })) := by
  intro u drift runs t
  have heval : t = driftMonitor joint (u.jg + playJoint s.cal.data s.pos.s) s.coarseUsable (evaluated e s) :=
    evaluate_of_settled h joint e
  have hwork : t.work = { s.work with evaluated := true } := by
    have hsame : t.work = (evaluated e s).work := by rw [heval]; simp
    rw [hsame]
    rfl
  obtain ⟨hidle, hwithin, hcount, hraise⟩ :=
    driftMonitorRule.2 joint (u.jg + playJoint s.cal.data s.pos.s) s.coarseUsable (evaluated e s)
  have hin : (evaluated e s).inHoming = false := settledNode.inHoming h
  have hruns : (s.coarseUsable = true ∧ (∀ px, (evaluated e s).work.motor ≠ .extrapolated px) ∧
      ((evaluated e s).node.state = .referenced ∨ (evaluated e s).inHoming = true ∧ (evaluated e s).pos.abs = true)) ↔ runs := by
    simp only [hin, Bool.false_eq_true, false_and, or_false]
    exact Iff.rfl
  rw [hruns] at hidle hwithin hcount hraise
  refine ⟨hwork, fun hr => ?_, fun hr hd => ?_, fun hr hd hn => ?_, fun hr hd hn => ?_⟩
  · rw [heval, hidle hr]
    exact ⟨rfl, rfl⟩
  · rw [heval, hwithin hr hd]
    exact ⟨rfl, rfl⟩
  · rw [heval, hcount hr hd hn]
    exact ⟨rfl, rfl⟩
  · obtain ⟨hactive, hpos, hnode⟩ := hraise hr hd hn
    rw [heval]
    exact ⟨hpos, hactive, hnode hr.2.2⟩

end

/-! ### A good motor word outside HOMING -/

section
variable {s : State}

theorem homingCounted_outside (d : Int) (h : s.inHoming = false) : homingCounted d s = s := by
  unfold State.inHoming at h
  unfold homingCounted
  split at h
  · cases h
  · split <;> simp_all

/-- What no count update touches. -/
theorem countGood_untouched (h : Int) (jl : Nat) (θ : Theta) (u : PositionUnit) :
    (countGood h jl θ u).pos.driftRun = u.driftRun ∧ (countGood h jl θ u).pos.gq = u.gq ∧
      (countGood h jl θ u).pos.jg = u.jg := by
  have hupdate (d : Int) (v : PositionUnit) : (playUpdate h d v).driftRun = v.driftRun ∧
      (playUpdate h d v).gq = v.gq ∧ (playUpdate h d v).jg = v.jg := by
    unfold playUpdate learnPlay
    split
    · exact ⟨rfl, rfl, rfl⟩
    · split <;> exact ⟨rfl, rfl, rfl⟩
  unfold countGood
  simp only
  split
  · exact ⟨rfl, rfl, rfl⟩
  · split
    · exact ⟨rfl, rfl, rfl⟩
    · split
      · exact hupdate _ _
      · exact ⟨rfl, rfl, rfl⟩

theorem endHoldByMotion_leaves (s : State) : (endHoldByMotion s).pos = s.pos ∧ (endHoldByMotion s).node = s.node ∧
    (endHoldByMotion s).faults = s.faults ∧ (endHoldByMotion s).coupling = s.coupling ∧
    (endHoldByMotion s).epoch = s.epoch ∧ (endHoldByMotion s).link = s.link := by simp

/-- A good read outside HOMING that jumps nowhere. -/
theorem goodRead_outside (θ : Theta) (h : s.inHoming = false)
    (hj : (countGood s.cal.h s.setup.latched.jumpLimit θ s.pos).jump = .none) :
    (goodRead θ s).pos = (countGood s.cal.h s.setup.latched.jumpLimit θ s.pos).pos ∧ (goodRead θ s).node = s.node ∧
      (goodRead θ s).coupling = s.coupling ∧ (goodRead θ s).epoch = s.epoch ∧ (goodRead θ s).link = s.link ∧
      (goodRead θ s).active .coarseEncoder = s.active .coarseEncoder := by
  obtain ⟨v, hv⟩ : ∃ v, v = retryTest (motorGoodGone (s.setEnc { s.enc with motor := goodRuns s.enc.motor })) := ⟨_, rfl⟩
  obtain ⟨hpos, -, hcal, hsetup, hnode, hcoupling, hepoch, hlink, -⟩ := motorGoodRuns_frame s
  rw [← hv] at hpos hcal hsetup hnode hcoupling hepoch hlink
  obtain ⟨r, hr⟩ : ∃ r, r = countGood s.cal.h s.setup.latched.jumpLimit θ s.pos := ⟨_, rfl⟩
  obtain ⟨w, hw⟩ : ∃ w, w = takeCount r v := ⟨_, rfl⟩
  obtain ⟨h1, h2, h3, h4, h5, h6⟩ := endHoldByMotion_leaves ((v.setPos r.pos).setWork { v.work with motor := .counted r.delta })
  have hw' : w = endHoldByMotion ((v.setPos r.pos).setWork { v.work with motor := .counted r.delta }) := hw
  rw [← hw'] at h1 h2 h3 h4 h5 h6
  have hwin : w.inHoming = false := by
    rw [State.inHoming, h2]
    exact (congrArg (fun n : NodeRecord => match n.state with
      | .homing _ => true
      | _ => false) hnode).trans h
  have hread : goodRead θ s = w := by
    have hunfold : goodRead θ s = jumpAndHoming r.jump r.delta w := by
      rw [hw, hr, ← hpos, ← hcal, ← hsetup, hv]
      rfl
    have hnone : r.jump = .none := by rw [hr]; exact hj
    rw [hunfold, hnone]
    exact homingCounted_outside _ hwin
  have hkind : LeavesKind .coarseEncoder s v := by
    have hretry (x : State) : LeavesKind .coarseEncoder x (retryTest x) := retryTest_other x (by decide)
    rw [hv]
    exact (hretry _).after ((LeavesKind.orSelf (LeavesKind.gone (by decide) _)).after (.of_eq rfl))
  rw [hread, ← hr]
  refine ⟨h1, h2.trans hnode, h4.trans hcoupling, h5.trans hepoch, h6.trans hlink, ?_⟩
  rw [State.active, h3]
  exact hkind

/-- The handover outside HOMING moves the count's J and the trusted flag alone (R14, R71). -/
theorem computeJoint_outside (k : Int) (src : Option SourceFrame) (h : s.inHoming = false) :
    (computeJoint k src s).pos = { s.pos with j := (computeJoint k src s).pos.j } ∧
      (computeJoint k src s).node = { s.node with trusted := (computeJoint k src s).node.trusted } := by
  obtain ⟨joint, v, hv, hvp, hvn, hvi⟩ : ∃ joint v, computeJoint k src s = handover joint src v ∧
      v.pos = { s.pos with j := joint.j } ∧ v.node = s.node ∧ v.inHoming = false := ⟨_, _, rfl, rfl, rfl, h⟩
  obtain ⟨hnode, hpos, -⟩ := handedOver_frame joint src v
  have hplaced : (handedOver joint src v).inHoming = false := by
    rw [State.inHoming, hnode]
    exact hvi
  have htravel : (judgeTravel joint.j (handedOver joint src v)).pos = (handedOver joint src v).pos ∧
      (judgeTravel joint.j (handedOver joint src v)).node = (handedOver joint src v).node := by
    unfold judgeTravel
    split
    · exact ⟨rfl, rfl⟩
    · split
      · exact ⟨rfl, rfl⟩
      · split
        · exact ⟨rfl, rfl⟩
        · obtain ⟨h1, h2⟩ := notice_outside (k := .travelLimit)
            (s := (handedOver joint src v).setGate { (handedOver joint src v).gate with travelSide := .outside }) rfl hplaced
          exact ⟨h2, h1⟩
  rw [hv]
  cases ha : v.epoch.alignment with
  | aligning =>
    rw [handover_of_aligning joint src ha, hvp, hvn]
    exact ⟨rfl, rfl⟩
  | aligned =>
    rw [handover_of_aligned joint src ha]
    split
    · rw [htravel.1, htravel.2, hpos, hnode, hvp, hvn]
      exact ⟨rfl, rfl⟩
    · rw [hpos, hnode, hvp, hvn]
      exact ⟨rfl, rfl⟩

/-- The Position Unit after the evaluation of a settled node, ABS and the drift run apart. -/
theorem evaluate_settled_pos (h : settledNode s) (joint : Joint) (e : Int) :
    (evaluate joint e s).pos = { (evaluated e s).pos with
      abs := (evaluate joint e s).pos.abs, driftRun := (evaluate joint e s).pos.driftRun } := by
  obtain ⟨-, hidle, hwithin, hcount, hraise⟩ := evaluate_settled_spec h joint e
  by_cases hr : s.coarseUsable = true ∧ (∀ px, s.work.motor ≠ .extrapolated px) ∧ s.node.state = .referenced
  · rcases le_or_gt |driftOf joint.j ((evaluated e s).pos.jg + playJoint s.cal.data s.pos.s)| (s.cal.data.driftLimit : Int)
      with hd | hd
    · rw [(hwithin hr hd).1]
    · by_cases hn : (evaluated e s).pos.driftRun = 2
      · rw [(hraise hr hd hn).1]
      · rw [(hcount hr hd hn).1]
  · rw [(hidle hr).1]

/-- A good motor word that comes second on an uncoupled node: J is formed, and the evaluation runs on it (R13, R16). -/
theorem motorGood_second {θ : Theta} (hnode : settledNode s) (hsrc : s.setup.latched.source = none)
    (hv : s.cal.valid = true) (he : s.work.evaluated = false) (hc : s.coarseEnded = true)
    (hjump : (countGood s.cal.h s.setup.latched.jumpLimit θ s.pos).jump = .none) :
    let x := countGood s.cal.h s.setup.latched.jumpLimit θ s.pos
    let joint := formJoint s.cal false x.pos.p 0
    ∃ v, motorGood θ s = evaluate joint x.pos.p v ∧ v.pos = { x.pos with j := joint.j } ∧
      v.node = { s.node with trusted := v.node.trusted } ∧
      v.work = { s.work with motor := .counted x.delta, joint := some joint } ∧ v.cal = s.cal ∧
      v.active .coarseEncoder = s.active .coarseEncoder := by
  intro x joint
  obtain ⟨hpos, hwnode, -, -, -, hactive⟩ := goodRead_outside θ hnode.inHoming hjump
  obtain ⟨hwork, hcal, hsetup, -⟩ := goodRead_frame θ s
  obtain ⟨w, hw⟩ : ∃ w, w = goodRead θ s := ⟨_, rfl⟩
  rw [← hw] at hpos hwnode hactive hwork hcal hsetup
  have huncoupled : w.coupled = false := by rw [State.coupled, hsetup, hsrc]; rfl
  have hopen : openCoupling w = w := if_neg (by simp [huncoupled])
  have hstay : exitStartup w = w := if_neg (by rw [hwnode]; rcases hnode with h | h <;> simp [h])
  have hafter : motorGood θ s = coarseEvaluate (computeJoint 0 none w) := by
    rw [motorGood_eq, ← hw, hopen, hstay, afterCount_uncoupled huncoupled]
  have hin : w.inHoming = false := settledNode.inHoming (by rw [settledNode, hwnode]; exact hnode)
  obtain ⟨hvpos, hvnode⟩ := computeJoint_outside 0 none hin
  obtain ⟨hvjoint, hvj⟩ := computeJoint_joint 0 none w
  have hjoint : formJoint w.cal w.coupled (epochCount w.pos w.work.motor).1 0 = joint := by
    rw [huncoupled, hcal, hpos, hwork]
    rfl
  rw [hjoint] at hvjoint hvj
  have hvwork : (computeJoint 0 none w).work = { s.work with motor := .counted x.delta, joint := some joint } := by
    have hsame : (computeJoint 0 none w).work = { w.work with joint := (computeJoint 0 none w).work.joint } := by
      simp [computeJoint]
    rw [hsame, hvjoint, hwork]
  have hvcal : (computeJoint 0 none w).cal = s.cal := by
    have hsame : (computeJoint 0 none w).cal = w.cal := by simp
    rw [hsame, hcal]
  have hended : (computeJoint 0 none w).coarseEnded = true := by
    rw [State.coarseEnded, hvwork]
    exact hc
  refine ⟨computeJoint 0 none w, ?_, ?_, ?_, hvwork, hvcal, ?_⟩
  · rw [hafter]
    exact coarseEvaluate_of (by rw [hvcal]; exact hv) hended (by rw [hvwork]; exact he) (by rw [hvwork])
      (by simp [joint, formJoint, hv])
  · rw [hvpos, hvj, hpos]
  · rw [← hwnode]
    exact hvnode
  · rw [← hactive]
    exact LeavesKind.computeJoint rfl _ _ w

/-- What the evaluation makes of a usable coarse read, and of another (R15 to R17). -/
theorem coarseResult_usable (c : CalRecord) (g : CoarseAngle) (e sj : Int) (u : PositionUnit) :
    coarseResult c true (.good g) e sj u = { u with
      evaluated := true, gq := correctedAngle c g, jg := coarseJoint c (correctedAngle c g), usable := true, lastE := e
      lastSj := sj } := rfl

theorem coarseResult_unusable (c : CalRecord) (m : EpochCoarse) (e sj : Int) (u : PositionUnit) :
    coarseResult c false m e sj u = { u with evaluated := true, usable := false, lastE := e, lastSj := sj } := by
  cases m <;> rfl

theorem coarseResult_common (c : CalRecord) (b : Bool) (m : EpochCoarse) (e sj : Int) (u : PositionUnit) :
    coarseResult c b m e sj u = { u with
      evaluated := true, usable := (coarseResult c b m e sj u).usable, gq := (coarseResult c b m e sj u).gq
      jg := (coarseResult c b m e sj u).jg, lastE := e, lastSj := sj } := by
  cases b <;> cases m <;> rfl

theorem coarseUsable_of_good {g : CoarseAngle} (hg : s.work.coarse = .good g) (ha : s.active .coarseEncoder = false) :
    s.coarseUsable = true := by
  simp [State.coarseUsable, hg, ha]

theorem coarseUsable_of_not
    (h : s.work.coarse = .failed ∨ (∃ g, s.work.coarse = .good g ∧ s.active .coarseEncoder = true)) :
    s.coarseUsable = false := by
  rcases h with h | ⟨g, h, ha⟩
  · simp [State.coarseUsable, h]
  · simp [State.coarseUsable, ha]

end

/-- What a good motor word that comes second forms (R13, R16). -/
structure Formed (θ : Theta) (s t : State) : Prop where
  motor : t.work.motor = .counted (countGood s.cal.h s.setup.latched.jumpLimit θ s.pos).delta
  joint : t.work.joint = some (formJoint s.cal false (countGood s.cal.h s.setup.latched.jumpLimit θ s.pos).pos.p 0)
  evaluated : t.work.evaluated = true
  p : t.pos.p = (countGood s.cal.h s.setup.latched.jumpLimit θ s.pos).pos.p
  thetaLast : t.pos.thetaLast = θ
  j : t.pos.j = (formJoint s.cal false (countGood s.cal.h s.setup.latched.jumpLimit θ s.pos).pos.p 0).j
  coarse : t.pos.evaluated = true
  lastE : t.pos.lastE = (countGood s.cal.h s.setup.latched.jumpLimit θ s.pos).pos.p
  lastSj : t.pos.lastSj = playJoint s.cal.data (countGood s.cal.h s.setup.latched.jumpLimit θ s.pos).pos.s

section
variable {θ : Theta} {s : State} (hnode : settledNode s) (hsrc : s.setup.latched.source = none)
  (hv : s.cal.valid = true) (he : s.work.evaluated = false)
  (hjump : (countGood s.cal.h s.setup.latched.jumpLimit θ s.pos).jump = .none)
include hnode hsrc hv he hjump

/-- The second word without a usable coarse read: the drift monitor does not run (R16, R20). -/
theorem second_unusable
    (h : s.work.coarse = .failed ∨ (∃ g, s.work.coarse = .good g ∧ s.active .coarseEncoder = true)) :
    Formed θ s (motorGood θ s) ∧ (motorGood θ s).pos.usable = false ∧ (motorGood θ s).pos.gq = s.pos.gq ∧
      (motorGood θ s).pos.jg = s.pos.jg ∧ (motorGood θ s).pos.driftRun = s.pos.driftRun ∧
      (motorGood θ s).pos.abs = s.pos.abs ∧ (motorGood θ s).node.state = s.node.state := by
  have hc : s.coarseEnded = true := by
    rcases h with h | ⟨g, h, -⟩ <;> simp [State.coarseEnded, h]
  obtain ⟨v, hgood, hpos, hvnode, hwork, hcal, hactive⟩ := motorGood_second hnode hsrc hv he hc hjump
  obtain ⟨habs, hθ, -⟩ := countGood_always s.cal.h s.setup.latched.jumpLimit θ s.pos
  obtain ⟨hdrift, hgq, hjg⟩ := countGood_untouched s.cal.h s.setup.latched.jumpLimit θ s.pos
  have hvs : settledNode v := by rw [settledNode, hvnode]; exact hnode
  have hunusable : v.coarseUsable = false := coarseUsable_of_not (by rw [hwork, hactive]; exact h)
  obtain ⟨hework, hidle, -⟩ := evaluate_settled_spec hvs
    (formJoint s.cal false (countGood s.cal.h s.setup.latched.jumpLimit θ s.pos).pos.p 0)
    (countGood s.cal.h s.setup.latched.jumpLimit θ s.pos).pos.p
  obtain ⟨hepos, henode⟩ := hidle (by simp [hunusable])
  have heval : (evaluated (countGood s.cal.h s.setup.latched.jumpLimit θ s.pos).pos.p v).pos = { v.pos with
      evaluated := true, usable := false, lastE := (countGood s.cal.h s.setup.latched.jumpLimit θ s.pos).pos.p
      lastSj := playJoint v.cal.data v.pos.s } := by
    show coarseResult v.cal.data v.coarseUsable v.work.coarse _ _ v.pos = _
    rw [hunusable, coarseResult_unusable]
  rw [heval, hpos, hcal] at hepos
  rw [hwork] at hework
  rw [hvnode] at henode
  rw [← hgood] at hepos hework henode
  refine ⟨⟨?_, ?_, ?_, ?_, ?_, ?_, ?_, ?_, ?_⟩, ?_, ?_, ?_, ?_, ?_, ?_⟩
  · rw [hework]
  · rw [hework]
  · rw [hework]
  · rw [hepos]
  · rw [hepos]
    exact hθ
  · rw [hepos]
  · rw [hepos]
  · rw [hepos]
  · rw [hepos]
  · rw [hepos]
  · rw [hepos]
    exact hgq
  · rw [hepos]
    exact hjg
  · rw [hepos]
    exact hdrift
  · rw [hepos]
    exact habs
  · rw [henode]

/-- The second word with a usable coarse read: the evaluation and the drift monitor behind it (R16, R20, R21). -/
theorem second_usable {g : CoarseAngle} (hg : s.work.coarse = .good g) (ha : s.active .coarseEncoder = false) :
    let joint := formJoint s.cal false (countGood s.cal.h s.setup.latched.jumpLimit θ s.pos).pos.p 0
    let jg := coarseJoint s.cal.data (correctedAngle s.cal.data g)
    let sj := playJoint s.cal.data (countGood s.cal.h s.setup.latched.jumpLimit θ s.pos).pos.s
    let drift := driftOf joint.j (jg + sj)
    let t := motorGood θ s
    Formed θ s t ∧ t.pos.usable = true ∧ t.pos.gq = correctedAngle s.cal.data g ∧ t.pos.jg = jg ∧
      (s.node.state = .unreferenced → t.pos.driftRun = s.pos.driftRun ∧ t.node.state = .unreferenced) ∧
      (s.node.state = .referenced → |drift| ≤ s.cal.data.driftLimit →
        t.pos.driftRun = 0 ∧ t.node.state = .referenced ∧ t.pos.abs = s.pos.abs) ∧
      (s.node.state = .referenced → s.cal.data.driftLimit < |drift| → s.pos.driftRun ≠ 2 →
        t.pos.driftRun = s.pos.driftRun + 1 ∧ t.node.state = .referenced ∧ t.pos.abs = s.pos.abs) ∧
      (s.node.state = .referenced → s.cal.data.driftLimit < |drift| → s.pos.driftRun = 2 →
        kindHas t.faults.active .vernierDrift = true ∧ t.pos.driftRun = 0 ∧ t.pos.abs = false ∧
        (s.pos.abs = true → t.node.state = .unreferenced ∧ t.node.reason = .fault ∧ t.node.basis = .none)) := by
  intro joint jg sj drift t
  obtain ⟨x, hx⟩ : ∃ x, x = countGood s.cal.h s.setup.latched.jumpLimit θ s.pos := ⟨_, rfl⟩
  obtain ⟨v, hgood, hpos, hvnode, hwork, hcal, hactive⟩ :=
    motorGood_second hnode hsrc hv he (by simp [State.coarseEnded, hg]) hjump
  obtain ⟨habs, hθ, -⟩ := countGood_always s.cal.h s.setup.latched.jumpLimit θ s.pos
  obtain ⟨hdrift, -, -⟩ := countGood_untouched s.cal.h s.setup.latched.jumpLimit θ s.pos
  have hvs : settledNode v := by rw [settledNode, hvnode]; exact hnode
  have husable : v.coarseUsable = true := coarseUsable_of_good (g := g) (by rw [hwork]; exact hg) (hactive.trans ha)
  have heval : (evaluated x.pos.p v).pos = { x.pos with
      j := joint.j, evaluated := true, gq := correctedAngle s.cal.data g, jg := jg, usable := true, lastE := x.pos.p
      lastSj := sj } := by
    have hvc : v.work.coarse = .good g := by rw [hwork]; exact hg
    show coarseResult v.cal.data v.coarseUsable v.work.coarse x.pos.p (playJoint v.cal.data v.pos.s) v.pos = _
    rw [husable, hvc, coarseResult_usable, hpos, hcal, hx]
  have hruns : (v.coarseUsable = true ∧ (∀ px, v.work.motor ≠ .extrapolated px) ∧ v.node.state = .referenced) ↔
      s.node.state = .referenced := by
    rw [hwork, hvnode]
    simp [husable]
  have hposall := evaluate_settled_pos hvs joint x.pos.p
  obtain ⟨hework, hidle, hwithin, hcount, hraise⟩ := evaluate_settled_spec hvs joint x.pos.p
  have hbase : (evaluated x.pos.p v).pos.jg + playJoint v.cal.data v.pos.s = jg + sj := by
    rw [heval, hpos, hcal]
  have ht : evaluate joint x.pos.p v = t := by rw [hx]; exact hgood.symm
  rw [hruns, hbase, hcal, heval, ht] at hwithin hcount hraise
  rw [hruns, heval, ht] at hidle
  rw [heval, ht] at hposall
  rw [ht, hwork] at hework
  rw [hx] at hposall hidle hwithin hcount hraise
  refine ⟨⟨?_, ?_, ?_, ?_, ?_, ?_, ?_, ?_, ?_⟩, ?_, ?_, ?_, fun hs => ?_, fun hs hd => ?_, fun hs hd hn => ?_,
    fun hs hd hn => ?_⟩
  · rw [hework]
  · rw [hework]
  · rw [hework]
  · rw [hposall]
  · rw [hposall]
    exact hθ
  · rw [hposall]
  · rw [hposall]
  · rw [hposall]
  · rw [hposall]
  · rw [hposall]
  · rw [hposall]
  · rw [hposall]
  · obtain ⟨h1, h2⟩ := hidle (by simp [hs])
    rw [h1, h2, hvnode]
    exact ⟨hdrift, hs⟩
  · obtain ⟨h1, h2⟩ := hwithin hs hd
    rw [h1, h2, hvnode]
    exact ⟨rfl, hs, habs⟩
  · obtain ⟨h1, h2⟩ := hcount hs hd (by rw [hdrift]; exact hn)
    rw [h1, h2, hvnode]
    exact ⟨congrArg (· + 1) hdrift, hs, habs⟩
  · obtain ⟨h1, h2, h3⟩ := hraise hs hd (by rw [hdrift]; exact hn)
    rw [h1]
    refine ⟨h2, rfl, rfl, fun hsa => ?_⟩
    rw [h3 (by rw [habs]; exact hsa)]
    exact ⟨rfl, rfl, rfl⟩

end

end Sys2Proof.Machine
end

section
/-! The end of STARTUP at a motor read, and the words that leave the node in STARTUP (O36). -/

namespace Sys2Proof.Machine

/-! ### STARTUP stays -/

/-- A node in STARTUP is still there. -/
def StaysStartup (s t : State) : Prop := s.node.state = .startup → t.node.state = .startup

namespace StaysStartup

variable {s t u : State}

theorem of_eq (h : t.node = s.node) : StaysStartup s t := fun hs => h ▸ hs

theorem after (b : StaysStartup t u) (a : StaysStartup s t) : StaysStartup s u := b ∘ a

theorem orSelf {c : Prop} [Decidable c] {a : State} (ha : StaysStartup s a) : StaysStartup s (if c then a else s) := by
  split
  · exact ha
  · exact of_eq rfl

theorem ite {c : Prop} [Decidable c] {a b : State} (ha : StaysStartup s a) (hb : StaysStartup s b) :
    StaysStartup s (if c then a else b) := by
  split
  · exact ha
  · exact hb

theorem computeJoint (k : Int) (src : Option SourceFrame) (s : State) : StaysStartup s (computeJoint k src s) := fun hs => by
  rw [(computeJoint_outside k src (by simp [State.inHoming, hs])).2]
  exact hs

theorem trustLoss (s : State) : StaysStartup s (trustLoss s) := fun hs => by simp [Machine.trustLoss, hs]

theorem referenceOnMatch (a : Bool) (s : State) : StaysStartup s (referenceOnMatch a s) := fun hs => by
  unfold Machine.referenceOnMatch
  split
  · rw [if_neg (by simp [hs])]
    exact hs
  · exact trustLoss s hs

/-- No decision, no capture, no sample and no drift epoch falls in STARTUP (R20, R64). -/
theorem evaluate (joint : Joint) (e : Int) (s : State) : StaysStartup s (evaluate joint e s) := fun hs => by
  have hplay : setRestorePlay s = s := setRestorePlay_of_not (.inl (by simp [hs]))
  have hidle (v : State) (hv : v.node.state = .startup) (base sj : Int) (usable : Bool) :
      evaluationCarries joint base sj usable (driftMonitor joint base usable v) = v := by
    have hdrift : driftMonitor joint base usable v = v := if_neg (by simp [State.driftRuns, hv])
    rw [hdrift]
    simp [evaluationCarries, hv]
  unfold Machine.evaluate
  simp only [hplay]
  exact (congrArg (fun v : State => v.node.state) (hidle (evaluated e s) hs _ _ _)).trans hs

theorem coarseEvaluate (s : State) : StaysStartup s (coarseEvaluate s) := by
  refine orSelf ?_
  split
  · exact of_eq rfl
  · unfold evaluateJoint
    split
    · exact evaluate _ _ _
    · exact (evaluate _ _ _).after (of_eq rfl)

theorem tryMatch (s : State) : StaysStartup s (tryMatch s) := by
  refine orSelf ?_
  split
  · exact of_eq rfl
  · have hgone (v : State) : StaysStartup v (conditionGone .couplingLost v) := of_eq (by simp)
    have hset (c : CouplingRecord) (v : State) : StaysStartup v (v.setCoupling c) := of_eq rfl
    refine (coarseEvaluate _).after ((referenceOnMatch _ _).after ((hgone _).after ?_))
    exact (hset _ _).after ((computeJoint _ _ _).after (hset _ _))

theorem afterCount (s : State) : StaysStartup s (afterCount s) :=
  ite ((tryMatch _).after (of_eq rfl)) ((coarseEvaluate _).after (computeJoint _ _ _))

theorem motorFailureNotice (s : State) : StaysStartup s (motorFailureNotice s) := by
  refine orSelf fun hs => ?_
  rw [notice, noticeWith_node_beforeDecision rfl (by simp [State.beforeDecision, hs])]
  exact hs

theorem motorFailed (c : ReadCause) (s : State) : StaysStartup s (motorFailed c s) := by
  have huncounted (v : State) : StaysStartup v (homingUncounted v) := fun hs => by simp [homingUncounted, hs]
  have hafter (m : EpochMotor) (v : State) : StaysStartup v (afterFailed m v) := by
    unfold afterFailed
    split
    · exact (afterCount _).after (huncounted _)
    · exact of_eq rfl
  exact (motorFailureNotice _).after ((hafter _ _).after (of_eq rfl))

end StaysStartup

/-! ### The node after J of a node without trust -/

section
variable {s : State}

theorem handover_node_untrusted (joint : Joint) (src : Option SourceFrame) (ha : s.epoch.alignment = .aligned)
    (h : s.trustedNow src = false) : (handover joint src s).node = { s.node with trusted := false } := by
  obtain ⟨hnode, -⟩ := handedOver_frame joint src s
  rw [handover_of_aligned joint src ha, if_neg (by simp [h]), hnode, h]

/-- The match of an UNREFERENCED node moves its trusted flag alone. -/
theorem tryMatch_unreferenced (hs : s.node.state = .unreferenced) (hp : s.work.coarse = .pending) :
    (tryMatch s).node = { s.node with trusted := (tryMatch s).node.trusted } := by
  unfold tryMatch
  split
  · split
    · rfl
    · next f _ =>
      obtain ⟨w, hw, hwn, hwi⟩ : ∃ w : State, w = s.setCoupling
        { s.coupling with matched := true, lastAbsolute := some f.absolute } ∧ w.node = s.node ∧ w.inHoming = false :=
        ⟨_, rfl, rfl, by simp [State.inHoming, hs]⟩
      obtain ⟨k, hk⟩ : ∃ k, k = if w.cal.valid then couplingTerm w.cal.data f.p else 0 := ⟨_, rfl⟩
      obtain ⟨-, hjnode⟩ := computeJoint_outside k (some f) hwi
      have hjudged : matchJudged f s = (computeJoint k (some f) w).setCoupling
          { (computeJoint k (some f) w).coupling with missCount := 0 } := by
        rw [hk, hw]
        rfl
      have hvnode : (conditionGone .couplingLost (matchJudged f s)).node =
          { s.node with trusted := (computeJoint k (some f) w).node.trusted } := by
        have hgone (v : State) : (conditionGone .couplingLost v).node = v.node := by simp
        rw [hgone, hjudged, ← hwn]
        exact hjnode
      have hstay (a : Bool) (v : State) (hv : v.node.state = .unreferenced) : referenceOnMatch a v = v := by
        cases a with
        | true => rw [referenceOnMatch, if_pos rfl, if_neg (by simp [hv])]
        | false => exact trustLoss_of_unreferenced hv
      rw [makeMatch_of_pending f hp, hstay _ _ (by rw [hvnode]; exact hs), hvnode]
  · rfl

theorem afterCount_unreferenced (hs : s.node.state = .unreferenced) (hp : s.work.coarse = .pending) :
    (afterCount s).node = { s.node with trusted := (afterCount s).node.trusted } := by
  cases hc : s.coupled with
  | true =>
    rw [afterCount_coupled hc]
    exact tryMatch_unreferenced (s := s.setCoupling { s.coupling with own := s.epoch.epochSynced }) hs hp
  | false =>
    rw [afterCount_uncoupled hc, coarseEvaluate_of_pending (by simpa using hp)]
    exact (computeJoint_outside 0 none (by simp [State.inHoming, hs])).2

end

/-! ### The end of STARTUP (R61, R62) -/

section
variable {v : State} (hs : v.node.state = .startup) (hp : v.work.coarse = .pending)
include hs

theorem startup_unready (hr : ¬(v.link.joined = true ∧ v.epoch.alignment = .aligned)) :
    (afterCount (exitStartup v)).node.state = .startup := by
  have hstay : exitStartup v = v := if_neg fun h => hr h.2
  rw [hstay]
  exact StaysStartup.afterCount v hs

variable (hr : v.link.joined = true ∧ v.epoch.alignment = .aligned)
include hp hr

theorem startup_noCal (hc : v.cal.valid = false) :
    let t := afterCount (exitStartup v)
    t.node.state = .unreferenced ∧ t.node.reason = .noCal ∧ t.node.basis = v.node.basis ∧
      t.node.report = { v.node.report with
        decision := .noCal, cause := t.ret.record.cause, validity := t.ret.record.validity
        reason := t.ret.record.reason, tRet := t.ret.record.tRet, qRet := t.ret.record.qRet } := by
  intro t
  have hexit : exitStartup v = exitNoCal v := by
    rw [exitStartup, if_pos ⟨hs, hr⟩, if_pos (by simp [hc])]
  have hnode : (exitNoCal v).node = { v.node with
      state := .unreferenced, reason := .noCal,
      report := { v.node.report with
        decision := .noCal, cause := v.ret.record.cause, validity := v.ret.record.validity, reason := v.ret.record.reason,
        tRet := v.ret.record.tRet, qRet := v.ret.record.qRet } } := moveNode_node _ _
  have htnode := afterCount_unreferenced (s := exitNoCal v) (by rw [hnode]) (by simpa [exitNoCal] using hp)
  have hrecord : t.ret.record = v.ret.record := by simp [t]
  rw [← hexit] at htnode hnode
  rw [hnode] at htnode
  rw [hrecord]
  show (afterCount (exitStartup v)).node.state = _ ∧ _
  rw [show t = afterCount (exitStartup v) from rfl, htnode]
  exact ⟨rfl, rfl, rfl, rfl⟩

variable (hc : v.cal.valid = true)
include hc

theorem startup_decides (hu : v.coupled = false) : (afterCount (exitStartup v)).node =
    { v.node with state := .restoring .decide, phase := .initial, trusted := false } := by
  obtain ⟨w, hw⟩ : ∃ w, w = moveNode { v.node with state := .restoring .decide, phase := .initial } v := ⟨_, rfl⟩
  have hexit : exitStartup v = w := by
    rw [exitStartup, if_pos ⟨hs, hr⟩, if_neg (by simp [hc]), if_neg (by simp [hu]), hw]
  have hwn : w.node = { v.node with state := .restoring .decide, phase := .initial } := by rw [hw, moveNode_node]
  have hwc : w.coupled = false := by rw [hw]; simpa [State.coupled] using hu
  have hwa : w.epoch.alignment = .aligned := by rw [hw]; simpa using hr.2
  have hwp : (computeJoint 0 none w).work.coarse = .pending := by rw [hw]; simpa using hp
  rw [hexit, afterCount_uncoupled hwc, coarseEvaluate_of_pending hwp]
  obtain ⟨joint, x, hx, hxn, hxa⟩ : ∃ joint x, computeJoint 0 none w = handover joint none x ∧ x.node = w.node ∧
      x.epoch = w.epoch := ⟨_, _, rfl, rfl, rfl⟩
  have huntrusted : x.trustedNow none = false := by
    rw [← Bool.not_eq_true, trustedNow_iff]
    rintro ⟨-, hout, -⟩
    simp [State.inHoming, hxn, hwn] at hout
  rw [hx, handover_node_untrusted joint none (by rw [hxa]; exact hwa) huntrusted, hxn, hwn]

omit hp in
theorem startup_waits (hu : v.coupled = true) (hn : v.coupling.source = none) : (afterCount (exitStartup v)).node =
    { v.node with state := .restoring .waitSource, phase := .initial } := by
  obtain ⟨w, hw⟩ : ∃ w, w = moveNode { v.node with state := .restoring .waitSource, phase := .initial } v := ⟨_, rfl⟩
  have hexit : exitStartup v = w := by
    rw [exitStartup, if_pos ⟨hs, hr⟩, if_neg (by simp [hc]), if_pos hu, hw]
  have hwn : w.node = { v.node with state := .restoring .waitSource, phase := .initial } := by rw [hw, moveNode_node]
  have hwc : w.coupled = true := by rw [hw]; simpa [State.coupled] using hu
  have hws : w.coupling.source = none := by rw [hw]; simpa using hn
  have hnone (x : State) (hx : x.coupling.source = none) : tryMatch x = x := by
    unfold tryMatch
    rw [hx]
    exact ite_self _
  rw [hexit, afterCount_coupled hwc, hnone (w.setCoupling { w.coupling with own := w.epoch.epochSynced }) hws]
  exact hwn

end

theorem openCoupling_shows (v : State) :
    (openCoupling v).node = v.node ∧ (openCoupling v).coupling.source = v.coupling.source ∧
      (openCoupling v).link = v.link ∧ (openCoupling v).epoch = v.epoch ∧ (openCoupling v).setup = v.setup := by
  unfold openCoupling
  split <;> exact ⟨rfl, rfl, rfl, rfl, rfl⟩

/-- The good motor word that ends STARTUP, or not (R61 to R63). -/
theorem motorGood_startup {θ : Theta} {s : State} (hs : s.node.state = .startup) (hp : s.work.coarse = .pending)
    (hj : (countGood s.cal.h s.setup.latched.jumpLimit θ s.pos).jump = .none) :
    let ready := s.link.joined = true ∧ s.epoch.alignment = .aligned
    let t := motorGood θ s
    (¬ready → t.node.state = .startup) ∧
    (ready → s.cal.valid = false → t.node.state = .unreferenced ∧ t.node.reason = .noCal ∧ t.node.basis = s.node.basis ∧
      t.node.report = { s.node.report with
        decision := .noCal, cause := t.ret.record.cause, validity := t.ret.record.validity
        reason := t.ret.record.reason, tRet := t.ret.record.tRet, qRet := t.ret.record.qRet }) ∧
    (ready → s.cal.valid = true → s.setup.latched.source = none →
      t.node = { s.node with state := .restoring .decide, phase := .initial, trusted := false }) ∧
    (ready → s.cal.valid = true → s.setup.latched.source.isSome = true → s.coupling.source = none →
      t.node = { s.node with state := .restoring .waitSource, phase := .initial }) := by
  intro ready t
  obtain ⟨v, hv⟩ : ∃ v, v = openCoupling (goodRead θ s) := ⟨_, rfl⟩
  have ht : t = afterCount (exitStartup v) := by rw [hv]; exact motorGood_eq θ s
  obtain ⟨-, hnode, hcoupling, hepoch, hlink, -⟩ := goodRead_outside θ (by simp [State.inHoming, hs]) hj
  obtain ⟨hwork, hcal, hsetup, -⟩ := goodRead_frame θ s
  obtain ⟨h1, h2, h3, h4, h5⟩ := openCoupling_shows (goodRead θ s)
  rw [← hv] at h1 h2 h3 h4 h5
  rw [hnode] at h1
  rw [hcoupling] at h2
  rw [hlink] at h3
  rw [hepoch] at h4
  rw [hsetup] at h5
  have hvwork : v.work.coarse = .pending := by
    have hsame : v.work = (goodRead θ s).work := by rw [hv]; simp
    rw [hsame, hwork]
    exact hp
  have hvcal : v.cal = s.cal := by
    have hsame : v.cal = (goodRead θ s).cal := by rw [hv]; simp
    rw [hsame, hcal]
  have hvs : v.node.state = .startup := by rw [h1]; exact hs
  have hready : (v.link.joined = true ∧ v.epoch.alignment = .aligned) = ready := by rw [h3, h4]
  have hcoupled : v.coupled = s.setup.latched.source.isSome := by rw [State.coupled, h5]
  rw [ht, ← hready, ← hvcal, ← h1, ← h2]
  refine ⟨startup_unready hvs, startup_noCal hvs hvwork, fun hr hc hu => ?_, fun hr hc hu hn => ?_⟩
  · exact startup_decides hvs hvwork hr hc (by rw [hcoupled, hu]; rfl)
  · exact startup_waits hvs hr hc (hcoupled.trans hu) hn

/-- Settles O36. -/
theorem motorWordComesSecond : Obligations.MotorWordComesSecond := by
  refine ⟨fun θ c1 c0 s hr hok hsrc hv he hnode => ?_, fun θ c1 c0 s hs hr hok hp hj => ?_,
    fun θ error c1 c0 s hs hr hbad => ?_⟩
  · intro x joint sj hj formed
    have hexec : exec (.encoderReadComplete (.motor θ false c1 c0)) s =
        .next (conclude s (motorGood θ (portResponded .motor s))) :=
      congrArg (fun t => Host.Outcome.next (conclude s t)) (readComplete_motor_good hr hok)
    have ht := conclude_settles s (motorGood θ (portResponded .motor s))
    obtain ⟨-, -, -, -, hpos, hwork, -, -, -, hn, -, -, -, -, -, hfaults, -⟩ := ht.frame
    have hformed (h : Formed θ (portResponded .motor s) (motorGood θ (portResponded .motor s))) :
        formed (conclude s (motorGood θ (portResponded .motor s))) := by
      obtain ⟨h1, h2, h3, h4, h5, h6, h7, h8, h9⟩ := h
      show _ ∧ _
      rw [hpos, hwork]
      exact ⟨h1, h2, h3, h4, h5, h6, h7, h8, h9⟩
    refine ⟨fun hc => ⟨_, hexec, ?_⟩, fun g hg ha => ⟨_, hexec, ?_⟩⟩
    · obtain ⟨hf, hrest⟩ := second_unusable (s := portResponded .motor s) hnode hsrc hv he hj hc
      rw [hpos, hn]
      exact ⟨hformed hf, hrest⟩
    · obtain ⟨hf, hrest⟩ := second_usable (s := portResponded .motor s) hnode hsrc hv he hj hg ha
      rw [hpos, hn, hfaults]
      exact ⟨hformed hf, hrest⟩
  · have ht := conclude_settles s (motorGood θ (portResponded .motor s))
    obtain ⟨-, -, -, -, -, -, -, -, hrec, hn, -⟩ := ht.frame
    refine ⟨_, congrArg (fun t => Host.Outcome.next (conclude s t)) (readComplete_motor_good hr hok), ?_⟩
    rw [hn, hrec]
    exact motorGood_startup (s := portResponded .motor s) hs hp hj
  · obtain ⟨cause, hcause⟩ := wordEnding_bad hbad
    have ht := conclude_settles s (motorFailed cause (portResponded .motor s))
    obtain ⟨-, -, -, -, -, -, -, -, -, hn, -⟩ := ht.frame
    refine ⟨_, congrArg (fun t => Host.Outcome.next (conclude s t)) (readComplete_motor_failed hr hcause), ?_⟩
    rw [hn]
    exact StaysStartup.motorFailed cause (portResponded .motor s) hs

end Sys2Proof.Machine
end

section
/-! The evaluation of a node at its restore decision, INITIAL or CONFIRMATION (R64 to R69, R73). -/

namespace Sys2Proof.Machine

section
variable {s : State}

/-- The coarse evaluation of an epoch whose J is formed, with its E or with a free one (R16). -/
theorem coarseEvaluate_exists {joint : Joint} (hv : s.cal.valid = true) (hc : s.coarseEnded = true)
    (he : s.work.evaluated = false) (hj : s.work.joint = some joint) :
    ∃ e f, coarseEvaluate s = evaluate joint e (s.setFree f) := by
  cases hje : joint.e with
  | some e => exact ⟨e, s.free, coarseEvaluate_of hv hc he hj hje⟩
  | none =>
    refine ⟨Config.unformedCount s.free, s.free + 1, ?_⟩
    have hrun : coarseEvaluate s = match s.work.joint with
        | none => s
        | some joint => evaluateJoint joint s := if_pos (by simp [hv, hc, he])
    rw [hrun, hj]
    simp only [evaluateJoint, hje]

/-! ### The evaluation at a decision -/

theorem driftMonitor_of_deciding (h : s.node.state = .restoring .decide) (joint : Joint) (base : Int) (usable : Bool) :
    driftMonitor joint base usable s = s := if_neg (by simp [State.driftRuns, h])

/-- The node whose play a decision sets (R66). -/
def played (s : State) : State := s.setPos (restoredPlay s.cal.h s.ret.record (quadrantOf s.pos.thetaLast) s.pos)

theorem evaluate_initial (h : s.node.state = .restoring .decide) (hp : s.node.phase = .initial) (joint : Joint) (e : Int) :
    evaluate joint e s = decideInitial joint ((evaluated e (played s)).pos.jg + playJoint s.cal.data (played s).pos.s)
      s.coarseUsable (evaluated e (played s)) := by
  have hplay : setRestorePlay s = played s := if_pos ⟨h, hp⟩
  have hcarries (v : State) (hv : v.node = s.node) (base sj : Int) (usable : Bool) :
      evaluationCarries joint base sj usable (driftMonitor joint base usable v) = decideInitial joint base usable v := by
    rw [driftMonitor_of_deciding (by rw [hv]; exact h)]
    simp [evaluationCarries, restoreDecide, hv, h, hp]
  unfold evaluate
  simp only [hplay]
  exact hcarries (evaluated e (played s)) rfl _ _ _

theorem evaluate_confirmation (h : s.node.state = .restoring .decide) (hp : s.node.phase = .confirmation) (joint : Joint)
    (e : Int) :
    evaluate joint e s = decideConfirmation joint ((evaluated e s).pos.jg + playJoint s.cal.data s.pos.s)
      s.coarseUsable (evaluated e s) := by
  have hplay : setRestorePlay s = s := setRestorePlay_of_not (.inr (by simp [hp]))
  have hcarries (v : State) (hv : v.node = s.node) (base sj : Int) (usable : Bool) :
      evaluationCarries joint base sj usable (driftMonitor joint base usable v) = decideConfirmation joint base usable v := by
    rw [driftMonitor_of_deciding (by rw [hv]; exact h)]
    simp [evaluationCarries, restoreDecide, hv, h, hp]
  unfold evaluate
  simp only [hplay]
  exact hcarries (evaluated e s) rfl _ _ _

/-! ### The decisions -/

theorem raiseConflict_outside (d : RestoreDecision) (h : s.inHoming = false) :
    (raiseConflict d s).node = s.node ∧ (raiseConflict d s).pos = s.pos ∧ (raiseConflict d s).ret = s.ret ∧
      (d = .conflict → kindHas (raiseConflict d s).faults.active .restoreConflict = true) := by
  unfold raiseConflict
  split
  · obtain ⟨h1, h2⟩ := notice_outside (k := .restoreConflict) rfl h
    exact ⟨h1, h2, by simp, fun _ => noticeWith_active _ _ _⟩
  · next hd => exact ⟨rfl, rfl, rfl, fun h => absurd h hd⟩

/-- The retained side of a conflict, the adjusted turn (R69). -/
def adjustedTurn : RetainedOutcome → Int
  | .adjusted t => t
  | .unusable _ => 0

/-- What an INITIAL decision leaves (R68, R69). -/
theorem decideInitial_spec (joint : Joint) (base : Int) (usable : Bool) (h : s.inHoming = false) :
    let θ := s.pos.thetaLast
    let o := retainedOutcome s.ret.record s.node.continuity (quadrantOf θ)
    let guide := initialGuide s.cal.data o θ joint.k
    let v := vernier s.cal usable s.pos.playKnown base joint.k θ guide
    let d := initialDecision s.setup.latched.retainedAlone s.setup.latched.vernierAlone o v
    let t := decideInitial joint base usable s
    t.pos = setTurn d.2 s.pos ∧ t.ret = { s.ret with mirror := { s.ret.mirror with held := false } } ∧
      t.node = decidedNode d.1
        (initialReport s.node.report s.ret.record (quadrantOf θ) o v guide.isSome d.1 s.epoch.count)
        (conflictOf .initial (adjustedTurn o) v (setTurn d.2 s.pos) s.epoch.count) s.node ∧
      (d.1 = .conflict → kindHas t.faults.active .restoreConflict = true) := by
  intro θ o guide v d t
  obtain ⟨w, hw⟩ : ∃ w, w = (s.setPos (setTurn d.2 s.pos)).setRet
    { s.ret with mirror := { s.ret.mirror with held := false } } := ⟨_, rfl⟩
  have hwi : w.inHoming = false := by rw [hw]; exact h
  obtain ⟨hnode, hpos, hret, hconflict⟩ := raiseConflict_outside d.1 hwi
  have ht : t = moveNode (decidedNode d.1
      (initialReport s.node.report s.ret.record (quadrantOf θ) o v guide.isSome d.1 s.epoch.count)
      (conflictOf .initial (adjustedTurn o) v (setTurn d.2 s.pos) s.epoch.count) (raiseConflict d.1 w).node) (raiseConflict d.1 w) := by
    rw [hw]
    rfl
  have hmove (n : NodeRecord) (x : State) : (moveNode n x).pos = x.pos ∧ (moveNode n x).ret = x.ret ∧
      (moveNode n x).node = n ∧ (moveNode n x).faults = x.faults := by simp
  obtain ⟨h1, h2, h3, h4⟩ := hmove (decidedNode d.1
      (initialReport s.node.report s.ret.record (quadrantOf θ) o v guide.isSome d.1 s.epoch.count)
      (conflictOf .initial (adjustedTurn o) v (setTurn d.2 s.pos) s.epoch.count) (raiseConflict d.1 w).node) (raiseConflict d.1 w)
  rw [ht, h1, h2, h3, h4, hpos, hret, hnode, hw]
  exact ⟨rfl, rfl, rfl, fun hd => hw ▸ hconflict hd⟩

/-- What a confirmation leaves (R73). -/
theorem decideConfirmation_spec (joint : Joint) (base : Int) (usable : Bool) (h : s.inHoming = false) :
    let θ := s.pos.thetaLast
    let live := turnOf s.pos.p
    let v := vernier s.cal usable s.pos.playKnown base joint.k θ (some joint.j)
    let d := confirmDecision live v
    let u := { s.pos with abs := s.pos.abs && d != .conflict, driftRun := 0 }
    let t := decideConfirmation joint base usable s
    t.pos = u ∧
      t.node = confirmedNode d (confirmReport s.node.report live (quadrantOf θ) v d
        (if d = .conflict then .none else s.node.basis) s.epoch.count)
        (conflictOf .confirmation live v u s.epoch.count) s.node ∧
      (d = .conflict → kindHas t.faults.active .restoreConflict = true) := by
  intro θ live v d u t
  obtain ⟨w, hw⟩ : ∃ w, w = s.setPos u := ⟨_, rfl⟩
  have hwi : w.inHoming = false := by rw [hw]; exact h
  obtain ⟨hnode, hpos, -, hconflict⟩ := raiseConflict_outside d hwi
  obtain ⟨n, hn⟩ : ∃ n, n = confirmedNode d (confirmReport s.node.report live (quadrantOf θ) v d
      (if d = .conflict then .none else s.node.basis) s.epoch.count)
      (conflictOf .confirmation live v u s.epoch.count) (raiseConflict d w).node := ⟨_, rfl⟩
  have ht : t = moveNode n (raiseConflict d w) := by
    rw [hn, hw]
    rfl
  have hmove (n : NodeRecord) (x : State) : (moveNode n x).pos = x.pos ∧ (moveNode n x).node = n ∧
      (moveNode n x).faults = x.faults := by simp
  obtain ⟨h1, h2, h3⟩ := hmove n (raiseConflict d w)
  rw [ht, h1, h2, h3, hpos, hn, hnode, hw]
  exact ⟨rfl, rfl, fun hd => hw ▸ hconflict hd⟩

/-- The mirror once its hold has ended: the count itself (R43, R44). -/
theorem mirror_of_settles {c : Instr} {u t : State} (he : exec c s = .next t) (ht : Settles s u t)
    (m : MirrorFollowsCount s) (hup : t.mainUp = true) (hheld : u.ret.mirror.held = false) :
    t.ret.mirror = mirrorView false t.pos := by
  obtain ⟨x, hx, hc⟩ := exec_comes c s
  have hsame : conclude s x = t := by
    rw [hx] at he
    cases he
    rfl
  have hfollows := hc.mirrorFollows m
  rw [hsame] at hfollows
  exact hfollows hup (by rw [ht.mirror]; exact mirrorAfter_held hheld)

/-! ### The coarse words outside HOMING -/

/-- The state of a good coarse read whose evaluation is still to run. -/
def coarseRead (g : CoarseAngle) (s : State) : State :=
  ((portResponded .coarse s).setEnc { s.enc with coarse := goodRuns s.enc.coarse }).setWork { s.work with coarse := .good g }

theorem coarseGood_of_inactive (g : CoarseAngle) (ha : s.active .coarseEncoder = false) :
    coarseGood g (portResponded .coarse s) = coarseEvaluate (coarseRead g s) := by
  have hgone : coarseGoodGone ((portResponded .coarse s).setEnc { s.enc with coarse := goodRuns s.enc.coarse }) =
      (portResponded .coarse s).setEnc { s.enc with coarse := goodRuns s.enc.coarse } := by
    unfold coarseGoodGone
    split
    · exact conditionGone_inactive ha
    · rfl
  exact congrArg (fun v : State => coarseEvaluate (v.setWork { v.work with coarse := .good g })) hgone

/-- A failed coarse read outside HOMING: its notice leaves the node and the count (R38). -/
theorem coarseFailed_outside (cause : ReadCause) (h : s.inHoming = false) :
    ∃ v, coarseFailed cause s = coarseEvaluate v ∧ v.node = s.node ∧ v.pos = s.pos ∧ v.cal = s.cal ∧ v.ret = s.ret ∧
      v.setup = s.setup ∧ v.epoch = s.epoch ∧ v.work = { s.work with coarse := .failed } := by
  obtain ⟨x, hx⟩ : ∃ x, x = s.setEnc { s.enc with coarse := failedRuns cause s.enc.coarse } := ⟨_, rfl⟩
  obtain ⟨w, hw⟩ : ∃ w, w = coarseFailureNotice x := ⟨_, rfl⟩
  have hsame : w.node = x.node ∧ w.pos = x.pos ∧ w.cal = x.cal ∧ w.ret = x.ret ∧ w.setup = x.setup ∧ w.epoch = x.epoch ∧
      w.work = x.work := by
    rw [hw]
    unfold coarseFailureNotice
    split
    · obtain ⟨h1, h2⟩ := notice_outside (k := .coarseEncoder) (s := x) rfl (by rw [hx]; exact h)
      exact ⟨h1, h2, by simp, by simp, by simp, by simp, by simp⟩
    · exact ⟨rfl, rfl, rfl, rfl, rfl, rfl, rfl⟩
  obtain ⟨h1, h2, h3, h4, h5, h6, h7⟩ := hsame
  refine ⟨w.setWork { w.work with coarse := .failed }, by rw [hw, hx]; rfl, h1.trans (by rw [hx]; rfl),
    h2.trans (by rw [hx]; rfl), h3.trans (by rw [hx]; rfl), h4.trans (by rw [hx]; rfl), h5.trans (by rw [hx]; rfl),
    h6.trans (by rw [hx]; rfl), ?_⟩
  have hwork : w.work = s.work := h7.trans (by rw [hx]; rfl)
  show ({ w.work with coarse := .failed } : EpochWork) = _
  rw [hwork]

end

end Sys2Proof.Machine
end

section
/-! The coarse word that decides an INITIAL restore (O38). -/

namespace Sys2Proof.Machine

/-! ### The play and the count of a decision (R65 to R68) -/

theorem clampInt_of_nonneg {h : Int} (hh : 0 ≤ h) (x : Int) : clampInt (-h) h x = max (-h) (min h x) := by
  unfold clampInt
  split
  · omega
  · split <;> omega

theorem workingCal_h_nonneg (c : WorkingCal) : 0 ≤ c.h := by
  unfold WorkingCal.h
  split <;> omega

theorem restoredPlay_spec {h : Int} (hh : 0 ≤ h) (r : RetainedRecord) (q : Quadrant) (u : PositionUnit) :
    restoredPlay h r q u = { u with
      s := if r.playKnown = true ∧ q = r.qRet then max (-h) (min h r.s) else 0
      playKnown := if r.playKnown = true ∧ q = r.qRet then true else (h == 0)
      acc := 0 } := by
  unfold restoredPlay
  by_cases hk : r.playKnown = true ∧ q = r.qRet
  · rw [if_pos (by simpa using hk), if_pos hk, if_pos hk, clampInt_of_nonneg hh]
  · rw [if_neg (by simpa using hk), if_neg hk, if_neg hk]
    rfl

theorem setTurn_p (n : Option Int) {u : PositionUnit} {θ : Theta} {p : Int} (hθ : u.thetaLast = θ) (hp : u.p = p) :
    (setTurn n u).p = match n with
      | some n => n * 16384 + (θ.toNat : Int)
      | none => p := by
  subst hθ hp
  cases n <;> rfl

theorem setTurn_spec (n : Option Int) (u : PositionUnit) :
    (u.abs = false → (setTurn n u).abs = n.isSome) ∧
    setTurn n u = { u with p := (setTurn n u).p, abs := (setTurn n u).abs, driftRun := 0 } := by
  cases n with
  | some n => exact ⟨fun _ => rfl, rfl⟩
  | none => exact ⟨id, rfl⟩

/-- A conflict has a usable retained turn and sets none (R68, R69). -/
theorem initialDecision_conflict {ra va : Bool} {o : RetainedOutcome} {v : VernierResult}
    (h : (initialDecision ra va o v).1 = .conflict) : ∃ n, o = .adjusted n ∧ (initialDecision ra va o v).2 = none := by
  cases o with
  | adjusted n =>
    refine ⟨n, rfl, ?_⟩
    unfold initialDecision at h ⊢
    simp only at h ⊢
    split at h
    · split at h
      · cases h
      · rw [if_pos ‹_›, if_neg ‹_›]
    · split at h <;> cases h
  | unusable w =>
    unfold initialDecision at h
    simp only at h
    split at h <;> cases h

/-- The node by its decision (R68). -/
theorem decidedNode_of (d : RestoreDecision) (report : RestoreReport) (x : ConflictRecord) (n : NodeRecord) :
    (d = .confirmed → (decidedNode d report x n).state = .referenced ∧ (decidedNode d report x n).basis = .retained ∧
      (decidedNode d report x n).confirmed = true) ∧
    (d = .retainedAlone → (decidedNode d report x n).state = .referenced ∧ (decidedNode d report x n).basis = .retained ∧
      (decidedNode d report x n).confirmed = false) ∧
    (d = .vernierAlone → (decidedNode d report x n).state = .referenced ∧ (decidedNode d report x n).basis = .vernier ∧
      (decidedNode d report x n).confirmed = false) ∧
    (d = .insufficient → (decidedNode d report x n).state = .unreferenced ∧
      (decidedNode d report x n).reason = .insufficient ∧ (decidedNode d report x n).basis = .none) ∧
    (d = .conflict → (decidedNode d report x n).state = .unreferenced ∧ (decidedNode d report x n).reason = .conflict ∧
      (decidedNode d report x n).basis = .none ∧ (decidedNode d report x n).conflict = some x) := by
  refine ⟨?_, ?_, ?_, ?_, ?_⟩
  · rintro rfl
    exact ⟨rfl, rfl, rfl⟩
  · rintro rfl
    exact ⟨rfl, rfl, rfl⟩
  · rintro rfl
    exact ⟨rfl, rfl, rfl⟩
  · rintro rfl
    exact ⟨rfl, rfl, rfl⟩
  · rintro rfl
    exact ⟨rfl, rfl, rfl, rfl⟩

theorem decidedNode_up {t : State} {d : RestoreDecision} {report : RestoreReport} {x : ConflictRecord} {n : NodeRecord}
    (h : t.node = decidedNode d report x n) : t.mainUp = true := by
  have hs : t.node.state = if decisionRefers d then .referenced else .unreferenced := by rw [h]; rfl
  rw [State.mainUp, hs]
  by_cases hd : decisionRefers d = true
  · rw [if_pos hd]
  · rw [if_neg hd]

/-! ### The event of an INITIAL decision -/

/-- The parts of the node that a restore decision reads. -/
structure SameDecider (s w : State) : Prop where
  node : w.node = s.node
  pos : w.pos = s.pos
  cal : w.cal = s.cal
  ret : w.ret = s.ret
  setup : w.setup = s.setup
  epoch : w.epoch = s.epoch

/-- An INITIAL decision as an event leaves it (R43, R66 to R69). -/
theorem initial_settles {c : Instr} {s w t : State} {joint : Joint} {e : Int} {b : Bool} (hw : SameDecider s w)
    (hs : s.node.state = .restoring .decide) (hp : s.node.phase = .initial) (hb : w.coarseUsable = b)
    (he : exec c s = .next t) (ht : Settles s (evaluate joint e w) t) (m : MirrorFollowsCount s) :
    let θ := s.pos.thetaLast
    let q := quadrantOf θ
    let u := coarseResult s.cal.data b w.work.coarse e
      (playJoint s.cal.data (restoredPlay s.cal.h s.ret.record q s.pos).s) (restoredPlay s.cal.h s.ret.record q s.pos)
    let o := retainedOutcome s.ret.record s.node.continuity q
    let guide := initialGuide s.cal.data o θ joint.k
    let v := vernier s.cal b (restoredPlay s.cal.h s.ret.record q s.pos).playKnown
      (u.jg + playJoint s.cal.data (restoredPlay s.cal.h s.ret.record q s.pos).s) joint.k θ guide
    let d := initialDecision s.setup.latched.retainedAlone s.setup.latched.vernierAlone o v
    t.pos = setTurn d.2 u ∧ t.ret.record = s.ret.record ∧ t.ret.mirror = mirrorView false t.pos ∧
      t.node = decidedNode d.1 (initialReport s.node.report s.ret.record q o v guide.isSome d.1 s.epoch.count)
        (conflictOf .initial (adjustedTurn o) v (setTurn d.2 u) s.epoch.count) s.node ∧
      (d.1 = .conflict → kindHas t.faults.active .restoreConflict = true) := by
  intro θ q u o guide v d
  obtain ⟨z, hz⟩ : ∃ z, z = evaluated e (played w) := ⟨_, rfl⟩
  have hplayed : (played w).pos = restoredPlay s.cal.h s.ret.record q s.pos := by
    show restoredPlay w.cal.h w.ret.record (quadrantOf w.pos.thetaLast) w.pos = _
    rw [hw.cal, hw.ret, hw.pos]
  have hzpos : z.pos = u := by
    rw [hz]
    show coarseResult w.cal.data w.coarseUsable w.work.coarse e (playJoint w.cal.data (played w).pos.s) (played w).pos = u
    rw [hplayed, hw.cal, hb]
  have hznode : z.node = s.node := by rw [hz]; exact hw.node
  have hzcal : z.cal = s.cal := by rw [hz]; exact hw.cal
  have hzret : z.ret = s.ret := by rw [hz]; exact hw.ret
  have hzsetup : z.setup = s.setup := by rw [hz]; exact hw.setup
  have hzepoch : z.epoch = s.epoch := by rw [hz]; exact hw.epoch
  have hplay := restoredPlay_spec (workingCal_h_nonneg s.cal) s.ret.record q s.pos
  have hu : u = { restoredPlay s.cal.h s.ret.record q s.pos with
      evaluated := true, usable := u.usable, gq := u.gq, jg := u.jg, lastE := e
      lastSj := playJoint s.cal.data (restoredPlay s.cal.h s.ret.record q s.pos).s } :=
    coarseResult_common _ _ _ _ _ _
  have hθ : u.thetaLast = θ := by rw [hu, hplay]
  have hknown : u.playKnown = (restoredPlay s.cal.h s.ret.record q s.pos).playKnown := by rw [hu]
  have heval := evaluate_initial (s := w) (by rw [hw.node]; exact hs) (by rw [hw.node]; exact hp) joint e
  rw [← hz, hb, hplayed, hw.cal, hzpos] at heval
  have hspec := decideInitial_spec joint (u.jg + playJoint s.cal.data (restoredPlay s.cal.h s.ret.record q s.pos).s) b
    (s := z) (by simp [State.inHoming, hznode, hs])
  rw [← heval, hzpos, hznode, hzcal, hzret, hzsetup, hzepoch, hθ, hknown] at hspec
  obtain ⟨h1, h2, h3, h4⟩ := hspec
  obtain ⟨-, -, -, -, hpos, -, -, -, hrec, hnode, -, -, -, -, -, hfaults, -⟩ := ht.frame
  have htnode := hnode.trans h3
  refine ⟨hpos.trans h1, ?_, mirror_of_settles he ht m (decidedNode_up htnode) (by rw [h2]), htnode, ?_⟩
  · rw [hrec, h2]
  · rw [hfaults]
    exact h4

/-- Settles O38. -/
theorem coarseWordDecidesTheRestore : Obligations.CoarseWordDecidesTheRestore := by
  intro g c1 c0 joint e s hr hok hs hp hv habs hj hje he ha m c r θ q kept play known o base guide v d
  obtain ⟨w, hw⟩ : ∃ w, w = coarseRead g s := ⟨_, rfl⟩
  have hsame : SameDecider s w := by
    rw [hw]
    exact ⟨rfl, rfl, rfl, rfl, rfl, rfl⟩
  have hwc : w.work.coarse = .good g := by rw [hw]; rfl
  have husable : w.coarseUsable = true := coarseUsable_of_good (g := g) hwc (by rw [hw]; exact ha)
  have hread : readComplete (.coarse g false c1 c0) s = evaluate joint e w := by
    rw [readComplete_coarse_good hr hok, coarseGood_of_inactive g ha, ← hw]
    exact coarseEvaluate_of (by rw [hw]; exact hv) (by simp [State.coarseEnded, hwc]) (by rw [hw]; exact he)
      (by rw [hw]; exact hj) hje
  have hexec : exec (.encoderReadComplete (.coarse g false c1 c0)) s = .next (conclude s (evaluate joint e w)) :=
    congrArg (fun t => Host.Outcome.next (conclude s t)) hread
  have hset := initial_settles hsame hs hp husable hexec (conclude_settles s _) m
  have hplay := restoredPlay_spec (workingCal_h_nonneg s.cal) r q s.pos
  have hps : (restoredPlay s.cal.h r q s.pos).s = play := by rw [hplay]
  have hpk : (restoredPlay s.cal.h r q s.pos).playKnown = known := by rw [hplay]
  simp only at hset
  rw [hwc, coarseResult_usable, hps, hpk] at hset
  obtain ⟨hpos, hrec, hmirror, hnode, hconflict⟩ := hset
  obtain ⟨p', hp'⟩ : ∃ p', p' = { restoredPlay s.cal.h r q s.pos with
    s := play, playKnown := known, evaluated := true, gq := correctedAngle c g, jg := coarseJoint c (correctedAngle c g)
    usable := true, lastE := e, lastSj := playJoint c play } := ⟨_, rfl⟩
  have hpos' : (conclude s (evaluate joint e w)).pos = setTurn d.2 p' := by
    rw [hp']
    exact hpos
  have hnode' : (conclude s (evaluate joint e w)).node = decidedNode d.1
      (initialReport s.node.report r q o v guide.isSome d.1 s.epoch.count)
      (conflictOf .initial (adjustedTurn o) v (setTurn d.2 p') s.epoch.count) s.node := by
    rw [hp']
    exact hnode
  rw [hplay] at hp'
  have hcount := setTurn_p d.2 (u := p') (θ := θ) (p := s.pos.p) (by rw [hp']) (by rw [hp'])
  obtain ⟨hturned, hrest⟩ := setTurn_spec d.2 p'
  obtain ⟨hconf, hret, hver, hins, hcon⟩ := decidedNode_of d.1
    (initialReport s.node.report r q o v guide.isSome d.1 s.epoch.count)
    (conflictOf .initial (adjustedTurn o) v (setTurn d.2 p') s.epoch.count) s.node
  refine ⟨_, hexec, ?_⟩
  rw [hnode', hmirror, hrec, hpos']
  refine ⟨?_, ?_, ?_, ?_, hcount, hturned (by rw [hp']; exact habs), ?_, ?_, rfl, rfl, rfl, rfl, rfl, rfl,
    hconf, hret, hver, hins, fun hd => ?_⟩
  · rw [hrest, hp']
  · rw [hrest, hp']
  · rw [hrest, hp']
  · rw [hrest, hp']
  · rw [hrest, hp']
  · rw [hrest, hp']
  · obtain ⟨n, ho, hnone⟩ := initialDecision_conflict hd
    obtain ⟨h1, h2, h3, h4⟩ := hcon hd
    refine ⟨h1, h2, h3, hconflict hd, _, h4, rfl, rfl, ?_, rfl, rfl, rfl, ?_⟩
    · show turnOf (setTurn d.2 p').p = _
      rw [hcount, hnone]
      rfl
    · have hside : o = .adjusted (adjustedTurn o) := by
        have ho' : o = .adjusted n := ho
        rw [ho']
        rfl
      exact hside

end Sys2Proof.Machine
end

section
/-! The other ends of a coarse read (O39). -/

namespace Sys2Proof.Machine

/-! ### A coarse read that ends failed (R36, R38) -/

/-- A command that ends the coarse read failed. -/
def FailsCoarse (c : Instr) : Prop :=
  (∃ ack, c = .encoderReadTimeout .coarse ack) ∨ ∃ g error c1 c0, c = .encoderReadComplete (.coarse g error c1 c0) ∧
    (checkBitsRight (g.zeroExtend 14) error c1 c0 = false ∨ error = true)

section
variable {s : State}

theorem exec_failsCoarse {c : Instr} (hc : FailsCoarse c) (hr : s.enc.coarse.reading = true) :
    ∃ cause x, exec c s = .next (conclude s (coarseFailed cause x)) ∧ SameDecider s x ∧ x.work = s.work := by
  rcases hc with ⟨ack, rfl⟩ | ⟨g, error, c1, c0, rfl, hbad⟩
  · have hread : failReading .coarse ack .timeout s = coarseFailed .timeout (noteResponse .coarse ack s) := if_pos hr
    refine ⟨.timeout, noteResponse .coarse ack s, congrArg (fun t => Host.Outcome.next (conclude s t)) hread, ?_, ?_⟩
    · cases ack <;> exact ⟨rfl, rfl, rfl, rfl, rfl, rfl⟩
    · cases ack <;> rfl
  · obtain ⟨cause, hcause⟩ := wordEnding_bad hbad
    exact ⟨cause, portResponded .coarse s,
      congrArg (fun t => Host.Outcome.next (conclude s t)) (readComplete_coarse_failed hr hcause),
      ⟨rfl, rfl, rfl, rfl, rfl, rfl⟩, rfl⟩

/-- A failed read evaluates without a coarse angle (R16). -/
theorem failsCoarse_evaluates {c : Instr} {joint : Joint} (hc : FailsCoarse c) (hr : s.enc.coarse.reading = true)
    (hs : s.inHoming = false) (hv : s.cal.valid = true) (hj : s.work.joint = some joint) (he : s.work.evaluated = false) :
    ∃ e w, exec c s = .next (conclude s (evaluate joint e w)) ∧ SameDecider s w ∧ w.coarseUsable = false := by
  obtain ⟨cause, x, hexec, hsame, hwork⟩ := exec_failsCoarse hc hr
  have hx : x.inHoming = false := by rw [State.inHoming, hsame.node]; exact hs
  obtain ⟨v, hv', h1, h2, h3, h4, h5, h6, h7⟩ := coarseFailed_outside cause hx
  rw [hwork] at h7
  have hfailed : v.work.coarse = .failed := by rw [h7]
  obtain ⟨e, f, heval⟩ := coarseEvaluate_exists (s := v) (joint := joint) (by rw [h3, hsame.cal]; exact hv)
    (by simp [State.coarseEnded, hfailed]) (by rw [h7]; exact he) (by rw [h7]; exact hj)
  rw [hv', heval] at hexec
  exact ⟨e, v.setFree f, hexec, ⟨h1.trans hsame.node, h2.trans hsame.pos, h3.trans hsame.cal, h4.trans hsame.ret,
    h5.trans hsame.setup, h6.trans hsame.epoch⟩, coarseUsable_of_not (s := v.setFree f) (.inl hfailed)⟩

/-- A good read evaluates with its angle (R16). -/
theorem goodCoarse_evaluates {g : CoarseAngle} {c1 c0 : Bool} {joint : Joint} (hr : s.enc.coarse.reading = true)
    (hok : checkBitsRight (g.zeroExtend 14) false c1 c0 = true) (ha : s.active .coarseEncoder = false)
    (hv : s.cal.valid = true) (hj : s.work.joint = some joint) (he : s.work.evaluated = false) :
    ∃ e w, exec (.encoderReadComplete (.coarse g false c1 c0)) s = .next (conclude s (evaluate joint e w)) ∧
      SameDecider s w ∧ w.coarseUsable = true ∧ w.work.coarse = .good g := by
  obtain ⟨e, f, heval⟩ := coarseEvaluate_exists (s := coarseRead g s) (joint := joint) hv rfl he hj
  have hread : readComplete (.coarse g false c1 c0) s = evaluate joint e ((coarseRead g s).setFree f) := by
    rw [readComplete_coarse_good hr hok, coarseGood_of_inactive g ha, heval]
  exact ⟨e, (coarseRead g s).setFree f, congrArg (fun t => Host.Outcome.next (conclude s t)) hread,
    ⟨rfl, rfl, rfl, rfl, rfl, rfl⟩, coarseUsable_of_good (s := (coarseRead g s).setFree f) rfl ha, rfl⟩

/-! ### The INITIAL decision without a coarse angle (R68) -/

theorem vernier_unavailable (cal : WorkingCal) (known : Bool) (base k : Int) (θ : Theta) (guide : Option Int) :
    vernier cal false known base k θ guide = ⟨.unavailable, 0, 0, 0, 0⟩ := rfl

theorem initialDecision_taken {ra va : Bool} {o : RetainedOutcome} {n : Int} (hr : ra = true) (ho : o = .adjusted n) :
    initialDecision ra va o ⟨.unavailable, 0, 0, 0, 0⟩ = (.retainedAlone, some n) := by
  subst hr ho
  rfl

theorem initialDecision_untaken {ra va : Bool} {o : RetainedOutcome} (h : ¬(ra = true ∧ ∃ n, o = .adjusted n)) :
    initialDecision ra va o ⟨.unavailable, 0, 0, 0, 0⟩ = (.insufficient, none) := by
  cases o with
  | adjusted n =>
    have hr : ra = false := by
      rw [← Bool.not_eq_true]
      exact fun hr => h ⟨hr, n, rfl⟩
    subst hr
    rfl
  | unusable w => rfl

theorem initial_withoutCoarse {c : Instr} {joint : Joint} (hc : FailsCoarse c) (hr : s.enc.coarse.reading = true)
    (hs : s.node.state = .restoring .decide) (hp : s.node.phase = .initial) (hv : s.cal.valid = true)
    (habs : s.pos.abs = false) (hj : s.work.joint = some joint) (he : s.work.evaluated = false)
    (m : MirrorFollowsCount s) :
    let o := retainedOutcome s.ret.record s.node.continuity (quadrantOf s.pos.thetaLast)
    let taken := s.setup.latched.retainedAlone = true ∧ ∃ n, o = .adjusted n
    ∃ t, exec c s = .next t ∧ t.pos.usable = false ∧ t.ret.mirror = mirrorView false t.pos ∧ t.ret.record = s.ret.record ∧
      t.node.report.vernier = some ⟨.unavailable, 0, 0, 0, 0⟩ ∧ t.node.report.outcome = some o ∧
      t.node.report.decideTag = some s.epoch.count ∧
      (∀ n, o = .adjusted n → taken → t.node.report.decision = .retainedAlone ∧ t.node.state = .referenced ∧
        t.node.basis = .retained ∧ t.node.confirmed = false ∧ t.pos.abs = true ∧
        t.pos.p = n * 16384 + (s.pos.thetaLast.toNat : Int)) ∧
      (¬taken → t.node.report.decision = .insufficient ∧ t.node.state = .unreferenced ∧ t.node.reason = .insufficient ∧
        t.node.basis = .none ∧ t.pos.abs = false ∧ t.pos.p = s.pos.p) := by
  intro o taken
  obtain ⟨e, w, hexec, hsame, hunusable⟩ := failsCoarse_evaluates hc hr (by simp [State.inHoming, hs]) hv hj he
  have hset := initial_settles hsame hs hp hunusable hexec (conclude_settles s _) m
  have hplay := restoredPlay_spec (workingCal_h_nonneg s.cal) s.ret.record (quadrantOf s.pos.thetaLast) s.pos
  simp only [coarseResult_unusable, vernier_unavailable] at hset
  obtain ⟨hpos, hrec, hmirror, hnode, -⟩ := hset
  obtain ⟨d, hd⟩ : ∃ d, d = initialDecision s.setup.latched.retainedAlone s.setup.latched.vernierAlone o
    ⟨.unavailable, 0, 0, 0, 0⟩ := ⟨_, rfl⟩
  obtain ⟨u, hu⟩ : ∃ u, u = { restoredPlay s.cal.h s.ret.record (quadrantOf s.pos.thetaLast) s.pos with
    evaluated := true, usable := false, lastE := e
    lastSj := playJoint s.cal.data (restoredPlay s.cal.h s.ret.record (quadrantOf s.pos.thetaLast) s.pos).s } := ⟨_, rfl⟩
  rw [← hd, ← hu] at hpos hnode
  have hθ : u.thetaLast = s.pos.thetaLast := by rw [hu, hplay]
  have hup : u.p = s.pos.p := by rw [hu, hplay]
  have hua : u.abs = false := by rw [hu, hplay]; exact habs
  have hcount := setTurn_p d.2 hθ hup
  obtain ⟨hturned, hrest⟩ := setTurn_spec d.2 u
  refine ⟨_, hexec, ?_⟩
  rw [hmirror, hrec, hnode, hpos]
  refine ⟨by rw [hrest, hu], rfl, rfl, rfl, rfl, rfl, fun n ho ht => ?_, fun ht => ?_⟩
  · rw [initialDecision_taken ht.1 ho] at hd
    obtain ⟨-, hret, -⟩ := decidedNode_of d.1 (initialReport s.node.report s.ret.record (quadrantOf s.pos.thetaLast) o
      ⟨.unavailable, 0, 0, 0, 0⟩ (initialGuide s.cal.data o s.pos.thetaLast joint.k).isSome d.1 s.epoch.count)
      (conflictOf .initial (adjustedTurn o) ⟨.unavailable, 0, 0, 0, 0⟩ (setTurn d.2 u) s.epoch.count) s.node
    obtain ⟨h1, h2, h3⟩ := hret (by rw [hd])
    refine ⟨by rw [hd]; rfl, h1, h2, h3, ?_, ?_⟩
    · rw [hturned hua, hd]
      rfl
    · rw [hcount, hd]
  · rw [initialDecision_untaken ht] at hd
    obtain ⟨-, -, -, hins, -⟩ := decidedNode_of d.1 (initialReport s.node.report s.ret.record (quadrantOf s.pos.thetaLast) o
      ⟨.unavailable, 0, 0, 0, 0⟩ (initialGuide s.cal.data o s.pos.thetaLast joint.k).isSome d.1 s.epoch.count)
      (conflictOf .initial (adjustedTurn o) ⟨.unavailable, 0, 0, 0, 0⟩ (setTurn d.2 u) s.epoch.count) s.node
    obtain ⟨h1, h2, h3⟩ := hins (by rw [hd])
    refine ⟨by rw [hd]; rfl, h1, h2, h3, ?_, ?_⟩
    · rw [hturned hua, hd]
      rfl
    · rw [hcount, hd]

/-! ### The confirmation (R73) -/

/-- A confirmation that ends with decision d on vernier v. -/
structure Confirms (s : State) (d : RestoreDecision) (v : VernierResult) (t : State) : Prop where
  pos : t.pos.p = s.pos.p ∧ t.pos.driftRun = 0 ∧ t.pos.abs = (s.pos.abs && d != .conflict)
  node : ∃ basis, t.node = confirmedNode d (confirmReport s.node.report (s.pos.p / 16384) (quadrantOf s.pos.thetaLast) v d
    basis s.epoch.count) ⟨.confirmation, s.pos.p / 16384, v.tv, s.pos.p / 16384, v.r, v.margin, s.epoch.count⟩ s.node
  conflict : d = .conflict → kindHas t.faults.active .restoreConflict = true

theorem confirmation_settles {w t : State} {joint : Joint} {e : Int} {b : Bool} (hw : SameDecider s w)
    (hs : s.node.state = .restoring .decide) (hp : s.node.phase = .confirmation) (hb : w.coarseUsable = b)
    (ht : Settles s (evaluate joint e w) t) :
    let sj := playJoint s.cal.data s.pos.s
    let u := coarseResult s.cal.data b w.work.coarse e sj s.pos
    let v := vernier s.cal b s.pos.playKnown (u.jg + sj) joint.k s.pos.thetaLast (some joint.j)
    Confirms s (confirmDecision (s.pos.p / 16384) v) v t := by
  intro sj u v
  obtain ⟨z, hz⟩ : ∃ z, z = evaluated e w := ⟨_, rfl⟩
  have hzpos : z.pos = u := by
    rw [hz]
    show coarseResult w.cal.data w.coarseUsable w.work.coarse e (playJoint w.cal.data w.pos.s) w.pos = u
    rw [hw.cal, hw.pos, hb]
  have hznode : z.node = s.node := by rw [hz]; exact hw.node
  have hzcal : z.cal = s.cal := by rw [hz]; exact hw.cal
  have hzepoch : z.epoch = s.epoch := by rw [hz]; exact hw.epoch
  have hu : u = { s.pos with
      evaluated := true, usable := u.usable, gq := u.gq, jg := u.jg, lastE := e, lastSj := sj } :=
    coarseResult_common _ _ _ _ _ _
  have hθ : u.thetaLast = s.pos.thetaLast := by rw [hu]
  have hup : u.p = s.pos.p := by rw [hu]
  have hua : u.abs = s.pos.abs := by rw [hu]
  have hknown : u.playKnown = s.pos.playKnown := by rw [hu]
  have heval := evaluate_confirmation (s := w) (by rw [hw.node]; exact hs) (by rw [hw.node]; exact hp) joint e
  rw [← hz, hb, hw.cal, hw.pos, hzpos] at heval
  have hspec := decideConfirmation_spec joint (u.jg + sj) b (s := z) (by simp [State.inHoming, hznode, hs])
  rw [← heval, hzpos, hznode, hzcal, hzepoch, hθ, hknown, hup, hua] at hspec
  obtain ⟨h1, h2, h3⟩ := hspec
  obtain ⟨-, -, -, -, hpos, -, -, -, -, hnode, -, -, -, -, -, hfaults, -⟩ := ht.frame
  have hconf (x : PositionUnit) (hx : x.p = s.pos.p) : conflictOf .confirmation (turnOf s.pos.p) v x s.epoch.count =
      ⟨.confirmation, s.pos.p / 16384, v.tv, s.pos.p / 16384, v.r, v.margin, s.epoch.count⟩ := by
    rw [conflictOf, hx]
    rfl
  refine ⟨?_, ⟨if confirmDecision (s.pos.p / 16384) v = .conflict then .none else s.node.basis, ?_⟩, ?_⟩
  · rw [hpos, h1]
    exact ⟨hup, rfl, rfl⟩
  · refine hnode.trans (h2.trans ?_)
    rw [hconf]
    · rfl
    · exact hup
  · rw [hfaults]
    exact h3

/-- How the parts of a confirmation show (R73, R76). -/
theorem Confirms.shows {d : RestoreDecision} {v : VernierResult} {t : State} (h : Confirms s d v t)
    (habs : s.pos.abs = true) :
    t.node.report.decision = d ∧ t.node.report.phase = .confirmation ∧ t.node.report.live = true ∧
      t.node.report.tRet = s.pos.p / 16384 ∧ t.node.report.vernier = some v ∧
      t.node.report.decideTag = some s.epoch.count ∧ t.pos.p = s.pos.p ∧ t.pos.driftRun = 0 ∧
      (d ≠ .conflict → t.node.state = .referenced ∧ t.node.reason = .none ∧ t.node.basis = s.node.basis ∧
        t.node.confirmed = s.node.confirmed ∧ t.node.conflict = s.node.conflict ∧ t.pos.abs = true) ∧
      (d = .conflict → t.node.state = .unreferenced ∧ t.node.reason = .conflict ∧ t.node.basis = .none ∧
        t.node.confirmed = false ∧ t.pos.abs = false ∧ kindHas t.faults.active .restoreConflict = true ∧
        t.node.conflict = some ⟨.confirmation, s.pos.p / 16384, v.tv, s.pos.p / 16384, v.r, v.margin, s.epoch.count⟩) := by
  obtain ⟨⟨hp, hd, ha⟩, ⟨basis, hnode⟩, hconflict⟩ := h
  by_cases hc : d = .conflict
  · rw [confirmedNode, if_pos hc] at hnode
    rw [hnode, ha]
    exact ⟨rfl, rfl, rfl, rfl, rfl, rfl, hp, hd, fun hn => absurd hc hn,
      fun _ => ⟨rfl, rfl, rfl, rfl, by simp [hc], hconflict hc, rfl⟩⟩
  · rw [confirmedNode, if_neg hc] at hnode
    rw [hnode, ha]
    exact ⟨rfl, rfl, rfl, rfl, rfl, rfl, hp, hd, fun _ => ⟨rfl, rfl, rfl, rfl, rfl, by simp [hc, habs]⟩,
      fun hn => absurd hn hc⟩

theorem confirmDecision_spec (live : Int) (v : VernierResult) :
    (v.status = .clear → v.tv = live → confirmDecision live v = .reconfirmed) ∧
      (v.status = .clear → v.tv ≠ live → confirmDecision live v = .conflict) ∧
      (v.status ≠ .clear → confirmDecision live v = .kept) := by
  refine ⟨fun hc ht => ?_, fun hc ht => ?_, fun hc => if_neg hc⟩
  · rw [confirmDecision, if_pos hc, if_pos ht]
  · rw [confirmDecision, if_pos hc, if_neg ht]

/-! ### The coarse read of a settled node (R16, R20, R21) -/

/-- What a good coarse read leaves beside its evaluation. -/
def HeardCoarse (g : CoarseAngle) (s t : State) : Prop :=
  t.work.coarse = .good g ∧ t.enc.motor = s.enc.motor ∧
    t.enc.coarse = { s.enc.coarse with
      reading := false, failRun := 0, goodRun := if s.enc.coarse.goodRun < 255 then s.enc.coarse.goodRun + 1 else 255 } ∧
    t.selfCheck = { s.selfCheck with coarsePort := .present } ∧ t.pos.p = s.pos.p

theorem exec_goodCoarse {g : CoarseAngle} {c1 c0 : Bool} (hr : s.enc.coarse.reading = true)
    (hok : checkBitsRight (g.zeroExtend 14) false c1 c0 = true) (ha : s.active .coarseEncoder = false) :
    ∃ t, exec (.encoderReadComplete (.coarse g false c1 c0)) s = .next t ∧
      Settles s (coarseEvaluate (coarseRead g s)) t ∧ (t.pos.p = s.pos.p → HeardCoarse g s t) := by
  have hread : readComplete (.coarse g false c1 c0) s = coarseEvaluate (coarseRead g s) := by
    rw [readComplete_coarse_good hr hok, coarseGood_of_inactive g ha]
  have ht := conclude_settles s (coarseEvaluate (coarseRead g s))
  obtain ⟨-, -, -, henc, -, hwork, -, -, -, -, -, -, -, -, hself, -⟩ := ht.frame
  have hkept : (coarseEvaluate (coarseRead g s)).enc = (coarseRead g s).enc ∧
      (coarseEvaluate (coarseRead g s)).selfCheck = (coarseRead g s).selfCheck ∧
      (coarseEvaluate (coarseRead g s)).work.coarse = (coarseRead g s).work.coarse := by simp
  obtain ⟨h1, h2, h3⟩ := hkept
  refine ⟨_, congrArg (fun t => Host.Outcome.next (conclude s t)) hread, ht, fun hp => ?_⟩
  rw [HeardCoarse, henc, hwork, hself, h1, h2, h3]
  exact ⟨rfl, rfl, rfl, rfl, hp⟩

end

/-- Settles O39. -/
theorem coarseReadElsewhere : Obligations.CoarseReadElsewhere := by
  refine ⟨fun c joint s hc hr hs hp hv habs hj he m => initial_withoutCoarse hc hr hs hp hv habs hj he m,
    fun c joint s hr hs hp hv habs hj hje he => ?_, fun g c1 c0 s hr hok ha hnode => ?_⟩
  · intro live went
    refine ⟨fun hc => ?_, fun g c1 c0 hc hok ha => ?_⟩
    · obtain ⟨e, w, hexec, hsame, hunusable⟩ := failsCoarse_evaluates hc hr (by simp [State.inHoming, hs]) hv hj he
      exact ⟨_, hexec, (confirmation_settles hsame hs hp hunusable (conclude_settles s _)).shows habs⟩
    · intro base v
      subst hc
      obtain ⟨e, w, hexec, hsame, husable, hwc⟩ := goodCoarse_evaluates hr hok ha hv hj he
      have hset := confirmation_settles hsame hs hp husable (conclude_settles s (evaluate joint e w))
      rw [hwc] at hset
      have hshows : went (confirmDecision live v) v (conclude s (evaluate joint e w)) := hset.shows habs
      obtain ⟨hre, hcon, hkept⟩ := confirmDecision_spec live v
      refine ⟨_, hexec, fun h ht => ?_, fun h ht => ?_, fun h => ?_⟩
      · rw [← hre h ht]
        exact hshows
      · rw [← hcon h ht]
        exact hshows
      · rw [← hkept h]
        exact hshows
  · intro heard
    obtain ⟨t, hexec, ht, hheard⟩ := exec_goodCoarse hr hok ha
    obtain ⟨-, -, -, -, hpos, hwork, -, -, -, htn, -, -, -, -, -, hfaults, -⟩ := ht.frame
    refine ⟨fun h => ⟨t, hexec, ?_⟩, fun joint e hj hje hv he => ?_⟩
    · have hidle : coarseEvaluate (coarseRead g s) = coarseRead g s := coarseEvaluate_idle h
      rw [hidle] at hpos htn
      exact ⟨hheard (by rw [hpos]; rfl), hpos, htn⟩
    · intro jg sj u runs past
      have heval : coarseEvaluate (coarseRead g s) = evaluate joint e (coarseRead g s) :=
        coarseEvaluate_of hv rfl he hj hje
      have husable : (coarseRead g s).coarseUsable = true := coarseUsable_of_good (s := coarseRead g s) rfl ha
      have hu : (evaluated e (coarseRead g s)).pos = u := by
        show coarseResult s.cal.data (coarseRead g s).coarseUsable (.good g) e sj s.pos = u
        rw [husable, coarseResult_usable]
      have hsettled : settledNode (coarseRead g s) := hnode
      obtain ⟨hework, hidle, hwithin, hcount, hraise⟩ := evaluate_settled_spec hsettled joint e
      have hp := evaluate_settled_pos hsettled joint e
      rw [heval] at hpos hwork htn hfaults
      rw [← hpos, hu] at hp
      rw [← hpos, ← htn, ← hfaults, husable, hu] at hraise
      rw [← hpos, ← htn, husable, hu] at hidle hwithin hcount
      rw [← hwork] at hework
      have hruns : runs → true = true ∧ (∀ px, (coarseRead g s).work.motor ≠ .extrapolated px) ∧
          (coarseRead g s).node.state = .referenced := fun h => ⟨rfl, h.2, h.1⟩
      refine ⟨t, hexec, hheard (by rw [hp]), by rw [hework], fun h => ?_, fun h hd => ?_, fun h hd hn => ?_,
        fun h hd hn => ?_⟩
      · exact hidle fun h' => h ⟨h'.2.2, h'.2.1⟩
      · exact hwithin (hruns h) (not_lt.mp hd)
      · exact hcount (hruns h) hd hn
      · obtain ⟨h1, h2, h3⟩ := hraise (hruns h) hd hn
        refine ⟨h1, h2, fun hsa => ?_⟩
        rw [h3 hsa]

end Sys2Proof.Machine
end
